-- ==== Sys2Proof/Word.lean ====
section
/-! DEFINITION. The word, index and pin-bundle types of the part, and nothing that computes more than
their plainest arithmetic. -/

namespace Sys2Proof

/-- A shared-memory word, a register, a host data or address value: 16 bits. -/
abbrev Word := BitVec 16

/-- A 32-bit field of a record, a 32-bit wrapping count, or a Run Milliseconds value. -/
abbrev Word32 := BitVec 32

/-- An 8-bit revision, tag or mod-256 count (R2). -/
abbrev Byte8 := BitVec 8

/-- One stored word of the shared memory: data in bits 15..0, the parity bit of the low byte in
bit 16 and the parity bit of the high byte in bit 17 (section 1.4). -/
abbrev StoredWord := BitVec 18

/-- Sockets are numbered 0 to 31 (R1). -/
abbrev SocketIx := Fin 32

/-- Banks are numbered 0 to 7 (R1). -/
abbrev BankIx := Fin 8

/-- Lanes are numbered 0 to 15 within a socket (R1). -/
abbrev LaneIx := Fin 16

/-- One bit for each lane of each socket, socket s lane l at bit 16 s + l: what the eight lane links
return for one vector. -/
abbrev LaneBits := BitVec 512

/-- Bank b holds sockets 4b to 4b+3 (R1). -/
def bankOf (s : SocketIx) : BankIx := ⟨s.val / 4, by omega⟩

end Sys2Proof
end

