-- ==== Sys2Proof/Syntax.lean ====
section
/-! DEFINITION. The commands of the part: one constructor for each row of spec/opcode_table.json, with
the values that reach the part with it as its operands. -/

namespace Sys2Proof

/-- What the host strobes in a cycle that makes no memory access: the strobe and select combinations of
R5 that start no access, and the register read, which has no row of its own in the table (log entry
14). R5 speaks of both strobes together and of both or neither select in two bullets that overlap; the model
takes both strobes together as `bothStrobes` whatever the selects are, and the two combinations of selects
for one strobe alone (DESIGN CHOICE, log entry 49). -/
inductive NoAccessStrobe where
  /-- the read strobe with both selects asserted -/
  | bothSelectsRead
  /-- the write strobe with both selects asserted -/
  | bothSelectsWrite
  /-- both strobes asserted together, with any selects (log entry 49) -/
  | bothStrobes
  /-- one strobe with neither select asserted -/
  | neitherSelect
  /-- the read strobe with the register select: the host address pins carry a register offset (R5, R10) -/
  | registerRead (addr : Word)
deriving DecidableEq, Repr

/-- The request of a host memory cycle: the word address on the host address pins, and whether it arrives at
the same moment as the sweep start event that is due (R12, R23; log entry 32). -/
structure HostRequest where
  addr : Word
  withSweepStart : Bool
deriving DecidableEq, Repr

/-- An event of another block, or of the host port, that can fall within a sweep while the memory port is free
of transfers: between two works of a socket visit (R171), or between two transfers (R13). It is the row of the
same name, with its operands (log entries 37 and 40). -/
inductive VisitEvent where
  | senseTick
  | railSample (sock : SocketIx) (voltage current : Word)
  | dropout (sock : SocketIx) (voltage current : Word)
  | openContact (sock : SocketIx) (voltage current : Word)
  | fastTrip (sock : SocketIx) (level : Bool)
  | chainStart (bank : BankIx)
  | socketHoldOffExpiry (sock : SocketIx)
  | bankFeedSample (bank : BankIx) (current : Word32)
  | bankHoldOffExpiry (bank : BankIx)
  | sensorSample (sock : SocketIx) (code : Option Word)
  | pwmTick
  | frameBoundary
  | laneVectorSample (received loopback : LaneBits) (onTick : Bool)
  | selftestTimeout (sock : SocketIx)
  | interlockAssert
  | interlockRelease
  | hostMemoryRead (addr : Word)
  | hostMemoryWrite (addr data : Word)
  | hostCycleWithoutAccess (strobe : NoAccessStrobe)
  | hostAccessComplete
  | hostStrobeRelease
  /-- the write to ATTENTION -/
  | attentionWrite (data : Word)
  /-- the write to ATTENTION MASK -/
  | attentionMaskWrite (data : Word)
  /-- a register write to an offset that no write reaches -/
  | registerWriteIgnored
  /-- the CONTROL write that stores SCAN_ENABLE 0 -/
  | scanDisable
  /-- the CONTROL write that stores SCAN_ENABLE 1 -/
  | scanEnable
  | sweepStart
deriving DecidableEq, Repr

/-- Where the Thermal Control Unit's work of a socket visit falls among the three works of the Socket
Accounting Unit, which R171 orders: crediting, phase decisions, interval start. R110 and R120 take either
block first (log entry 19). -/
inductive ThermalPlace where
  /-- before the crediting -/
  | first
  /-- between the crediting and the phase decisions -/
  | afterCredit
  /-- between the phase decisions and the interval start -/
  | afterDecide
  /-- after the interval start -/
  | last
deriving DecidableEq, Repr

/-- The order of one socket visit: the place of the thermal work, which makes the four works a sequence, and
the events of other blocks and of the host port that fall before the first work, between each two, and after
the last, before the next transfer is asked for (R171, R13). -/
structure VisitOrder where
  thermal : ThermalPlace
  gap0 : List VisitEvent := []
  gap1 : List VisitEvent := []
  gap2 : List VisitEvent := []
  gap3 : List VisitEvent := []
  gap4 : List VisitEvent := []
deriving DecidableEq, Repr

/-- The events of the five gaps of a visit, in their order. -/
def VisitOrder.events (o : VisitOrder) : List VisitEvent := o.gap0 ++ o.gap1 ++ o.gap2 ++ o.gap3 ++ o.gap4

/-- A visit at which no event of another block or of the host port falls. -/
def VisitOrder.quiet (o : VisitOrder) : Bool := o.events.isEmpty

/-- The commands: one constructor per row of the table, in its order. -/
inductive Instr where
  /-- HOST_MEMORY_READ (R7): read strobe with the memory select. -/
  | hostMemoryRead (req : HostRequest)
  /-- HOST_MEMORY_WRITE (R8, R9): write strobe with the memory select; the data pins. -/
  | hostMemoryWrite (req : HostRequest) (data : Word)
  /-- HOST_CYCLE_WITHOUT_ACCESS (R5). -/
  | hostCycleWithoutAccess (strobe : NoAccessStrobe)
  /-- HOST_STROBE_RELEASE (R5, R6). -/
  | hostStrobeRelease
  /-- HOST_ACCESS_COMPLETE (R12). -/
  | hostAccessComplete
  /-- SCAN_ENABLE_SET (R17, R23): a register write cycle; address pins and data pins. -/
  | scanEnableSet (addr data : Word)
  /-- SCAN_DISABLE (R17, R63). -/
  | scanDisable (addr data : Word)
  /-- SOFT_RESET (R17, R22). -/
  | softReset (addr data : Word)
  /-- ATTENTION_WRITE (R19). -/
  | attentionWrite (addr data : Word)
  /-- ATTENTION_MASK_WRITE (R20). -/
  | attentionMaskWrite (addr data : Word)
  /-- REGISTER_WRITE_IGNORED (R10, R18, R21). -/
  | registerWriteIgnored (addr data : Word)
  /-- POWER_ON_RESET (R22): POR_N asserted. -/
  | powerOnReset
  /-- POR_RELEASE (R24): POR_N released. -/
  | porRelease
  /-- SWEEP_START (R23). -/
  | sweepStart
  /-- BCR_READ_COMPLETE (R27). Bit k of `upsets` is 1 when attempt k of the transfer meets a word that
  arrives with bad parity although the stored word is good (R16). `gap` holds the events that fall before the
  Scan Unit asks for its next transfer, the port free of transfers (R13; log entry 37); so in the other ends
  of transfers. -/
  | bcrReadComplete (upsets : BitVec 3) (gap : List VisitEvent := [])
  /-- START_RUN (R53), handed over with its Command Tag (R36). -/
  | startRun (tag : Byte8)
  /-- HOLD (R54). -/
  | hold (tag : Byte8)
  /-- RESUME (R54). -/
  | resume (tag : Byte8)
  /-- STOP_RUN (R55, R56). -/
  | stopRun (tag : Byte8)
  /-- LOAD_LANE_MAP (R57). -/
  | loadLaneMap (tag : Byte8)
  /-- FILL_LANE_MAP (R58) with the words of Fill Direction and Fill Level. -/
  | fillLaneMap (tag : Byte8) (direction level : Word)
  /-- CLEAR_ACCOUNTS (R59) with the Command Socket Mask. -/
  | clearAccounts (tag : Byte8) (mask : Word32)
  /-- DIAGNOSE (R60) with the Command Socket Mask. -/
  | diagnose (tag : Byte8) (mask : Word32)
  /-- SCR_READ_COMPLETE (R28), with the upsets of R16 and the order of the visit's work. -/
  | scrReadComplete (upsets : BitVec 3) (order : VisitOrder)
  /-- RUNAWAY (R118): the SCR read completion whose control update reaches the tenth. -/
  | runaway (upsets : BitVec 3) (order : VisitOrder)
  /-- SOAK_TIMEOUT (R120): the SCR read completion whose control update finds the timeout. -/
  | soakTimeout (upsets : BitVec 3) (order : VisitOrder)
  /-- FAIL_RECORD_WRITE_COMPLETE (R42). -/
  | failRecordWriteComplete (gap : List VisitEvent := [])
  /-- SSR_WRITE_COMPLETE (R46). -/
  | ssrWriteComplete (gap : List VisitEvent := [])
  /-- BSR_WRITE_COMPLETE (R45). -/
  | bsrWriteComplete (gap : List VisitEvent := [])
  /-- LANE_MAP_CHUNK_READ_COMPLETE (R43). -/
  | laneMapChunkReadComplete (upsets : BitVec 3) (gap : List VisitEvent := [])
  /-- SENSE_TICK (R24): one 1 ms tick. -/
  | senseTick
  /-- RAIL_SAMPLE (R67): the voltage in mV and the current in mA of one socket at the tick. -/
  | railSample (sock : SocketIx) (voltage current : Word)
  /-- SETTLE_TIMEOUT (R72): the sample that fails the settle. -/
  | settleTimeout (sock : SocketIx) (voltage current : Word)
  /-- DROPOUT (R74): the sample that brings the dropout count to 8. -/
  | dropout (sock : SocketIx) (voltage current : Word)
  /-- OPEN_CONTACT (R75): the sample that brings the open-contact count to 1,000. -/
  | openContact (sock : SocketIx) (voltage current : Word)
  /-- FAST_TRIP (R77): the level of a socket's fast-trip input, `true` for asserted. -/
  | fastTrip (sock : SocketIx) (level : Bool)
  /-- CHAIN_START (R70). -/
  | chainStart (bank : BankIx)
  /-- SOCKET_HOLD_OFF_EXPIRY (R79). -/
  | socketHoldOffExpiry (sock : SocketIx)
  /-- BANK_FEED_SAMPLE (R88): the feed current in mA. -/
  | bankFeedSample (bank : BankIx) (current : Word32)
  /-- BANK_HOLD_OFF_EXPIRY (R90). -/
  | bankHoldOffExpiry (bank : BankIx)
  /-- SENSOR_SAMPLE (R98): the raw code, or none for a slot with no code or a corrupted one. -/
  | sensorSample (sock : SocketIx) (code : Option Word)
  /-- SENSOR_LOST (R101): the invalid sample that makes the sensor LOST. -/
  | sensorLost (sock : SocketIx) (code : Option Word)
  /-- PWM_PERIOD_START (R114): the PWM tick at which the counter wraps. -/
  | pwmPeriodStart
  /-- FRAME_BOUNDARY (R124). -/
  | frameBoundary
  /-- LANE_VECTOR_SAMPLE (R142): the levels received from the pins and through the loopback paths; `onTick` says
  whether the vector ends at the moment of the latest sense tick, and not after it (R152; log entry 25). -/
  | laneVectorSample (received loopback : LaneBits) (onTick : Bool := false)
  /-- START_PULSE_BEGIN (R150): the vector at whose end a socket's start pulse begins. -/
  | startPulseBegin (sock : SocketIx) (received loopback : LaneBits) (onTick : Bool := false)
  /-- START_PULSE_END (R150): the vector at whose end a socket's start pulse ends. -/
  | startPulseEnd (sock : SocketIx) (received loopback : LaneBits) (onTick : Bool := false)
  /-- SELFTEST_TIMEOUT (R152). -/
  | selftestTimeout (sock : SocketIx)
  /-- INTERLOCK_ASSERT (R61). -/
  | interlockAssert
  /-- INTERLOCK_RELEASE (R62). -/
  | interlockRelease
  /-- PWM_TICK (R115). -/
  | pwmTick
deriving DecidableEq, Repr

end Sys2Proof
end

