-- ==== Sys2Proof/Decode.lean ====
section
/-! DEFINITION. The commands spelled by words: the table gives no row any bits. -/

namespace Sys2Proof

/-- The command that a word spells by the table's bits. No row of the table has bits (every row's
`fields` is empty and it has no `fixed`), so no word spells a command. -/
def decodeTableWord (_nbits _w : Nat) : Option Instr := none

end Sys2Proof
end

