-- ==== Sys2Proof/Machine/State.lean ====
section
/-! DEFINITION. The state of the part as plain data: the Shared Memory Controller, the Scan Unit, Board
Run Control, the eight banks, the 32 sockets, the Pattern Exerciser's board-wide part, the time base,
the input pins, the external shared memory and the queue of waiting commands; and the state after
reset. -/

namespace Sys2Proof.Machine

/-! ## Enumerations -/

/-- Board states (R48, TABLE 3-1). -/
inductive BoardState where
  | stopped | running | holding | stopping
deriving DecidableEq, Repr

/-- Hold reasons (R48). -/
inductive HoldReason where
  | none | command | interlock | scanOff
deriving DecidableEq, Repr

/-- STATUS fault kind (R21). -/
inductive FaultKind where
  | none | writeProtect | parity
deriving DecidableEq, Repr

/-- The owner of the memory port (R12). -/
inductive PortOwner where
  | none | host | scan
deriving DecidableEq, Repr

/-- The two requesters of the memory port (R12). -/
inductive Requester where
  | host | scan
deriving DecidableEq, Repr

/-- The attention causes of TABLE 1-7, in the bit order of TABLE 1-6. -/
inductive Cause where
  | failPosted | socketEnded | commandDone | commandRefused | runFinished | interlock
  | bankTrip | sweepOverrun | controlStale | writeProtect | parity
deriving DecidableEq, Repr

/-- Config Result (R32 to R34). -/
inductive ConfigResult where
  | pending | adopted | clamped | rejected
deriving DecidableEq, Repr

/-- Adoption Result (R40). -/
inductive GateResult where
  | adopted | clamped | rejected | stale
deriving DecidableEq, Repr

/-- Reject Reason (R40). -/
inductive RejectReason where
  | none | badCode | laneRole | synchronizing
deriving DecidableEq, Repr

/-- Generator Restart (TABLE 2-1). -/
inductive Restart where
  | restart | continuous
deriving DecidableEq, Repr

/-- Exercise Mode (TABLE 12-3). -/
inductive ExMode where
  | idle | pattern | selftest
deriving DecidableEq, Repr

/-- End Action (TABLE 12-3). -/
inductive EndAction where
  | powerOff | holdPowered
deriving DecidableEq, Repr

/-- Kind Action (TABLE 11-3). -/
inductive KindAction where
  | ignore | log | strike | retire
deriving DecidableEq, Repr

/-- The eight condition kinds (TABLE 11-2). -/
inductive Kind where
  | compare | selftestFail | selftestTimeout | railTrip | railRegulation | openContact
  | thermal | sensorLost
deriving DecidableEq, Repr

/-- Socket phases (TABLE 10-1). -/
inductive Phase where
  | empty | waiting | powering | soaking | stressing | held | complete | retired
deriving DecidableEq, Repr

/-- Resume Phase (R158). -/
inductive ResumePhase where
  | none | powering | soaking | stressing
deriving DecidableEq, Repr

/-- Rail states (TABLE 4-1). TRIPPED and LOCKOUT are left within the event that enters them. -/
inductive RailState where
  | off | chainWait | rampUp | settle | on | slew | tripped | holdOff | lockout | rampDown
deriving DecidableEq, Repr

/-- Hold-off kinds (R66). -/
inductive HoldKind where
  | socket | bank
deriving DecidableEq, Repr

/-- Sensor states (TABLE 6-1); the counts n are held apart. -/
inductive SensorState where
  | noSample | tracking | suspect | invalid | lost
deriving DecidableEq, Repr

/-- The saturation record (R107). -/
inductive SatRecord where
  | none | high | low
deriving DecidableEq, Repr

/-- Which output a PWM period drives (R107). -/
inductive Side where
  | none | heater | cooler
deriving DecidableEq, Repr

/-- Lane direction (TABLE 8-2). -/
inductive Direction where
  | off | drive | sense
deriving DecidableEq, Repr

/-- Idle Level and Fill Level (TABLE 8-2, R58). -/
inductive IdleLevel where
  | low | high | float
deriving DecidableEq, Repr

/-- Lane sources (TABLE 8-1). -/
inductive Source where
  | gen (g : Fin 4)
  | count (k : Fin 16)
  | constant
  | clock
deriving DecidableEq, Repr

/-- Exercise states (TABLE 8-4). -/
inductive ExState where
  | stopped | armed | running | paused | suspended | diag
deriving DecidableEq, Repr

/-- Self-test cycle states (TABLE 9-1). -/
inductive CycleState where
  | noCycle | startDelay | startPulse | awaitingDone | cycleEnded
deriving DecidableEq, Repr

/-- Diag Result (R156). -/
inductive DiagResult where
  | notRun | pass | fail
deriving DecidableEq, Repr

/-- Bins (TABLE 11-1). -/
inductive Bin where
  | none | pass | passWithEvents | incomplete | failFunctional | failPower | noContact
  | failThermal | boardFault
deriving DecidableEq, Repr

/-- Retire Kind (TABLE 11-1). -/
inductive RetireKind where
  | none
  | kind (k : Kind)
  | lockout
  | diagnosis
  | bankLock
deriving DecidableEq, Repr

/-- Command Codes (TABLE 12-1). -/
inductive CmdCode where
  | startRun | hold | resume | stopRun | loadLaneMap | fillLaneMap | clearAccounts | diagnose
deriving DecidableEq, Repr

/-- Command steps (TABLE 3-5). -/
inductive CmdStep where
  | ramping | reading | swapWait | firstHalf | secondHalf | frameWait | diagFrame | doneWait
deriving DecidableEq, Repr

/-- Command Result (TABLE 3-4). -/
inductive CmdResult where
  | none | success | aborted | badMap | parity
deriving DecidableEq, Repr

/-- Refusal Reason (TABLE 3-4). -/
inductive RefusalReason where
  | none | busy | state | config | badCode
deriving DecidableEq, Repr

/-! ## Settings and configuration -/

/-- The numeric fields of a Socket Control Record (TABLE 2-2), as read or as validated. -/
structure Numbers where
  railSetpoint : Nat
  rampRate : Nat
  settleTimeout : Nat
  regTolerance : Nat
  fastLimit : Nat
  slowLimit : Nat
  minCurrent : Nat
  tripRetryLimit : Nat
  tripHoldOff : Nat
  tempSetpoint : Int
  tempWindow : Nat
  kp : Nat
  ki : Nat
  filterShift : Nat
  heaterFullScale : Nat
  heaterLimit : Nat
  coolerLimit : Nat
  runawayMargin : Nat
  soakTime : Nat
  soakLimit : Nat
  winStart : Nat
  winLength : Nat
  errThreshold : Nat
  startLane : Nat
  doneLane : Nat
  passLane : Nat
  startDelay : Nat
  startWidth : Nat
  doneTimeout : Nat
  targetDwell : Nat
  strikeLimit : Nat
deriving DecidableEq, Repr

/-- The lower limits of TABLE 2-2: the numeric shadow settings after reset (R40). -/
def Numbers.reset : Numbers :=
  { railSetpoint := 400, rampRate := 1, settleTimeout := 1, regTolerance := 5, fastLimit := 100,
    slowLimit := 100, minCurrent := 0, tripRetryLimit := 0, tripHoldOff := 100,
    tempSetpoint := -640, tempWindow := 8, kp := 0, ki := 0, filterShift := 0,
    heaterFullScale := 100, heaterLimit := 0, coolerLimit := 0, runawayMargin := 16,
    soakTime := 0, soakLimit := 60, winStart := 0, winLength := 1, errThreshold := 1,
    startLane := 0, doneLane := 0, passLane := 0, startDelay := 0, startWidth := 1,
    doneTimeout := 1, targetDwell := 1, strikeLimit := 1 }

/-- The gated settings of a socket: the numbers and the enumerated fields (R38). -/
structure Settings where
  num : Numbers
  enable : Bool
  mode : ExMode
  endAction : EndAction
  /-- Kind Action by kind, kind code k at position k − 1 (TABLE 12-3). -/
  kindActions : Vector KindAction 8
deriving DecidableEq, Repr

/-- The reset shadow of R40. -/
def Settings.reset : Settings :=
  { num := Numbers.reset, enable := false, mode := .idle, endAction := .powerOff,
    kindActions := Vector.replicate 8 .ignore }

/-- The board configuration (TABLE 2-1). -/
structure BoardConfig where
  sweepPeriod : Nat
  staleLimit : Nat
  frameLength : Nat
  vectorRate : Nat
  absLimit : Int
  deadTime : Nat
  seeds : Vector (BitVec 15) 4
  restarts : Vector Restart 4
  budgets : Vector Nat 8
deriving DecidableEq, Repr

/-- The values of TABLE 2-1 after POR or soft reset. -/
def BoardConfig.reset : BoardConfig :=
  { sweepPeriod := 20, staleLimit := 50, frameLength := 4096, vectorRate := 1000, absLimit := 2400,
    deadTime := 4, seeds := Vector.replicate 4 1, restarts := Vector.replicate 4 .restart,
    budgets := Vector.replicate 8 0 }

/-! ## Per-socket state -/

/-- What the Scan Unit holds for one socket (R29, R31, R37, R40, R41). -/
structure Gate where
  synced : Bool
  appliedRev : Byte8
  /-- the result of the latest gate decision or synchronizing visit; STALE before the first -/
  result : GateResult
  /-- whether the latest visit was stale: Adoption Result then reads STALE (R40) -/
  staleVisit : Bool
  clampedCount : Nat
  rejectReason : RejectReason
  staleCount : Nat
  staleReported : Bool
  failWritten : Byte8
  acked : Byte8
  shadow : Settings
deriving DecidableEq, Repr

/-- R31, R40, R47. -/
def Gate.reset : Gate :=
  { synced := false, appliedRev := 0, result := .stale, staleVisit := false, clampedCount := 0,
    rejectReason := .none, staleCount := 0, staleReported := false, failWritten := 0, acked := 0,
    shadow := Settings.reset }

/-- The rail state of R66. -/
structure Rail where
  st : RailState
  /-- DAC target in mV -/
  dac : Nat
  /-- hold-off kind and expiry time in Run Milliseconds, while in HOLD_OFF -/
  holdOff : Option (HoldKind × Word32)
  settleCount : Nat
  worstSettle : Nat
  /-- the model's own: whether the SETTLE followed a SLEW, so that the ON after it is no power-up (R72) -/
  settleFromSlew : Bool
  /-- the model's own: the tick at which RAMP_UP reached its setpoint has not had its sample, which is
  not a settle sample (R71) -/
  ownSample : Bool
  /-- the slow-trip window, oldest first -/
  window : List Nat
  dropCount : Nat
  worstDrop : Nat
  openCount : Nat
  openArmed : Bool
  /-- the model's own: the sum of the counted open-contact samples 985 onward (R75) -/
  openSum : Nat
  trips : Nat
  pendingEntry : Bool
  voltage : Word
  current : Word
  /-- the Fast Current Limit of the fast-trip threshold last sent over the rail link (R68) -/
  threshold : Nat
deriving DecidableEq, Repr

/-- R66. -/
def Rail.reset : Rail :=
  { st := .off, dac := 0, holdOff := none, settleCount := 0, worstSettle := 0,
    settleFromSlew := false, ownSample := false, window := [], dropCount := 0, worstDrop := 0,
    openCount := 0, openArmed := false, openSum := 0, trips := 0, pendingEntry := false,
    voltage := 0, current := 0, threshold := 100 }

/-- The measurement state of R97. -/
structure Sensor where
  st : SensorState
  /-- T_f in 1/16 °C, or no value -/
  tf : Option Int
  suspectCount : Nat
  invalidCount : Nat
  raw : Word
  inWindow : Bool
  inWindowMs : Nat
deriving DecidableEq, Repr

/-- R97. -/
def Sensor.reset : Sensor :=
  { st := .noSample, tf := none, suspectCount := 0, invalidCount := 0, raw := 0, inWindow := false,
    inWindowMs := 0 }

/-- The pulse of one PWM period: the side driven, and the ticks start to stop − 1 (R115). -/
structure Pulse where
  side : Side
  start : Nat
  stop : Nat
deriving DecidableEq, Repr

/-- The control state of R107, with the grant and ceiling of R87 and the two output pins. -/
structure Thermal where
  iAcc : Int
  sat : SatRecord
  u : Int
  hMax : Nat
  preload : Int
  duty : Int
  periodSide : Side
  prevSide : Side
  /-- the pulse fixed at the latest period start (R115); empty once ended by R116 -/
  pulse : Pulse
  runaway : Nat
  soakMs : Nat
  grant : Nat
  ceiling : Nat
  heaterOn : Bool
  coolerOn : Bool
deriving DecidableEq, Repr

/-- R107, R87. -/
def Thermal.reset : Thermal :=
  { iAcc := 0, sat := .none, u := 0, hMax := 0, preload := 0, duty := 0, periodSide := .none,
    prevSide := .none, pulse := ⟨.none, 0, 0⟩, runaway := 0, soakMs := 0, grant := 0, ceiling := 0,
    heaterOn := false, coolerOn := false }

/-- The settings a self-test cycle latches at its start (R148). -/
structure CycleSettings where
  startLane : Nat
  doneLane : Nat
  passLane : Nat
  startDelay : Nat
  startWidth : Nat
  doneTimeout : Nat
deriving DecidableEq, Repr

/-- What the Pattern Exerciser holds for one socket (R134, R140, R141, R148, R155, R156). -/
structure Exercise where
  st : ExState
  mode : ExMode
  pendingMode : ExMode
  suspendFlag : Bool
  frameLane : Vector Nat 16
  frameTotal : Nat
  winStart : Nat
  winLength : Nat
  threshold : Nat
  skip : Vector Nat 16
  onsetArmed : Bool
  framesRun : Nat
  framesFailed : Nat
  laneErr : Vector Nat 16
  /-- one 64-bit delay line per lane, the newest bit at bit 0 (R141) -/
  delayLine : Vector (BitVec 64) 16
  /-- the level received on each lane at the vector before (R148, R151) -/
  prevRecv : BitVec 16
  cycle : CycleState
  latched : Option CycleSettings
  vectorCount : Nat
  expiry : Option Word32
  heldSpurious : Nat
  cycles : Nat
  lastDuration : Nat
  spurious : Nat
  diagCount : Nat
  diagResult : DiagResult
  diagErrors : Nat
deriving DecidableEq, Repr

/-- R134, R140, R141, R148, R156. -/
def Exercise.reset : Exercise :=
  { st := .stopped, mode := .idle, pendingMode := .idle, suspendFlag := false,
    frameLane := Vector.replicate 16 0, frameTotal := 0, winStart := 0, winLength := 1,
    threshold := 1, skip := Vector.replicate 16 0, onsetArmed := false, framesRun := 0,
    framesFailed := 0, laneErr := Vector.replicate 16 0, delayLine := Vector.replicate 16 0,
    prevRecv := 0, cycle := .noCycle, latched := none, vectorCount := 0, expiry := none,
    heldSpurious := 0, cycles := 0, lastDuration := 0, spurious := 0, diagCount := 0,
    diagResult := .notRun, diagErrors := 0 }

/-- A failure record as built and staged (R177, R178). -/
structure FailRecord where
  sequence : Word
  kind : Kind
  subcode : Nat
  phase : Phase
  sweep : Word32
  dwell : Nat
  voltage : Word
  current : Word
  temperature : Word
  /-- the detail words; their number is the Detail Length -/
  details : List Word
deriving DecidableEq, Repr

/-- What the Socket Accounting Unit holds for one socket (R158, R169, R170, R173). -/
structure Account where
  phase : Phase
  resume : ResumePhase
  spoil : Bool
  dwellSec : Nat
  dwellMs : Nat
  oosSec : Nat
  oosMs : Nat
  lateCount : Nat
  prevVisit : Option Word32
  stressedAtStart : Bool
  leftStress : Bool
  /-- Kind Count by kind, kind code k at position k − 1 -/
  kindCount : Vector Nat 8
  failTotal : Word32
  detailLost : Word32
  strikes : Nat
  staging : List FailRecord
  firstFailDwell : Word32
  bin : Bin
  retireKind : RetireKind
deriving DecidableEq, Repr

/-- R158, R169, R170, R173. -/
def Account.reset : Account :=
  { phase := .empty, resume := .none, spoil := false, dwellSec := 0, dwellMs := 0, oosSec := 0,
    oosMs := 0, lateCount := 0, prevVisit := none, stressedAtStart := false, leftStress := false,
    kindCount := Vector.replicate 8 0, failTotal := 0, detailLost := 0, strikes := 0, staging := [],
    firstFailDwell := 0xFFFFFFFF, bin := .none, retireKind := .none }

/-- One socket: what each block holds for it. -/
structure Socket where
  gate : Gate
  rail : Rail
  sensor : Sensor
  thermal : Thermal
  ex : Exercise
  acct : Account
deriving DecidableEq, Repr

/-- Every block's reset values for one socket. -/
def Socket.reset : Socket :=
  { gate := Gate.reset, rail := Rail.reset, sensor := Sensor.reset, thermal := Thermal.reset,
    ex := Exercise.reset, acct := Account.reset }

/-! ## Per-bank state -/

/-- The bank state of R87. -/
structure Bank where
  feed : Word32
  tripCount : Nat
  runTrips : Nat
  /-- the expiry time of a running bank hold-off, in Run Milliseconds -/
  holdOff : Option Word32
  locked : Bool
  /-- the model's own: a sense tick has come and no chain start of the bank has been taken at it, so
  that at most one is (R70) -/
  chainDue : Bool
deriving DecidableEq, Repr

/-- R87. -/
def Bank.reset : Bank :=
  { feed := 0, tripCount := 0, runTrips := 0, holdOff := none, locked := false, chainDue := false }

/-! ## Board-wide state -/

/-- A record transfer: its kind, its target, and for a write the words taken when it was requested
(R11, R27, R28). -/
inductive Transfer where
  | bcrRead
  | bsrWrite (words : List Word)
  | scrRead (sock : SocketIx)
  | ssrWrite (sock : SocketIx) (words : List Word)
  | failWrite (sock : SocketIx) (slot : Fin 8) (words : List Word)
  | chunkRead (chunk : Nat)
deriving DecidableEq, Repr

/-- The kinds of host cycle (R5). -/
inductive CycleKind where
  | memoryRead (addr : Word)
  | memoryWrite (addr data : Word)
  | registerRead (addr : Word)
  | registerWrite
  | noAccess
deriving DecidableEq, Repr

/-- A host cycle in progress (R5, R6). -/
structure HostCycle where
  kind : CycleKind
  /-- whether the host still asserts its strobe -/
  strobe : Bool
  /-- whether the part has completed the cycle -/
  done : Bool
deriving DecidableEq, Repr

/-- The Shared Memory Controller: arbiter, host port, registers (R5, R12, R19 to R21). The record lock
is held exactly while the owner is SCAN (R13). -/
structure Smc where
  owner : PortOwner
  lastGranted : Requester
  /-- a host word access waits -/
  hostWaiting : Bool
  /-- a Scan Unit transfer waits -/
  scanWaiting : Option Transfer
  /-- the transfer that holds the port while the owner is SCAN -/
  transfer : Option Transfer
  cycle : Option HostCycle
  rdy : Bool
  /-- the word the part drives on the host data pins, if it drives them -/
  dataOut : Option Word
  attention : BitVec 11
  mask : BitVec 11
  faultAddr : Word
  faultKind : FaultKind
deriving DecidableEq, Repr

/-- R12, R17 to R21, R22. -/
def Smc.reset : Smc :=
  { owner := .none, lastGranted := .scan, hostWaiting := false, scanWaiting := none,
    transfer := none, cycle := none, rdy := false, dataOut := none, attention := 0, mask := 0,
    faultAddr := 0, faultKind := .none }

/-- The visit in progress (R25, R27, R28, R43). -/
inductive Visit where
  | idle
  | header
  /-- the visit of a socket: how many record moves are still to be made, and whether one was made -/
  | socket (sock : SocketIx) (movesLeft : Nat) (moved : Bool)
  | chunk
deriving DecidableEq, Repr

/-- The Scan Unit's board-wide state (R23, R25, R26, R30, R32 to R36, R43, R47). -/
structure Scu where
  scanEnable : Bool
  /-- the nominal time of the latest sweep start event, in Run Milliseconds -/
  lastStart : Word32
  /-- the Sweep Period the current interval is timed with (R23) -/
  interval : Nat
  /-- a sweep is running: STATUS scan active -/
  running : Bool
  deferred : Bool
  sweepNumber : Word32
  overrun : Nat
  visit : Visit
  headerSynced : Bool
  /-- STATUS synchronized -/
  syncFlag : Bool
  appliedConfigRev : Byte8
  configResult : ConfigResult
  configAdopted : Bool
  config : BoardConfig
  seenTag : Byte8
  headerStale : Nat
  headerStaleReported : Bool
  chunkIndex : Nat
deriving DecidableEq, Repr

/-- R47. -/
def Scu.reset : Scu :=
  { scanEnable := false, lastStart := 0, interval := 20, running := false, deferred := false,
    sweepNumber := 0, overrun := 0, visit := .idle, headerSynced := false, syncFlag := false,
    appliedConfigRev := 0, configResult := .pending, configAdopted := false,
    config := BoardConfig.reset, seenTag := 0, headerStale := 0, headerStaleReported := false,
    chunkIndex := 0 }

/-- A command as handed over by the Scan Unit (R36): an undefined code is none. -/
structure Command where
  code : Option CmdCode
  tag : Byte8
  mask : Word32
  fillDirection : Word
  fillLevel : Word
deriving DecidableEq, Repr

/-- The command channel in progress (R50). -/
structure Channel where
  code : CmdCode
  tag : Byte8
  mask : Word32
  /-- Fill Direction after R58: DRIVE with FLOAT is taken as OFF -/
  fillDirection : Direction
  fillLevel : IdleLevel
  step : CmdStep
deriving DecidableEq, Repr

/-- Board Run Control (R48, R50, R57, R61, R64). -/
structure Brc where
  state : BoardState
  reason : HoldReason
  channel : Option Channel
  acceptedTag : Byte8
  completedTag : Byte8
  result : CmdResult
  detail : Nat
  refusedTag : Byte8
  refusalReason : RefusalReason
  refusalCount : Nat
  interlockCount : Nat
  mapGeneration : Word
  runFinished : Bool
deriving DecidableEq, Repr

/-- R65. -/
def Brc.reset : Brc :=
  { state := .stopped, reason := .none, channel := none, acceptedTag := 0, completedTag := 0,
    result := .none, detail := 0, refusedTag := 0, refusalReason := .none, refusalCount := 0,
    interlockCount := 0, mapGeneration := 0, runFinished := false }

/-- A lane map entry (TABLE 8-2). -/
structure LaneEntry where
  direction : Direction
  source : Source
  constant : Bool
  idle : IdleLevel
  invert : Bool
  compare : Bool
  delay : Nat
deriving DecidableEq, Repr

/-- R128. -/
def LaneEntry.reset : LaneEntry :=
  { direction := .off, source := .gen 0, constant := false, idle := .float, invert := false,
    compare := false, delay := 0 }

/-- A lane map: 512 entries, by socket and lane (R128). -/
abbrev LaneMap := Vector (Vector LaneEntry 16) 32

/-- A map whose every entry has the reset value of R128. -/
def LaneMap.reset : LaneMap := Vector.replicate 32 (Vector.replicate 16 LaneEntry.reset)

/-- A pattern generator (R125). -/
structure Gen where
  state : BitVec 15
  seed : BitVec 15
  restart : Restart
deriving DecidableEq, Repr

/-- R126. -/
def Gen.reset : Gen := { state := 1, seed := 1, restart := .restart }

/-- The Pattern Exerciser's board-wide state (R123, R125, R128, R130). -/
structure Pxr where
  vectorIndex : Nat
  frameNumber : Word32
  frameLength : Nat
  vectorRate : Nat
  pendingLength : Nat
  pendingRate : Nat
  /-- the last vector of the frame has ended and its frame boundary has not been taken (R123) -/
  boundaryDue : Bool
  gens : Vector Gen 4
  /-- a configuration was adopted since the latest boundary: every generator reloads (R126) -/
  reloadAll : Bool
  active : LaneMap
  /-- the model's own: the map that governs the vector in progress, since a change of entry takes
  effect from the vector after it is written (R129, R141) -/
  vectorMap : LaneMap
  staging : LaneMap
  delivered : Nat
  swapPending : Bool
deriving DecidableEq, Repr

/-- R123, R126, R128, R130. -/
def Pxr.reset : Pxr :=
  { vectorIndex := 0, frameNumber := 0, frameLength := 4096, vectorRate := 1000,
    pendingLength := 4096, pendingRate := 1000, boundaryDue := false,
    gens := Vector.replicate 4 Gen.reset, reloadAll := false, active := LaneMap.reset,
    vectorMap := LaneMap.reset, staging := LaneMap.reset, delivered := 0, swapPending := false }

/-- The input pins that the part reads as levels. -/
structure Pins where
  /-- POR_N is asserted -/
  por : Bool
  /-- INTERLOCK_N is asserted -/
  interlock : Bool
  /-- the fast-trip inputs, bit s for socket s (R77) -/
  fastTrip : BitVec 32
deriving DecidableEq, Repr

/-- The time base: Run Milliseconds (R24) and the PWM tick counter (R107). -/
structure Time where
  runMs : Word32
  pwmTick : Nat
deriving DecidableEq, Repr

/-- The shared memory: word address and stored word, addresses strictly rising. An address that is not
listed has not been written since the latest power-on reset. -/
abbrev Mem := List (Nat × StoredWord)

/-- The whole part with its shared memory and the queue of commands that wait, first in, first out. -/
structure State where
  mem : Mem
  /-- the model's own: the ordinal of the latest power-on reset, the index of the power-up contents -/
  epoch : Nat
  /-- the model's own: how many times a free value of log entry 3 or 45 has been used -/
  freeCount : Nat
  pins : Pins
  time : Time
  smc : Smc
  scu : Scu
  brc : Brc
  pxr : Pxr
  banks : Vector Bank 8
  sockets : Vector Socket 32
  pending : List Instr
deriving DecidableEq, Repr

/-- The machine right after a power-on reset: POR_N released, INTERLOCK_N released, no fast-trip input
asserted, every block in its reset state, nothing written into the memory, no command waiting. -/
def State.reset : State :=
  { mem := [], epoch := 0, freeCount := 0,
    pins := { por := false, interlock := false, fastTrip := 0 },
    time := { runMs := 0, pwmTick := 0 },
    smc := Smc.reset, scu := Scu.reset, brc := Brc.reset, pxr := Pxr.reset,
    banks := Vector.replicate 8 Bank.reset, sockets := Vector.replicate 32 Socket.reset,
    pending := [] }

/-! ## How a step can stop -/

/-- The faults of the part. There is none: the manual gives every command an effect in every state, and
no rule of it stops the part. No meaning raises a fault, so the type has no constructor (safe: nothing
is hidden behind a stop). -/
inductive Fault where
deriving DecidableEq, Repr

/-- The refusals of the model. -/
inductive Refusal where
  /-- Raised only by an arm of `exec` whose command has no meaning yet; no arm is left so. Safe: it
  stops and claims nothing. -/
  | notModelled (mnemonic : String)
deriving DecidableEq, Repr

end Sys2Proof.Machine
end

