-- ==== Sys2Proof/Machine/Numeric.lean ====
section
/-! DEFINITION. The arithmetic of R2 and the parity of section 1.4. -/

namespace Sys2Proof.Machine

/-- A counter that saturates at `limit`, advanced by `k` (R2). -/
def satAdd (limit n k : Nat) : Nat := min limit (n + k)

/-- The limits of the saturating counters. -/
def max16 : Nat := 65535
/-- See `max16`. -/
def max32 : Nat := 4294967295

/-- Clamped to a range (R2). -/
def clampNat (lo hi n : Nat) : Nat := max lo (min hi n)

/-- Clamped to a range (R2). -/
def clampInt (lo hi n : Int) : Int := max lo (min hi n)

/-- The distance of two unsigned quantities. -/
def distance (a b : Nat) : Nat := (a - b) + (b - a)

/-- Whether an expiry time set on the wrapping Run Milliseconds count has been reached. Every interval
the part times with it is below 2^31 ms (log entry 9). -/
def reached (now expiry : Word32) : Bool := (now - expiry).toNat < 2147483648

/-- Moves a DAC target toward a goal by at most `rate`, stopping at the goal (R71, R76). -/
def toward (x goal rate : Nat) : Nat :=
  if x < goal then min goal (x + rate) else max goal (x - rate)

/-- A signed quantity as the 16-bit two's-complement word of a record (R186). -/
def signedWord (n : Int) : Word := BitVec.ofInt 16 n

/-- An unsigned quantity as the word of a record (R186). -/
def natWord (n : Nat) : Word := BitVec.ofNat 16 n

/-- The two words of a 32-bit field, the low half first (R186). -/
def words32 (x : Word32) : List Word := [x.extractLsb' 0 16, x.extractLsb' 16 16]

/-- The two words of an unsigned 32-bit quantity, the low half first. -/
def natWords32 (n : Nat) : List Word := words32 (BitVec.ofNat 32 n)

/-- The number of ones in a bit vector's low `n` bits. -/
def onesBelow {w : Nat} (x : BitVec w) : Nat → Nat
  | 0 => 0
  | n + 1 => onesBelow x n + (if x.getLsbD n then 1 else 0)

/-- The parity bit of a byte: a byte and its parity bit together hold an odd number of ones
(section 1.4). -/
def parityBit (b : BitVec 8) : Bool := onesBelow b 8 % 2 == 0

/-- The data bits of a stored word. -/
def StoredWord.data (w : StoredWord) : Word := w.extractLsb' 0 16

/-- The word as the SMC writes it, with both parity bits generated (R14). -/
def withParity (d : Word) : StoredWord :=
  BitVec.ofBool (parityBit (d.extractLsb' 8 8)) ++
    (BitVec.ofBool (parityBit (d.extractLsb' 0 8)) ++ d)

/-- Whether both bytes of a stored word pass the parity check (R15, R16). -/
def goodParity (w : StoredWord) : Bool := w == withParity (StoredWord.data w)

end Sys2Proof.Machine
end

