-- ==== Sys2Proof/Machine/Flags.lean ====
section
/-! DEFINITION. The attention causes, the ATTN level, the STATUS register and the reads of the five
registers (section 1.6), and the codes of the enumerations that records and registers carry. -/

namespace Sys2Proof.Machine

/-- The bit position of a cause in ATTENTION and ATTENTION MASK (TABLE 1-6). -/
def Cause.bit : Cause → Nat
  | .failPosted => 0
  | .socketEnded => 1
  | .commandDone => 2
  | .commandRefused => 3
  | .runFinished => 4
  | .interlock => 5
  | .bankTrip => 6
  | .sweepOverrun => 7
  | .controlStale => 8
  | .writeProtect => 9
  | .parity => 10

/-- The cause's bit alone. -/
def Cause.mask (c : Cause) : BitVec 11 := BitVec.twoPow 11 c.bit

/-- A setting event sets its cause bit whether it is clear or already set (R19). -/
def State.raise (s : State) (c : Cause) : State :=
  { s with smc := { s.smc with attention := s.smc.attention ||| c.mask } }

/-- `State.raise` under a condition. -/
def State.raiseIf (s : State) (b : Bool) (c : Cause) : State := if b then s.raise c else s

/-- The ATTN pin (R20): asserted while some set cause is enabled; deasserted while POR_N is
asserted. -/
def State.attn (s : State) : Bool := !s.pins.por && (s.smc.attention &&& s.smc.mask) != 0

/-- TABLE 1-6, TABLE 12-2. -/
def BoardState.code : BoardState → Nat
  | .stopped => 0
  | .running => 1
  | .holding => 2
  | .stopping => 3

/-- TABLE 1-6, TABLE 12-2. -/
def HoldReason.code : HoldReason → Nat
  | .none => 0
  | .command => 1
  | .interlock => 2
  | .scanOff => 3

/-- TABLE 1-6. -/
def FaultKind.code : FaultKind → Nat
  | .none => 0
  | .writeProtect => 1
  | .parity => 2

/-- The Hold Reason as STATUS and the BSR show it: NONE in any state but HOLDING (R18, R45). -/
def Brc.shownReason (b : Brc) : HoldReason := if b.state = .holding then b.reason else .none

/-- The STATUS register (R18, TABLE 1-6). -/
def State.status (s : State) : Word :=
  natWord (s.brc.state.code + 4 * s.brc.shownReason.code + 16 * s.scu.running.toNat +
    32 * s.pins.interlock.toNat + 64 * s.brc.channel.isSome.toNat + 128 * s.scu.syncFlag.toNat +
    256 * s.smc.faultKind.code)

/-- What a register read returns (R10, R17 to R21); it changes no register and no memory word. -/
def State.readRegister (s : State) (addr : Word) : Word :=
  match (addr.extractLsb' 0 4).toNat with
  | 0 => natWord s.scu.scanEnable.toNat
  | 1 => s.status
  | 2 => s.smc.attention.setWidth 16
  | 3 => s.smc.mask.setWidth 16
  | 4 => s.smc.faultAddr
  | _ => 0xFFFF

/-! ## Codes of the record enumerations (Chapter 12) -/

/-- TABLE 12-2. -/
def ConfigResult.code : ConfigResult → Nat
  | .pending => 0
  | .adopted => 1
  | .clamped => 2
  | .rejected => 3

/-- TABLE 12-2. -/
def CmdResult.code : CmdResult → Nat
  | .none => 0
  | .success => 1
  | .aborted => 2
  | .badMap => 3
  | .parity => 4

/-- TABLE 12-2. -/
def RefusalReason.code : RefusalReason → Nat
  | .none => 0
  | .busy => 1
  | .state => 2
  | .config => 3
  | .badCode => 4

/-- TABLE 12-4. -/
def GateResult.code : GateResult → Nat
  | .adopted => 0
  | .clamped => 1
  | .rejected => 2
  | .stale => 3

/-- TABLE 12-4. -/
def RejectReason.code : RejectReason → Nat
  | .none => 0
  | .badCode => 1
  | .laneRole => 2
  | .synchronizing => 3

/-- TABLE 12-5. -/
def Phase.code : Phase → Nat
  | .empty => 0
  | .waiting => 1
  | .powering => 2
  | .soaking => 3
  | .stressing => 4
  | .held => 5
  | .complete => 6
  | .retired => 7

/-- TABLE 12-4: phase code; 0x00FF for NONE. -/
def ResumePhase.code : ResumePhase → Nat
  | .none => 0xFF
  | .powering => 2
  | .soaking => 3
  | .stressing => 4

/-- TABLE 12-4. -/
def RailState.code : RailState → Nat
  | .off => 0
  | .chainWait => 1
  | .rampUp => 2
  | .settle => 3
  | .on => 4
  | .slew => 5
  | .tripped => 6
  | .holdOff => 7
  | .lockout => 8
  | .rampDown => 9

/-- TABLE 12-4. -/
def SensorState.code : SensorState → Nat
  | .noSample => 0
  | .tracking => 1
  | .suspect => 2
  | .invalid => 3
  | .lost => 4

/-- TABLE 12-4. -/
def ExState.code : ExState → Nat
  | .stopped => 0
  | .armed => 1
  | .running => 2
  | .paused => 3
  | .suspended => 4
  | .diag => 5

/-- TABLE 12-4. -/
def DiagResult.code : DiagResult → Nat
  | .notRun => 0
  | .pass => 1
  | .fail => 2

/-- TABLE 12-5: kind codes 1 to 8. -/
def Kind.code : Kind → Nat
  | .compare => 1
  | .selftestFail => 2
  | .selftestTimeout => 3
  | .railTrip => 4
  | .railRegulation => 5
  | .openContact => 6
  | .thermal => 7
  | .sensorLost => 8

/-- The position of a kind among the eight: its code less 1. -/
def Kind.ix : Kind → Fin 8
  | .compare => 0
  | .selftestFail => 1
  | .selftestTimeout => 2
  | .railTrip => 3
  | .railRegulation => 4
  | .openContact => 5
  | .thermal => 6
  | .sensorLost => 7

/-- TABLE 12-5. -/
def Bin.code : Bin → Nat
  | .none => 0
  | .pass => 1
  | .passWithEvents => 2
  | .incomplete => 3
  | .failFunctional => 4
  | .failPower => 5
  | .noContact => 6
  | .failThermal => 7
  | .boardFault => 8

/-- TABLE 12-4. -/
def RetireKind.code : RetireKind → Nat
  | .none => 0
  | .kind k => k.code
  | .lockout => 9
  | .diagnosis => 10
  | .bankLock => 11

end Sys2Proof.Machine
end

