-- ==== Sys2Proof/Machine/Operands.lean ====
section
/-! DEFINITION. The record formats of Chapter 12: the fields read from host-written records with their
validation (R34, R38, R39, R187), lane map entries, and the words of the records the part writes
(R45, R46, R177, R186). -/

namespace Sys2Proof.Machine

/-! ## Fields of a record read -/

/-- Word k of a record. -/
def field (r : List Word) (k : Nat) : Word := r.getD k 0

/-- The 32-bit field at words k and k + 1, the low half at the lower offset (R187). -/
def field32 (r : List Word) (k : Nat) : Word32 := field r (k + 1) ++ field r k

/-- Bits 7..0 of word k (R187). -/
def field8 (r : List Word) (k : Nat) : Byte8 := (field r k).extractLsb' 0 8

/-! ## Socket Control Record (TABLE 12-3) -/

/-- The numeric fields as read: unsigned, but for the signed Temperature Setpoint (R187). -/
def Numbers.ofScr (r : List Word) : Numbers :=
  { railSetpoint := (field r 3).toNat, rampRate := (field r 4).toNat,
    settleTimeout := (field r 5).toNat, regTolerance := (field r 6).toNat,
    fastLimit := (field r 7).toNat, slowLimit := (field r 8).toNat,
    minCurrent := (field r 9).toNat, tripRetryLimit := (field r 10).toNat,
    tripHoldOff := (field r 11).toNat, tempSetpoint := (field r 12).toInt,
    tempWindow := (field r 13).toNat, kp := (field r 14).toNat, ki := (field r 15).toNat,
    filterShift := (field r 16).toNat, heaterFullScale := (field r 17).toNat,
    heaterLimit := (field r 18).toNat, coolerLimit := (field r 19).toNat,
    runawayMargin := (field r 20).toNat, soakTime := (field r 21).toNat,
    soakLimit := (field r 22).toNat, winStart := (field r 24).toNat,
    winLength := (field r 25).toNat, errThreshold := (field r 26).toNat,
    startLane := (field r 27).toNat, doneLane := (field r 28).toNat,
    passLane := (field r 29).toNat, startDelay := (field r 30).toNat,
    startWidth := (field r 31).toNat, doneTimeout := (field32 r 32).toNat,
    targetDwell := (field32 r 34).toNat, strikeLimit := (field r 36).toNat }

/-- The ranges of TABLE 2-2. -/
def Numbers.clampRanges (n : Numbers) : Numbers :=
  { railSetpoint := clampNat 400 2500 n.railSetpoint, rampRate := clampNat 1 250 n.rampRate,
    settleTimeout := clampNat 1 1000 n.settleTimeout,
    regTolerance := clampNat 5 250 n.regTolerance, fastLimit := clampNat 100 30000 n.fastLimit,
    slowLimit := clampNat 100 30000 n.slowLimit, minCurrent := clampNat 0 5000 n.minCurrent,
    tripRetryLimit := clampNat 0 7 n.tripRetryLimit,
    tripHoldOff := clampNat 100 60000 n.tripHoldOff,
    tempSetpoint := clampInt (-640) 3200 n.tempSetpoint,
    tempWindow := clampNat 8 800 n.tempWindow, kp := clampNat 0 4095 n.kp,
    ki := clampNat 0 1023 n.ki, filterShift := clampNat 0 4 n.filterShift,
    heaterFullScale := clampNat 100 20000 n.heaterFullScale,
    heaterLimit := clampNat 0 1023 n.heaterLimit, coolerLimit := clampNat 0 1023 n.coolerLimit,
    runawayMargin := clampNat 16 1600 n.runawayMargin, soakTime := clampNat 0 7200 n.soakTime,
    soakLimit := clampNat 60 14400 n.soakLimit, winStart := clampNat 0 65535 n.winStart,
    winLength := clampNat 1 65535 n.winLength, errThreshold := clampNat 1 65535 n.errThreshold,
    startLane := clampNat 0 15 n.startLane, doneLane := clampNat 0 15 n.doneLane,
    passLane := clampNat 0 15 n.passLane, startDelay := clampNat 0 65535 n.startDelay,
    startWidth := clampNat 1 65535 n.startWidth,
    doneTimeout := clampNat 1 600000 n.doneTimeout,
    targetDwell := clampNat 1 3600000 n.targetDwell,
    strikeLimit := clampNat 1 15 n.strikeLimit }

/-- The cross-field limits of TABLE 2-2, in its order, on the range-clamped values and the board
configuration in force. -/
def Numbers.crossLimits (c : BoardConfig) (n : Numbers) : Numbers :=
  let start := min n.winStart (c.frameLength - 1)
  { n with
    slowLimit := min n.slowLimit n.fastLimit
    tempSetpoint := min n.tempSetpoint (c.absLimit - 16)
    winStart := start
    winLength := min n.winLength (c.frameLength - start) }

/-- The numeric fields one by one, in the order of TABLE 2-2. -/
def Numbers.toList (n : Numbers) : List Int :=
  [n.railSetpoint, n.rampRate, n.settleTimeout, n.regTolerance, n.fastLimit, n.slowLimit,
    n.minCurrent, n.tripRetryLimit, n.tripHoldOff, n.tempSetpoint, n.tempWindow, n.kp, n.ki,
    n.filterShift, n.heaterFullScale, n.heaterLimit, n.coolerLimit, n.runawayMargin, n.soakTime,
    n.soakLimit, n.winStart, n.winLength, n.errThreshold, n.startLane, n.doneLane, n.passLane,
    n.startDelay, n.startWidth, n.doneTimeout, n.targetDwell, n.strikeLimit]

/-- How many entries of two lists differ. -/
def countDiffer : List Int → List Int → Nat
  | a :: as, b :: bs => (if a = b then 0 else 1) + countDiffer as bs
  | _, _ => 0

/-- Clamped Count: the fields whose value after validation differs from the value read (R38). -/
def Numbers.clampedCount (read validated : Numbers) : Nat :=
  countDiffer read.toList validated.toList

/-- Enable, 0 or 1; any other value is undefined (R38). -/
def enableOf (w : Word) : Option Bool :=
  if w = 0 then some false else if w = 1 then some true else none

/-- TABLE 12-3. -/
def exModeOf (w : Word) : Option ExMode :=
  if w = 0 then some .idle else if w = 1 then some .pattern else if w = 2 then some .selftest
  else none

/-- TABLE 12-3. -/
def endActionOf (w : Word) : Option EndAction :=
  if w = 0 then some .powerOff else if w = 1 then some .holdPowered else none

/-- TABLE 12-3. -/
def kindActionOf (w : Word) : Option KindAction :=
  if w = 0 then some .ignore else if w = 1 then some .log else if w = 2 then some .strike
  else if w = 3 then some .retire else none

/-- The code check of R38: the enumerated fields, or none where one holds an undefined code. -/
def Settings.ofScr (r : List Word) (num : Numbers) : Option Settings :=
  match enableOf (field r 2), exModeOf (field r 23), endActionOf (field r 37) with
  | some en, some m, some ea =>
    if (List.range 8).all fun k => (kindActionOf (field r (38 + k))).isSome then
      some { num := num, enable := en, mode := m, endAction := ea,
             kindActions := Vector.ofFn fun k => (kindActionOf (field r (38 + k.val))).getD .ignore }
    else none
  | _, _, _ => none

/-! ## Lane map entries (TABLE 12-7) -/

/-- The entry of socket s lane l. A lane number is at most 15 after validation (R187). -/
def LaneMap.entry (m : LaneMap) (s : SocketIx) (lane : Nat) : LaneEntry := m[s][Fin.ofNat 16 lane]

/-- TABLE 12-7: Direction, bits 1–0 of word 0. -/
def directionOf : Nat → Option Direction
  | 0 => some .off
  | 1 => some .drive
  | 2 => some .sense
  | _ => none

/-- TABLE 12-7: Idle Level, bits 3–2 of word 0; also Fill Level (TABLE 12-1). -/
def idleLevelOf : Nat → Option IdleLevel
  | 0 => some .low
  | 1 => some .high
  | 2 => some .float
  | _ => none

/-- TABLE 12-7: Source, bits 4–0 of word 1. -/
def sourceOf (n : Nat) : Option Source :=
  if h : n < 4 then some (.gen ⟨n, h⟩)
  else if h : n < 20 then some (.count ⟨n - 4, by omega⟩)
  else if n = 20 then some .constant
  else if n = 21 then some .clock
  else none

/-- TABLE 12-7: the entry of two image words, or none where a code is undefined (R43). -/
def LaneEntry.ofWords (w0 w1 : Word) : Option LaneEntry :=
  match directionOf (w0.extractLsb' 0 2).toNat, idleLevelOf (w0.extractLsb' 2 2).toNat,
      sourceOf (w1.extractLsb' 0 5).toNat with
  | some d, some il, some src =>
    some { direction := d, source := src, constant := w0.getLsbD 4, idle := il,
           invert := w0.getLsbD 5, compare := w0.getLsbD 6,
           delay := (w1.extractLsb' 8 6).toNat }
  | _, _, _ => none

/-- The 32 entries of a chunk's 64 words, in address order; an undefined one is none (R43). -/
def chunkEntries (r : List Word) : List (Option LaneEntry) :=
  (List.range 32).map fun k => LaneEntry.ofWords (field r (2 * k)) (field r (2 * k + 1))

/-- The position of the first undefined entry of a chunk. -/
def firstBad : List (Option LaneEntry) → Nat → Option Nat
  | [], _ => none
  | none :: _, k => some k
  | some _ :: rest, k => firstBad rest (k + 1)

/-- The lane-role test of R39 and R133: Start Lane DRIVE, Done Lane and Pass Lane SENSE. -/
def rolesFit (m : LaneMap) (s : SocketIx) (n : Numbers) : Bool :=
  (m.entry s n.startLane).direction == .drive && (m.entry s n.doneLane).direction == .sense &&
    (m.entry s n.passLane).direction == .sense

/-- The entry a fill writes (R58). -/
def fillEntry (d : Direction) (l : IdleLevel) : LaneEntry :=
  { direction := d, source := .constant, constant := l == .high, idle := l, invert := false,
    compare := false, delay := 0 }

/-! ## Board Control Record (TABLE 12-1) -/

/-- TABLE 12-1: Generator Restart. -/
def restartOf (w : Word) : Option Restart :=
  if w = 0 then some .restart else if w = 1 then some .continuous else none

/-- TABLE 12-1: Command Code. -/
def cmdCodeOf : Nat → Option CmdCode
  | 1 => some .startRun
  | 2 => some .hold
  | 3 => some .resume
  | 4 => some .stopRun
  | 5 => some .loadLaneMap
  | 6 => some .fillLaneMap
  | 7 => some .clearAccounts
  | 8 => some .diagnose
  | _ => none

/-- TABLE 12-1: Fill Direction. -/
def fillDirectionOf (w : Word) : Option Direction :=
  if w = 0 then some .off else if w = 1 then some .drive else none

/-- The command of one BCR read (R36). -/
def Command.ofBcr (r : List Word) : Command :=
  { code := cmdCodeOf (field r 33).toNat, tag := field8 r 32, mask := field32 r 34,
    fillDirection := field r 36, fillLevel := field r 37 }

/-- The configuration fields of one BCR read as they stand, with a seed of 0 kept (R187). -/
def BoardConfig.ofBcr (r : List Word) : BoardConfig :=
  { sweepPeriod := (field r 1).toNat, staleLimit := (field r 2).toNat,
    frameLength := (field r 3).toNat, vectorRate := (field r 4).toNat,
    absLimit := (field r 5).toInt, deadTime := (field r 6).toNat,
    seeds := Vector.ofFn fun g => (field r (8 + g.val)).extractLsb' 0 15,
    restarts := Vector.ofFn fun g => (restartOf (field r (12 + g.val))).getD .restart,
    budgets := Vector.ofFn fun b => (field r (16 + b.val)).toNat }

/-- The code stage of R34: every Generator Restart field holds a defined code. -/
def configCodesGood (r : List Word) : Bool :=
  (List.range 4).all fun g => (restartOf (field r (12 + g))).isSome

/-- The range stage of R34: TABLE 2-1, and a seed of 0 replaced by 1. -/
def BoardConfig.clamp (c : BoardConfig) : BoardConfig :=
  { c with
    sweepPeriod := clampNat 4 250 c.sweepPeriod
    staleLimit := clampNat 1 255 c.staleLimit
    frameLength := clampNat 1024 65535 c.frameLength
    vectorRate := clampNat 100 25000 c.vectorRate
    absLimit := clampInt 800 3200 c.absLimit
    deadTime := clampNat 1 16 c.deadTime
    seeds := Vector.ofFn fun g => if c.seeds[g] = 0 then 1 else c.seeds[g]
    budgets := Vector.ofFn fun b => clampNat 1000 60000 c.budgets[b] }

/-- The correction of one socket's shadow settings on a new configuration (R35). -/
def Numbers.fitConfig (c : BoardConfig) (n : Numbers) : Numbers :=
  let start := min n.winStart (c.frameLength - 1)
  { n with
    tempSetpoint := min n.tempSetpoint (c.absLimit - 16)
    winStart := start
    winLength := min n.winLength (c.frameLength - start) }

/-! ## Records written by the part -/

/-- Filtered Temperature as records carry it: 0x8000 while T_f has no value (R97, R177). -/
def Sensor.word (x : Sensor) : Word :=
  match x.tf with
  | some t => signedWord t
  | none => 0x8000

/-- Sensor State as the SSR carries it: the code in bits 7–0 and n in bits 11–8 (TABLE 12-4). -/
def Sensor.stateWord (x : Sensor) : Word :=
  let n := match x.st with
    | .suspect => x.suspectCount
    | .invalid => x.invalidCount
    | _ => 0
  natWord (x.st.code + 256 * n)

/-- Pending: (Fail Written Count − accepted acknowledged count) mod 256 (R41). -/
def Gate.pendingCount (g : Gate) : Nat := (g.failWritten - g.acked).toNat

/-- Adoption Result as the SSR reports it (R40). -/
def Gate.adoptionResult (g : Gate) : GateResult := if g.staleVisit then .stale else g.result

/-- The 16 words of a fail record (TABLE 12-6). -/
def FailRecord.words (f : FailRecord) : List Word :=
  [f.sequence, natWord (f.kind.code + 256 * f.subcode),
    natWord (f.phase.code + 256 * f.details.length)] ++ words32 f.sweep ++ natWords32 f.dwell ++
  [f.voltage, f.current, f.temperature] ++ (f.details ++ List.replicate 6 0).take 6

/-- The 128 words of a Socket Status Record (TABLE 12-4) at a visit of sweep n. -/
def Socket.ssrWords (sweep : Word32) (x : Socket) : List Word :=
  [natWord x.gate.appliedRev.toNat, natWord x.gate.adoptionResult.code,
    natWord x.gate.clampedCount, natWord x.gate.rejectReason.code] ++ words32 sweep ++
  [natWord x.gate.staleCount, natWord x.acct.phase.code, natWord x.acct.resume.code,
    natWord x.rail.st.code, x.rail.voltage, x.rail.current, natWord x.rail.trips, x.sensor.word,
    x.sensor.stateWord, signedWord x.thermal.u, natWord x.thermal.grant,
    natWord x.thermal.ceiling, natWord x.ex.st.code, natWord x.ex.spurious] ++
  natWords32 x.ex.framesRun ++ natWords32 x.ex.framesFailed ++ x.ex.laneErr.toList.map natWord ++
  natWords32 x.ex.cycles ++ natWords32 x.ex.lastDuration ++ natWords32 x.acct.dwellSec ++
  [natWord x.acct.dwellMs, natWord x.acct.lateCount] ++ natWords32 x.acct.oosSec ++
  [natWord x.acct.oosMs, natWord x.gate.failWritten.toNat] ++ words32 x.acct.failTotal ++
  words32 x.acct.detailLost ++ x.acct.kindCount.toList.map natWord ++
  [natWord x.acct.strikes, natWord x.acct.bin.code, natWord x.acct.retireKind.code, 0] ++
  words32 x.acct.firstFailDwell ++ [natWord x.ex.diagResult.code, natWord x.ex.diagErrors] ++
  List.replicate 56 0

/-- The Phase Census: the number of sockets in a phase (R158). -/
def State.census (s : State) (p : Phase) : Nat := s.sockets.toList.countP fun x => x.acct.phase == p

/-- Bank Locked Mask: bit b for bank b (R87). -/
def State.lockedMask (s : State) : Nat :=
  (List.finRange 8).foldl (fun n b => n + (if s.banks[b].locked then 2 ^ b.val else 0)) 0

/-- The 128 words of a Board Status Record (TABLE 12-2). -/
def State.bsrWords (s : State) : List Word :=
  [natWord s.brc.state.code, natWord s.brc.shownReason.code,
    natWord s.scu.appliedConfigRev.toNat, natWord s.scu.configResult.code] ++
  words32 s.scu.sweepNumber ++ words32 s.time.runMs ++ words32 s.pxr.frameNumber ++
  [natWord s.scu.overrun, natWord s.scu.seenTag.toNat, natWord s.brc.acceptedTag.toNat,
    natWord s.brc.completedTag.toNat, natWord s.brc.result.code, natWord s.brc.detail,
    natWord s.brc.refusedTag.toNat, natWord s.brc.refusalReason.code, natWord s.brc.refusalCount,
    natWord s.brc.interlockCount, s.brc.mapGeneration, natWord s.brc.runFinished.toNat,
    natWord s.lockedMask, 0] ++
  s.banks.toList.flatMap (fun b => words32 b.feed) ++
  s.banks.toList.map (fun b => natWord b.tripCount) ++
  [.empty, .waiting, .powering, .soaking, .stressing, .held, .complete, .retired].map
    (fun p => natWord (s.census p)) ++
  List.replicate 72 0

end Sys2Proof.Machine
end

