-- ==== Sys2Proof/Config.lean ====
section
/-! DEFINITION. What the manual leaves free: uninterpreted constants without a body. Nothing in Lean
can evaluate one or prove a value of it, so whatever is proved holds for every value. -/

namespace Sys2Proof

/-- The power-up content, data and parity, of the word at an address that nothing has written since
the power-on reset of the given ordinal (R14: "the memory's data and parity contents are undefined").
Log entry 2. -/
opaque Config.powerUpWord : Nat → Nat → StoredWord

/-- Which words of a write transfer abandoned by a reset had already been written: bit i for word i of
the record (R22: "Each word in memory therefore holds either its value before the transfer or the
value the transfer wrote"). The argument is a counter the machine advances at every use. Log entry 3. -/
opaque Config.abandonedWords : Nat → BitVec 128

/-- The Cycle Number of a self-test timeout that finds Self-Test Cycles saturated at 4,294,967,295 (R152:
"Self-Test Cycles plus one" does not fit the two detail words of TABLE 11-5, and no rule says what is
written). The argument is a counter the machine advances at every use. Log entry 45. -/
opaque Config.cycleNumber : Nat → Word32

end Sys2Proof
end

