-- ==== Sys2Proof/Machine/Memory.lean ====
section
/-! DEFINITION. The external shared memory (R3, R4, R14): a list of written words by word address, and
the record transfers over it. -/

namespace Sys2Proof.Machine

/-! ## Words -/

/-- The word written at an address since the latest power-on reset, if any. -/
def Mem.find : Mem → Nat → Option StoredWord
  | [], _ => none
  | (b, w) :: rest, a => if a = b then some w else if a < b then none else Mem.find rest a

/-- Writes one word, keeping the addresses strictly rising. -/
def Mem.write : Mem → Nat → StoredWord → Mem
  | [], a, v => [(a, v)]
  | (b, w) :: rest, a, v =>
    if a = b then (a, v) :: rest
    else if a < b then (a, v) :: (b, w) :: rest
    else (b, w) :: Mem.write rest a v

/-- The canonical form: addresses strictly rising, each inside the 65,536 words (R3). An address that
is not listed has no written word, so no entry repeats what an unlisted address reads as. -/
abbrev Mem.wf (m : Mem) : Prop :=
  List.Pairwise (fun p q => p.1 < q.1) m ∧ ∀ p ∈ m, p.1 < 65536

/-- The stored word at an address: the word last written, or the free power-up content (R14). -/
def State.readWord (s : State) (a : Nat) : StoredWord :=
  (Mem.find s.mem a).getD (Config.powerUpWord s.epoch a)

/-- Writes one data word with generated parity (R14). -/
def State.writeWord (s : State) (a : Nat) (d : Word) : State :=
  { s with mem := Mem.write s.mem (a % 65536) (withParity d) }

/-! ## The memory map (TABLE 1-1, TABLE 1-2) -/

/-- 0x0000: the Board Control Record. -/
def bcrBase : Nat := 0x0000
/-- 0x0080: the Board Status Record. -/
def bsrBase : Nat := 0x0080
/-- SCR of socket s. -/
def scrBase (s : SocketIx) : Nat := 0x0100 + 64 * s.val
/-- SSR of socket s. -/
def ssrBase (s : SocketIx) : Nat := 0x0900 + 128 * s.val
/-- Fail-list slot i of socket s. -/
def failBase (s : SocketIx) (slot : Fin 8) : Nat := 0x1900 + 128 * s.val + 16 * slot.val
/-- Lane Map Image chunk c. -/
def chunkBase (c : Nat) : Nat := 0x2900 + 64 * c

/-- Whether an address lies in the BSR, SSR or fail-list region (R3, R9). -/
def partWritten (a : Nat) : Bool := (0x0080 ≤ a && a < 0x0100) || (0x0900 ≤ a && a < 0x2900)

/-! ## Record transfers -/

/-- The stored words of a record. -/
def State.readStored (s : State) (base len : Nat) : List StoredWord :=
  (List.range len).map fun i => s.readWord (base + i)

/-- A Scan Unit read transfer (R16): the words of the first attempt of three that meets no bad parity,
or none. `upsets` says which attempts meet a word that arrives with bad parity while the stored word
is good (log entry 5). -/
def State.readRecord (s : State) (base len : Nat) (upsets : BitVec 3) : Option (List Word) :=
  let stored := s.readStored base len
  if stored.all goodParity && upsets != 7 then some (stored.map StoredWord.data) else none

/-- Writes the words of a record at consecutive addresses, those for which `keep` holds. -/
def State.writeRecordIf (keep : Nat → Bool) (s : State) (base : Nat) : List Word → Nat → State
  | [], _ => s
  | d :: rest, i =>
    State.writeRecordIf keep (if keep i then s.writeWord (base + i) d else s) base rest (i + 1)

/-- A write transfer writes every word of its record once, with generated parity (R11, R14). -/
def State.writeRecord (s : State) (base : Nat) (words : List Word) : State :=
  s.writeRecordIf (fun _ => true) base words 0

/-- The base address and the words of a write transfer; none for a read. -/
def Transfer.payload : Transfer → Option (Nat × List Word)
  | .bsrWrite ws => some (bsrBase, ws)
  | .ssrWrite i ws => some (ssrBase i, ws)
  | .failWrite i slot ws => some (failBase i slot, ws)
  | .bcrRead => none
  | .scrRead _ => none
  | .chunkRead _ => none

/-- Abandons the transfer in progress at a reset (R22): each word of a write transfer holds its old or
its new value, by the free value, with good parity in both cases. A read delivers nothing. -/
def State.abandonTransfer (s : State) : State :=
  match s.smc.transfer.bind Transfer.payload with
  | some (base, ws) =>
    let t := s.writeRecordIf (fun i => (Config.abandonedWords s.freeCount).getLsbD i) base ws 0
    { t with freeCount := s.freeCount + 1 }
  | none => s

end Sys2Proof.Machine
end

