-- ==== Sys2Proof/Machine/Ops.lean ====
section
/-! DEFINITION. The shared operations over the state: what a socket's blocks see of the rest of the
part, the update of one or of all sockets (which raises SOCKET_ENDED), the banks, and the arbiter of the
memory port (R11 to R13). -/

namespace Sys2Proof.Machine

/-! ## Sockets -/

/-- What the blocks of one socket read of the rest of the part within an event. -/
structure Ctx where
  runMs : Word32
  sweepNumber : Word32
  /-- the Sweep Period the sweep timer runs with -/
  period : Nat
  config : BoardConfig
  board : BoardState
  reason : HoldReason
  bank : Bank
  /-- the level of the socket's fast-trip input -/
  fastInput : Bool
deriving DecidableEq, Repr

/-- The context of one socket. -/
def State.ctx (s : State) (i : SocketIx) : Ctx :=
  { runMs := s.time.runMs, sweepNumber := s.scu.sweepNumber, period := s.scu.interval,
    config := s.scu.config, board := s.brc.state, reason := s.brc.reason, bank := s.banks[bankOf i],
    fastInput := s.pins.fastTrip.getLsbD i.val }

/-- One socket. -/
def State.sock (s : State) (i : SocketIx) : Socket := s.sockets[i]

/-- The terminal phases (R158). -/
def Phase.terminal : Phase → Bool
  | .complete => true
  | .retired => true
  | _ => false

/-- Whether a change from `x` to `y` has the socket enter COMPLETE or RETIRED (TABLE 1-7). -/
def Socket.ends (x y : Socket) : Bool := y.acct.phase.terminal && x.acct.phase != y.acct.phase

/-- Applies one event to one socket; ATTENTION.SOCKET_ENDED is set if the socket enters COMPLETE or
RETIRED (R19, R166, R181). -/
def State.updSock (s : State) (i : SocketIx) (f : Socket → Socket) : State :=
  { s with sockets := s.sockets.set i (f s.sockets[i]) }.raiseIf
    (s.sockets[i].ends (f s.sockets[i])) .socketEnded

/-- Applies one event to every socket; ATTENTION.SOCKET_ENDED is set if some socket enters COMPLETE or
RETIRED. -/
def State.updAll (s : State) (f : SocketIx → Socket → Socket) : State :=
  { s with sockets := Vector.ofFn fun i => f i s.sockets[i] }.raiseIf
    ((List.finRange 32).any fun i => s.sockets[i].ends (f i s.sockets[i])) .socketEnded

/-- Applies one event to the four sockets of a bank (R1). -/
def State.updBankSocks (s : State) (b : BankIx) (f : SocketIx → Socket → Socket) : State :=
  s.updAll fun i x => if bankOf i = b then f i x else x

/-- Updates one bank's state. -/
def State.updBank (s : State) (b : BankIx) (f : Bank → Bank) : State :=
  { s with banks := s.banks.set b (f s.banks[b]) }

/-- The sockets of a bank, lowest first (R1). -/
def bankSockets (b : BankIx) : List SocketIx :=
  (List.finRange 4).map fun k => ⟨4 * b.val + k.val, by omega⟩

/-- While POR_N is asserted every block is held in its reset state and no event of the part, of the
host port or of the time base acts (R6, R22; log entry 8). -/
def State.live (s : State) (f : State → State) : State := if s.pins.por then s else f s

/-! ## The arbiter (R12, TABLE 1-4) -/

/-- Grants the port to the host's waiting or new word access. -/
def Smc.grantHost (m : Smc) : Smc :=
  { m with owner := .host, lastGranted := .host, hostWaiting := false }

/-- Grants the port to a transfer of the Scan Unit; the record lock is taken. -/
def Smc.grantScan (m : Smc) (t : Transfer) : Smc :=
  { m with owner := .scan, lastGranted := .scan, scanWaiting := none, transfer := some t }

/-- A host word request. -/
def Smc.requestHost (m : Smc) : Smc :=
  if m.owner = .none then m.grantHost else { m with hostWaiting := true }

/-- A Scan Unit transfer request. -/
def Smc.requestScan (m : Smc) (t : Transfer) : Smc :=
  if m.owner = .none then m.grantScan t else { m with scanWaiting := some t }

/-- The port becomes free and the arbiter grants a waiting request: the only one, or that of the
requester other than the last granted. -/
def Smc.release (m : Smc) : Smc :=
  let m := { m with owner := .none, transfer := none }
  match m.hostWaiting, m.scanWaiting with
  | false, none => m
  | true, none => m.grantHost
  | false, some t => m.grantScan t
  | true, some t => if m.lastGranted = .host then m.grantScan t else m.grantHost

/-- `Smc.release` on the state. -/
def State.releasePort (s : State) : State := { s with smc := s.smc.release }

/-- `Smc.requestScan` on the state. -/
def State.requestScan (s : State) (t : Transfer) : State := { s with smc := s.smc.requestScan t }

/-- Whether the Scan Unit's transfer in progress is the given one: it owns the port. -/
def State.transferring (s : State) : Option Transfer :=
  if s.smc.owner = .scan then s.smc.transfer else none

end Sys2Proof.Machine
end

