-- ==== Sys2Proof/Machine/Exercise.lean ====
section
/-! DEFINITION. The exercise state of one socket (Chapters 8 and 9), apart from what it hands to the
other blocks. -/

namespace Sys2Proof.Machine

/-- A frame or self-test cycle in progress is abandoned without evaluation or record (R147, R154). -/
def Exercise.abandon (e : Exercise) : Exercise :=
  { e with frameLane := Vector.replicate 16 0, frameTotal := 0, cycle := .noCycle, latched := none,
           expiry := none, heldSpurious := 0 }

/-- Entry to ARMED, which arms the onset flag (R134, R146). -/
def Exercise.arm (e : Exercise) : Exercise := { e with st := .armed, onsetArmed := true }

/-- Entry to STRESSING: ARMED, or SUSPENDED while the suspension flag is set (R134, R135). -/
def Exercise.beginStress (e : Exercise) : Exercise :=
  if e.suspendFlag then { e with st := .suspended } else e.arm

/-- A hold or an interlock: ARMED and RUNNING become PAUSED (R135). -/
def Exercise.pause (e : Exercise) : Exercise :=
  match e.st with
  | .armed | .running => { e.abandon with st := .paused }
  | _ => e

/-- The end of exercise: ARMED, RUNNING, PAUSED and SUSPENDED become STOPPED (R134). -/
def Exercise.halt (e : Exercise) : Exercise :=
  match e.st with
  | .armed | .running | .paused | .suspended => { e.abandon with st := .stopped }
  | _ => e

/-- The suspension of R133: the flag, and SUSPENDED from ARMED and RUNNING. -/
def Exercise.suspend (e : Exercise) : Exercise :=
  match e.st with
  | .armed | .running => { e.abandon with suspendFlag := true, st := .suspended }
  | _ => { e with suspendFlag := true }

/-- How the exercise state follows a phase change (R134, R135). -/
def Exercise.followPhase (old new : Phase) (e : Exercise) : Exercise :=
  if old = new then e
  else if new = .stressing then e.beginStress
  else if old = .stressing then (if new = .held then e.pause else e.halt)
  else if old = .held then e.halt
  else e

/-- An adopted Exercise Mode becomes pending (R136), and the adoption clears the suspension flag
(R135). -/
def Exercise.adopt (mode : ExMode) (phase : Phase) (e : Exercise) : Exercise :=
  let e := { e with pendingMode := mode, suspendFlag := false }
  if e.st = .suspended then
    if phase = .stressing then e.arm
    else if phase = .held then { e with st := .paused }
    else e
  else e

/-- The cycle's start (R149): the settings are latched; a Start Delay of 0 begins the pulse at once
(R150). -/
def Exercise.startCycle (n : Numbers) (e : Exercise) : Exercise :=
  { e with
    latched := some { startLane := n.startLane, doneLane := n.doneLane, passLane := n.passLane,
                      startDelay := n.startDelay, startWidth := n.startWidth,
                      doneTimeout := n.doneTimeout }
    vectorCount := 0
    heldSpurious := 0
    expiry := none
    cycle := if n.startDelay = 0 then .startPulse else .startDelay }

/-- The skip counts take the Delay of every lane's entry (R143). -/
def Exercise.setSkips (m : LaneMap) (i : SocketIx) (e : Exercise) : Exercise :=
  { e with skip := Vector.ofFn fun l => m[i][l].delay }

/-- Puts an exercise state into a socket, with the spoil report of R138 for a change out of RUNNING
while the phase is STRESSING, unless the mode in force is IDLE. -/
def Socket.setEx (x : Socket) (e : Exercise) : Socket :=
  { x with
    ex := e
    acct := { x.acct with
      spoil := x.acct.spoil ||
        (x.ex.st == .running && e.st != .running && x.acct.phase == .stressing &&
          x.ex.mode != .idle) } }

/-- The lane-role check of one SELFTEST socket against a map (R133). -/
def Socket.checkRoles (m : LaneMap) (i : SocketIx) (x : Socket) : Socket :=
  if x.gate.shadow.mode = .selftest ∧ rolesFit m i x.gate.shadow.num = false then
    x.setEx x.ex.suspend
  else x

end Sys2Proof.Machine
end

