-- ==== Sys2Proof/Machine/Rail.lean ====
section
/-! DEFINITION. The rail of one socket (Chapter 4): its state changes, apart from what they hand to the
other blocks. -/

namespace Sys2Proof.Machine

/-- The powered states of R66; the enable is on exactly in them (R68). -/
def RailState.powered : RailState → Bool
  | .rampUp | .settle | .on | .slew | .rampDown => true
  | .off | .chainWait | .tripped | .holdOff | .lockout => false

/-- ON and SLEW: the states that report no spoil and in which lanes drive (R85, R129). -/
def RailState.live : RailState → Bool
  | .on | .slew => true
  | _ => false

/-- The states in which a fast trip cuts the rail into TRIPPED (R77). -/
def RailState.checked : RailState → Bool
  | .rampUp | .settle | .on | .slew => true
  | _ => false

/-- What every cut, trip and takedown does to the checks: the slow-trip window is emptied, the dropout
and settle counts are 0 and the open-contact check is disarmed (R78, R80, R81, R84). -/
def Rail.clearChecks (r : Rail) : Rail :=
  { r with window := [], dropCount := 0, worstDrop := 0, settleCount := 0, openArmed := false,
           ownSample := false }

/-- A takedown order (R81). A rail in RAMP_UP whose DAC target is still 0 stands in RAMP_DOWN until the next
sense tick too (R82; log entry 48). -/
def Rail.takedown (r : Rail) : Rail :=
  match r.st with
  | .rampUp | .settle | .on | .slew => { r.clearChecks with st := .rampDown, pendingEntry := false }
  | .chainWait | .holdOff => { r with st := .off, holdOff := none }
  | .rampDown => { r with pendingEntry := false }
  | .off | .tripped | .lockout => r

/-- Where a rail that joins the chain stands: in CHAIN_WAIT, or in a BANK hold-off while the bank
hold-off runs (R69, R90). -/
def Rail.joinChain (b : Bank) (r : Rail) : Rail :=
  match b.holdOff with
  | some e => { r with st := .holdOff, dac := 0, holdOff := some (.bank, e), pendingEntry := false }
  | none => { r with st := .chainWait, dac := 0, holdOff := none, pendingEntry := false }

/-- A chain entry order that reaches a rail of an unlocked bank (R69, R90). -/
def Rail.chainEntry (b : Bank) (r : Rail) : Rail :=
  match r.st with
  | .off => r.joinChain b
  | .rampDown => { r with pendingEntry := true }
  | _ => r

/-- The interlock cut (R84): OFF whatever the state. -/
def Rail.interlockCut (r : Rail) : Rail :=
  { r.clearChecks with st := .off, dac := 0, holdOff := none, pendingEntry := false }

/-- The bank cut (R80), with the bank hold-off's expiry. -/
def Rail.bankCut (expiry : Word32) (r : Rail) : Rail :=
  match r.st with
  | .rampUp | .settle | .on | .slew =>
    { r.clearChecks with st := .holdOff, dac := 0, holdOff := some (.bank, expiry) }
  | .chainWait | .holdOff => { r with st := .holdOff, holdOff := some (.bank, expiry) }
  | .rampDown => { r.clearChecks with st := .off, dac := 0, pendingEntry := false }
  | .off | .tripped | .lockout => r

/-- A socket-caused trip (R78): the cut, the trip used, the checks cleared, and the SOCKET hold-off. -/
def Rail.tripped (now : Word32) (holdMs : Nat) (r : Rail) : Rail :=
  { r.clearChecks with
    st := .holdOff, dac := 0, trips := r.trips + 1,
    holdOff := some (.socket, now + BitVec.ofNat 32 holdMs) }

/-- A fast trip during RAMP_DOWN (R82): cut to OFF, no trip used. -/
def Rail.endRampDown (r : Rail) : Rail :=
  { r.clearChecks with st := .off, dac := 0, pendingEntry := false }

/-- RAMP_UP from a DAC target of 0 (R70, R79). -/
def Rail.startRamp (r : Rail) : Rail := { r with st := .rampUp, dac := 0, holdOff := none }

/-- LOCKOUT, left at once to OFF (R79). -/
def Rail.lockOut (r : Rail) : Rail := { r with st := .off, dac := 0, holdOff := none }

/-- The tick's ramp work (R71, R76, R82, R90). A rail in RAMP_DOWN ends it at the tick at which its DAC target
is 0, also where it was 0 at the takedown (log entry 48). -/
def Rail.rampTick (n : Numbers) (b : Bank) (r : Rail) : Rail :=
  let r := { r with ownSample := false }
  match r.st with
  | .rampUp =>
    let d := toward r.dac n.railSetpoint n.rampRate
    if d = n.railSetpoint then
      { r with st := .settle, dac := d, settleCount := 0, worstSettle := 0, settleFromSlew := false,
               ownSample := true }
    else { r with dac := d }
  | .slew =>
    let d := toward r.dac n.railSetpoint n.rampRate
    if d = n.railSetpoint then
      { r with st := .settle, dac := d, settleCount := 0, worstSettle := 0, settleFromSlew := true }
    else { r with dac := d }
  | .rampDown =>
    let d := r.dac - n.rampRate
    if d = 0 then
      if r.pendingEntry then r.joinChain b else { r with st := .off, dac := 0 }
    else { r with dac := d }
  | _ => r

/-- Adopted rail settings taking effect (R68, R71, R76, R86): a changed Rail Setpoint returns SETTLE to
RAMP_UP and puts ON in SLEW; a changed Fast Current Limit is sent as the new threshold. -/
def Rail.adopt (old new : Numbers) (r : Rail) : Rail :=
  let r := if old.fastLimit = new.fastLimit then r else { r with threshold := new.fastLimit }
  if old.railSetpoint = new.railSetpoint then r
  else match r.st with
    | .settle => { r with st := .rampUp, settleCount := 0, ownSample := false }
    | .on => { r with st := .slew, window := [], dropCount := 0, worstDrop := 0 }
    | _ => r

/-- Entry to ON (R72, R73, R74, R75): the window is emptied, the dropout count is 0, and a power-up arms
the open-contact check. -/
def Rail.enterOn (r : Rail) : Rail :=
  let r := { r with st := .on, window := [], dropCount := 0, worstDrop := 0 }
  if r.settleFromSlew then r else { r with openArmed := true, openCount := 0, openSum := 0 }

/-- The current a rail counts with in heater allocation (R93). -/
def Rail.allocCurrent (r : Rail) : Nat := if r.st.powered then r.current.toNat else 0

/-- Puts a rail into a socket, with the spoil report of R85 for a change into a state other than ON or
SLEW. -/
def Socket.setRail (x : Socket) (r : Rail) : Socket :=
  { x with
    rail := r
    acct := { x.acct with
      spoil := x.acct.spoil || (r.st != x.rail.st && !r.st.live) } }

end Sys2Proof.Machine
end

