-- ==== Sys2Proof/Machine/Thermal.lean ====
section
/-! DEFINITION. The thermal control state and the heater and cooler drive of one socket (Chapter 7,
with the grant of Chapter 5), apart from what they hand to the other blocks. -/

namespace Sys2Proof.Machine

/-! ## Events that act on the output -/

/-- The rest values (R108), also set by completion with POWER_OFF and withdrawal (R110). -/
def Thermal.rest (t : Thermal) : Thermal :=
  { t with u := 0, iAcc := 0, sat := .none, grant := 0, preload := 0, runaway := 0 }

/-- Both outputs off at once (R116): the active duty is 0 and the pulse ends; the period side stays. -/
def Thermal.outputsOff (t : Thermal) : Thermal :=
  { t with duty := 0, pulse := ⟨.none, 0, 0⟩, heaterOn := false, coolerOn := false }

/-- Retirement (R110, R116). -/
def Thermal.retire (t : Thermal) : Thermal := t.rest.outputsOff

/-- The stop (R56): u, preload, grant and integrator 0. -/
def Thermal.stop (t : Thermal) : Thermal :=
  { t with u := 0, iAcc := 0, sat := .none, grant := 0, preload := 0 }

/-- The interlock event (R61, R116). -/
def Thermal.interlock (t : Thermal) : Thermal := t.stop.outputsOff

/-- Replaces a positive u by 0, loading 0 into the preload (R89, R103). -/
def Thermal.dropHeat (t : Thermal) : Thermal :=
  if 0 < t.u then { t with u := 0, preload := 0 } else t

/-- The Thermal Control Unit's part of a bank trip (R89). -/
def Thermal.bankTrip (t : Thermal) : Thermal := { t.dropHeat with grant := 0, ceiling := 0 }

/-- The loss values of R101: u is minus the Cooler Limit in a control phase, 0 in any other. -/
def Thermal.loss (control : Bool) (coolerLimit : Nat) (t : Thermal) : Thermal :=
  let u : Int := if control then -(coolerLimit : Int) else 0
  { t with iAcc := 0, sat := .none, grant := 0, u := u, preload := u }

/-! ## Allocation and control update -/

/-- The ceiling of R94 from the headroom of R93. -/
def ceilingOf (b : Bank) (headroom fullScale : Nat) : Nat :=
  if b.holdOff.isSome || b.locked || headroom == 0 then 0
  else min 1023 (headroom * 1024 / fullScale)

/-- Sets Heater Ceiling and H_max (R94). -/
def Thermal.allocate (b : Bank) (headroom : Nat) (n : Numbers) (t : Thermal) : Thermal :=
  let c := ceilingOf b headroom n.heaterFullScale
  { t with ceiling := c, hMax := min c n.heaterLimit }

/-- The Heater Grant of an output (R94): its positive part times the Heater Full-Scale Current, divided
by 1,024 and rounded down. -/
def grantOf (u : Int) (fullScale : Nat) : Nat := u.toNat * fullScale / 1024

/-- Step 3 of the update (R112): the integrator after the error e. -/
def integrate (n : Numbers) (sat : SatRecord) (e iAcc : Int) : Int :=
  if n.ki = 0 then 0
  else if (sat = .high ∧ 0 < e) ∨ (sat = .low ∧ e < 0) then iAcc
  else clampInt (-261888) 261888 (iAcc + n.ki * e)

/-- Step 1: the error (R111). -/
def errorOf (n : Numbers) (tf : Int) : Int := clampInt (-2048) 2047 (n.tempSetpoint - tf)

/-- The control update, steps 1 to 8, and the saturation record (R111 to R113). -/
def Thermal.update (n : Numbers) (tf : Int) (t : Thermal) : Thermal :=
  let e := errorOf n tf
  let p := Int.tdiv (n.kp * e) 256
  let i := integrate n t.sat e t.iAcc
  let raw := p + Int.tdiv i 256
  let u := clampInt (-(n.coolerLimit : Int)) t.hMax raw
  { t with
    iAcc := i
    u := u
    grant := grantOf u n.heaterFullScale
    preload := u
    sat := if u = t.hMax ∧ 0 < e then .high
           else if u = -(n.coolerLimit : Int) ∧ e < 0 then .low else .none }

/-- The hold visit (R109). -/
def Thermal.holdVisit (n : Numbers) (t : Thermal) : Thermal :=
  let u := clampInt (-(n.coolerLimit : Int)) t.hMax t.u
  { t with u := u, grant := grantOf u n.heaterFullScale, preload := u, runaway := 0 }

/-! ## The drive -/

/-- The pulse of a period from its active duty, the previous side and the Dead Time (R115). -/
def pulseOf (d : Int) (prev : Side) (deadTime : Nat) : Pulse :=
  if d = 0 then ⟨.none, 0, 0⟩
  else
    let side : Side := if 0 < d then .heater else .cooler
    let other : Side := if 0 < d then .cooler else .heater
    if prev = other then
      if d.natAbs ≤ deadTime then ⟨.none, 0, 0⟩ else ⟨side, deadTime, d.natAbs⟩
    else ⟨side, 0, d.natAbs⟩

/-- Whether a pulse drives the given side at a tick. -/
def Pulse.drives (p : Pulse) (side : Side) (tick : Nat) : Bool :=
  p.side == side && p.start ≤ tick && tick < p.stop

/-- The output pins at a tick of the period. -/
def Thermal.atTick (tick : Nat) (t : Thermal) : Thermal :=
  { t with heaterOn := t.pulse.drives .heater tick, coolerOn := t.pulse.drives .cooler tick }

/-- The period start (R114, R117). -/
def Thermal.periodStart (interlock : Bool) (deadTime : Nat) (t : Thermal) : Thermal :=
  let d : Int := if interlock then 0 else t.preload
  let p := pulseOf d t.periodSide deadTime
  { t with prevSide := t.periodSide, duty := d, pulse := p, periodSide := p.side }.atTick 0

end Sys2Proof.Machine
end

