-- ==== Sys2Proof/Machine/Account.lean ====
section
/-! DEFINITION. The Socket Accounting Unit's shared operations on one socket: phase changes, conditions,
records, strikes, retirement and bins (R158, R159, R173 to R183). -/

namespace Sys2Proof.Machine

/-! ## Phases -/

/-- The reporting phases (R102, R174). -/
def Phase.reporting : Phase → Bool
  | .waiting | .powering | .soaking | .stressing | .held => true
  | .empty | .complete | .retired => false

/-- The active phases (R158), as the Resume Phase a hold gives them (R164). -/
def Phase.asResume : Phase → ResumePhase
  | .powering => .powering
  | .soaking => .soaking
  | .stressing => .stressing
  | _ => .none

/-- The start of a soak: the in-window timer and the soak timer become 0 (R104, R119, R161, R162). -/
def Socket.beginSoak (x : Socket) : Socket :=
  { x with sensor := { x.sensor with inWindowMs := 0 }, thermal := { x.thermal with soakMs := 0 } }

/-- A change of phase, with the Resume Phase after it: the exercise state follows (R134), left stress is
noted (R170), and a change from POWERING to SOAKING starts the soak (R159). -/
def Socket.changePhase (p : Phase) (r : ResumePhase) (x : Socket) : Socket :=
  let old := x.acct.phase
  let y := x.setEx (x.ex.followPhase old p)
  let y := if old = .powering ∧ p = .soaking then y.beginSoak else y
  { y with acct := { y.acct with
      phase := p
      resume := r
      leftStress := y.acct.leftStress || (old == .stressing && p != .stressing) } }

/-! ## Retirement -/

/-- TABLE 11-6: the bin of a retirement. -/
def RetireKind.bin : RetireKind → Bin
  | .kind .compare => .failFunctional
  | .kind .selftestFail => .failFunctional
  | .kind .selftestTimeout => .failFunctional
  | .kind .railTrip => .failPower
  | .kind .railRegulation => .failPower
  | .kind .openContact => .noContact
  | .kind .thermal => .failThermal
  | .kind .sensorLost => .failThermal
  | .lockout => .failPower
  | .diagnosis => .boardFault
  | .bankLock => .boardFault
  | .none => .none

/-- Retirement (R181). -/
def Socket.retire (k : RetireKind) (x : Socket) : Socket :=
  let y := x.changePhase .retired .none
  let y := { y with acct := { y.acct with retireKind := k, bin := k.bin },
                    thermal := y.thermal.retire }
  y.setRail y.rail.takedown

/-- A lockout, diagnosis-fail or bank-lock report (R182): it retires a socket in a reporting phase. -/
def Socket.report (k : RetireKind) (x : Socket) : Socket :=
  if x.acct.phase.reporting then x.retire k else x

/-! ## Conditions -/

/-- Subcodes of TABLE 12-6. -/
def subFast : Nat := 1
/-- RAIL_TRIP SLOW. -/
def subSlow : Nat := 2
/-- RAIL_REGULATION SETTLE_TIMEOUT. -/
def subSettleTimeout : Nat := 1
/-- RAIL_REGULATION DROPOUT. -/
def subDropout : Nat := 2
/-- THERMAL RUNAWAY. -/
def subRunaway : Nat := 1
/-- THERMAL ABS_LIMIT. -/
def subAbsLimit : Nat := 2
/-- THERMAL SOAK_TIMEOUT. -/
def subSoakTimeout : Nat := 3

/-- The action of a condition: the socket's Kind Action, but RETIRE for THERMAL ABS_LIMIT (R175, R176). -/
def Settings.actionFor (st : Settings) (k : Kind) (sub : Nat) : KindAction :=
  if k = .thermal ∧ sub = subAbsLimit then .retire else st.kindActions[k.ix]

/-- Step 1 of R175: the Kind Count. -/
def Account.countKind (k : Kind) (a : Account) : Account :=
  { a with kindCount := a.kindCount.set k.ix (satAdd max16 a.kindCount[k.ix] 1) }

/-- The record of R177 for a condition, with the Sequence of the total already incremented. -/
def Socket.buildRecord (c : Ctx) (k : Kind) (sub : Nat) (details : List Word) (total : Word32)
    (x : Socket) : FailRecord :=
  { sequence := total.extractLsb' 0 16, kind := k, subcode := sub, phase := x.acct.phase,
    sweep := c.sweepNumber, dwell := x.acct.dwellSec, voltage := x.rail.voltage,
    current := x.rail.current, temperature := x.sensor.word, details := details }

/-- Step 5 of R175: the record joins the staging FIFO or is lost (R179). -/
def Account.stage (f : FailRecord) (a : Account) : Account :=
  if a.staging.length < 4 then { a with staging := a.staging ++ [f] }
  else { a with detailLost := a.detailLost + 1 }

/-- Step 4 of R175: Fail Event Total, and First Fail Dwell at the first record. -/
def Account.countRecord (a : Account) : Account :=
  { a with
    failTotal := a.failTotal + 1
    firstFailDwell :=
      if a.firstFailDwell = 0xFFFFFFFF then BitVec.ofNat 32 a.dwellSec else a.firstFailDwell }

/-- Steps 4 and 5 of R175. -/
def Socket.record (c : Ctx) (k : Kind) (sub : Nat) (details : List Word) (x : Socket) : Socket :=
  let a := x.acct.countRecord
  { x with acct := a.stage (x.buildRecord c k sub details a.failTotal) }

/-- Step 6 of R175: a strike, which retires at the Strike Limit in force (R180). -/
def Socket.strike (k : Kind) (x : Socket) : Socket :=
  let y := { x with acct := { x.acct with strikes := x.acct.strikes + 1 } }
  if y.gate.shadow.num.strikeLimit ≤ y.acct.strikes then y.retire (.kind k) else y

/-- A condition handed to the Socket Accounting Unit (R174, R175). -/
def Socket.takeCondition (c : Ctx) (k : Kind) (sub : Nat) (details : List Word) (x : Socket) :
    Socket :=
  if x.acct.phase.reporting then
    let y := { x with acct := x.acct.countKind k }
    match x.gate.shadow.actionFor k sub with
    | .ignore => y
    | .log => y.record c k sub details
    | .strike => (y.record c k sub details).strike k
    | .retire => (y.record c k sub details).retire (.kind k)
  else x

/-! ## Orders to the rail -/

/-- A takedown order for the rail (R81). -/
def Socket.takedown (x : Socket) : Socket := x.setRail x.rail.takedown

/-- A chain entry order (R69, R90), answered by a bank-lock report while the bank is locked (R92). -/
def Socket.chainEntry (c : Ctx) (x : Socket) : Socket :=
  if c.bank.locked then x.report .bankLock else x.setRail (x.rail.chainEntry c.bank)

/-- The loss handed on at an entry to WAITING while the sensor is LOST (R102). -/
def Socket.reportLoss (c : Ctx) (x : Socket) : Socket :=
  if x.sensor.st = .lost then x.takeCondition c .sensorLost 0 [x.sensor.raw] else x

/-- The spoil report of any block (R169). -/
def Socket.reportSpoil (b : Bool) (x : Socket) : Socket :=
  { x with acct := { x.acct with spoil := x.acct.spoil || b } }

end Sys2Proof.Machine
end

