-- ==== Sys2Proof/Machine/Frames.lean ====
section
/-! DEFINITION. The Pattern Exerciser's events (Chapters 8 and 9): the vector and the frame boundary,
and the levels of the lanes. -/

namespace Sys2Proof.Machine

/-! ## Generators and sources -/

/-- The output of a generator: bit s14 (R125). -/
def Gen.output (g : Gen) : Bool := g.state.getLsbD 14

/-- The step at the end of a vector (R125). -/
def Gen.step (g : Gen) : Gen :=
  { g with state := g.state.extractLsb' 0 14 ++
      BitVec.ofBool (g.state.getLsbD 14 ^^ g.state.getLsbD 13) }

/-- The reload at a frame boundary (R126). -/
def Gen.reload (g : Gen) : Gen := if g.restart = .restart then { g with state := g.seed } else g

/-- The generators at a frame boundary: all of them take the configuration's seeds and modes at the
first boundary after an adoption (R126). -/
def Pxr.reloadGens (cfg : BoardConfig) (p : Pxr) : Vector Gen 4 :=
  if p.reloadAll then
    Vector.ofFn fun g => { state := cfg.seeds[g], seed := cfg.seeds[g], restart := cfg.restarts[g] }
  else Vector.ofFn fun g => p.gens[g].reload

/-- The source stream of a lane: the source's bit after Invert (R127). For CLOCK it is the level of the
half of the vector asked for, the first or the second. -/
def LaneEntry.sourceBit (gens : Vector Gen 4) (index : Nat) (firstHalf : Bool) (e : LaneEntry) :
    Bool :=
  (match e.source with
   | .gen g => gens[g].output
   | .count k => index.testBit k.val
   | .constant => e.constant
   | .clock => firstHalf) ^^ e.invert

/-! ## Lane levels -/

/-- An Idle Level at the pin: none is FLOAT (R129). -/
def IdleLevel.level : IdleLevel → Option Bool
  | .low => some false
  | .high => some true
  | .float => none

/-- The Start Lane and its level as the self-test cycle sets it (R150). -/
def Exercise.startLane (e : Exercise) (n : Numbers) : Nat :=
  match e.latched with
  | some l => l.startLane
  | none => n.startLane

/-- The level at a lane's pin during a half of the vector in progress (R129, TABLE 8-3): none is FLOAT,
not driven. A RUNNING socket whose rail enters ON, also from the SETTLE that ends a slew, drives its
source streams at once, as TABLE 8-3 has it, and no Idle Level first (log entry 43). -/
def State.laneLevel (s : State) (i : SocketIx) (l : LaneIx) (firstHalf : Bool) : Option Bool :=
  let x := s.sock i
  let e := s.pxr.vectorMap[i][l]
  if x.rail.st.live && e.direction == .drive then
    if x.acct.phase = .stressing ∧ x.ex.st = .running then
      match x.ex.mode with
      | .idle => e.idle.level
      | .pattern => some (e.sourceBit s.pxr.gens s.pxr.vectorIndex firstHalf)
      | .selftest =>
        if x.ex.startLane x.gate.shadow.num = l.val then
          if x.ex.cycle = .startPulse then some true else e.idle.level
        else some (e.sourceBit s.pxr.gens s.pxr.vectorIndex firstHalf)
    else e.idle.level
  else none

/-- The loopback control of a lane buffer, which serves four sockets (R129): for buffer k the sockets 4k to
4k + 3, as the model reads it (log entry 46). -/
def State.loopbackControl (s : State) (b : BankIx) : Bool :=
  (bankSockets b).any fun i => (s.sock i).ex.st == .diag

/-- The level the part drives into each of a socket's 16 loopback paths (R155): the output of GEN0 while
the socket is in DIAG, whatever the lanes' entries hold; none outside DIAG. -/
def State.loopbackLevel (s : State) (i : SocketIx) : Option Bool :=
  if (s.sock i).ex.st = .diag then some s.pxr.gens[0].output else none

/-! ## The vector -/

/-- The levels of one socket's lanes among all. -/
def lanesOf (x : LaneBits) (i : SocketIx) : BitVec 16 := x.extractLsb' (16 * i.val) 16

/-- Whether a lane is one that R142 compares when its skip count is 0: a SENSE lane with Compare
Enable. -/
def LaneEntry.checks (e : LaneEntry) : Bool := e.direction == .sense && e.compare

/-- The delay lines after the bits of the current vector have entered (R141). -/
def Exercise.shiftLines (bits : Vector Bool 16) (e : Exercise) : Exercise :=
  { e with delayLine := Vector.ofFn fun l =>
      e.delayLine[l].extractLsb' 0 63 ++ BitVec.ofBool bits[l] }

/-- The expected level of a lane, its line already shifted (R141). -/
def Exercise.expected (m : Vector LaneEntry 16) (e : Exercise) (l : LaneIx) : Bool :=
  e.delayLine[l].getLsbD m[l].delay

/-- Whether a lane has a mismatch at the vector (R142). -/
def Socket.mismatch (m : Vector LaneEntry 16) (index : Nat) (recv : BitVec 16) (x : Socket)
    (l : LaneIx) : Bool :=
  x.ex.st == .running && x.ex.mode == .pattern && x.rail.st.live && m[l].checks &&
    (x.ex.winStart ≤ index && index < x.ex.winStart + x.ex.winLength) && x.ex.skip[l] == 0 &&
    recv.getLsbD l.val != x.ex.expected m l

/-- The comparison of one vector (R142). -/
def Socket.compare (m : Vector LaneEntry 16) (index : Nat) (recv : BitVec 16) (x : Socket) : Socket :=
  { x with ex := { x.ex with
      frameLane := Vector.ofFn fun l =>
        if x.mismatch m index recv l then satAdd max16 x.ex.frameLane[l] 1 else x.ex.frameLane[l]
      frameTotal := satAdd max16 x.ex.frameTotal
        ((List.finRange 16).countP fun l => x.mismatch m index recv l)
      skip := Vector.ofFn fun l => if m[l].checks then x.ex.skip[l] - 1 else x.ex.skip[l] } }

/-- The diagnosis comparison of one vector (R155). -/
def Socket.diagCompare (gen0 : Bool) (loop : BitVec 16) (x : Socket) : Socket :=
  if x.ex.st = .diag then
    { x with ex := { x.ex with
        diagCount := satAdd max16 x.ex.diagCount
          ((List.finRange 16).countP fun l => loop.getLsbD l.val != gen0) } }
  else x

/-- Whether the Done Lane has a rising edge at the vector (R151). -/
def Exercise.risesDone (recv : BitVec 16) (e : Exercise) : Bool :=
  match e.latched with
  | some l => recv.getLsbD l.doneLane && !e.prevRecv.getLsbD l.doneLane
  | none => false

/-- The end of a self-test cycle at its done edge (R151). -/
def Socket.doneEdge (c : Ctx) (pass : Bool) (x : Socket) : Socket :=
  let d := min max32 x.ex.vectorCount
  let y := { x with ex := { x.ex with
      lastDuration := d
      cycles := satAdd max32 x.ex.cycles 1
      spurious := satAdd max16 x.ex.spurious x.ex.heldSpurious
      cycle := .cycleEnded
      expiry := none } }
  if pass then y else y.takeCondition c .selftestFail 0 (natWords32 d)

/-- A vector of a RUNNING SELFTEST socket as its cycle sees it (R151, R153). -/
def Socket.watchDone (c : Ctx) (recv : BitVec 16) (x : Socket) : Socket :=
  if x.ex.st = .running ∧ x.ex.mode = .selftest ∧ x.ex.risesDone recv = true then
    match x.ex.cycle with
    | .noCycle => x
    | .startDelay | .startPulse =>
      { x with ex := { x.ex with heldSpurious := satAdd max16 x.ex.heldSpurious 1 } }
    | .cycleEnded => { x with ex := { x.ex with spurious := satAdd max16 x.ex.spurious 1 } }
    | .awaitingDone =>
      x.doneEdge c (recv.getLsbD ((x.ex.latched.map CycleSettings.passLane).getD 0))
  else x

/-- The sense tick at which Done Timeout ms have elapsed since the end of a pulse (R152), for a pulse that ends
at the moment of the latest sense tick, or between it and the next (log entry 25). -/
def timeoutAt (now : Word32) (onTick : Bool) (doneTimeout : Nat) : Word32 :=
  now + BitVec.ofNat 32 (if onTick then doneTimeout else doneTimeout + 1)

/-- The end of a vector for a self-test cycle (R150). -/
def Exercise.endVector (now : Word32) (onTick : Bool) (e : Exercise) : Exercise :=
  match e.latched, e.cycle with
  | some l, .startDelay =>
    if l.startDelay ≤ e.vectorCount + 1 then { e with cycle := .startPulse, vectorCount := 0 }
    else { e with vectorCount := e.vectorCount + 1 }
  | some l, .startPulse =>
    if l.startWidth ≤ e.vectorCount + 1 then
      { e with cycle := .awaitingDone, vectorCount := e.vectorCount + 1,
               expiry := some (timeoutAt now onTick l.doneTimeout) }
    else { e with vectorCount := e.vectorCount + 1 }
  | some _, .awaitingDone => { e with vectorCount := e.vectorCount + 1 }
  | _, _ => e

/-- One vector for one socket: the delay lines, the comparison, the diagnosis and the self-test cycle,
then the end of the vector. -/
def Socket.vector (c : Ctx) (p : Pxr) (i : SocketIx) (recv loop : BitVec 16) (onTick : Bool) (x : Socket) :
    Socket :=
  let m := p.vectorMap[i]
  let bits := Vector.ofFn fun l => m[l].sourceBit p.gens p.vectorIndex true
  let y := { x with ex := x.ex.shiftLines bits }
  let y := ((y.compare m p.vectorIndex recv).diagCompare p.gens[0].output loop).watchDone c recv
  { y with ex := { y.ex.endVector c.runMs onTick with prevRecv := recv } }

/-- The exerciser's own end of a vector (R123, R125, R129): the generators step and the index advances,
or the frame boundary becomes due. -/
def Pxr.endVector (p : Pxr) : Pxr :=
  { p with
    gens := Vector.ofFn fun g => p.gens[g].step
    vectorIndex := if p.vectorIndex + 1 < p.frameLength then p.vectorIndex + 1 else p.vectorIndex
    boundaryDue := !(p.vectorIndex + 1 < p.frameLength : Bool)
    vectorMap := p.active }

/-- One vector of the whole part. -/
def State.vectorEvent (s : State) (received loopback : LaneBits) (onTick : Bool) : State :=
  let t := s.updAll fun i x =>
    x.vector (s.ctx i) s.pxr i (lanesOf received i) (lanesOf loopback i) onTick
  { t with pxr := s.pxr.endVector }

/-- A vector comes once the frame boundary due, if one is, has been taken. -/
def State.laneVector (s : State) (received loopback : LaneBits) (onTick : Bool) : State :=
  if s.pxr.boundaryDue then s else s.vectorEvent received loopback onTick

/-- The cycle state of a socket at the end of a vector; the moment of its end within the millisecond does not
enter into it. -/
def State.cycleAfter (s : State) (i : SocketIx) (received loopback : LaneBits) : CycleState :=
  ((s.sock i).vector (s.ctx i) s.pxr i (lanesOf received i) (lanesOf loopback i) false).ex.cycle

/-! ## The self-test timeout -/

/-- Whether the self-test timeout of a socket is due (R152). -/
def Exercise.timeoutDue (now : Word32) (e : Exercise) : Bool :=
  e.cycle == .awaitingDone &&
    (match e.expiry with
     | some t => reached now t
     | none => false)

/-- The Cycle Number of a timeout (R152): Self-Test Cycles plus one. The manual does not say what it reads
when Self-Test Cycles stands saturated and the sum does not fit the two detail words: a free value (log
entry 45). -/
def State.cycleNumber (s : State) (i : SocketIx) : Word32 :=
  if (s.sock i).ex.cycles < max32 then BitVec.ofNat 32 ((s.sock i).ex.cycles + 1)
  else Config.cycleNumber s.freeCount

/-- The expiry of the self-test timeout (R152), with its Cycle Number. -/
def Socket.selftestTimeout (c : Ctx) (number : Word32) (x : Socket) : Socket :=
  let y := { x with ex := { x.ex with
      spurious := satAdd max16 x.ex.spurious x.ex.heldSpurious
      cycle := .cycleEnded
      expiry := none } }
  y.takeCondition c .selftestTimeout 0 (words32 number)

/-- `Socket.selftestTimeout` on the state; a free value, where one is taken, is used up. -/
def State.selftestTimeout (s : State) (i : SocketIx) : State :=
  { s.updSock i (fun x => x.selftestTimeout (s.ctx i) (s.cycleNumber i)) with
    freeCount := if (s.sock i).ex.cycles < max32 then s.freeCount else s.freeCount + 1 }

/-- The self-test timeout, once it is due. -/
def State.selftestExpiry (s : State) (i : SocketIx) : State :=
  if (s.sock i).ex.timeoutDue s.time.runMs then s.selftestTimeout i else s

/-! ## The frame boundary -/

/-- The failing lane mask of a frame (R145). -/
def Exercise.failMask (e : Exercise) : Word :=
  (List.finRange 16).foldl
    (fun w l => if 1 ≤ e.frameLane[l] then w ||| BitVec.twoPow 16 l.val else w) 0

/-- The close of a comparison frame (R145), before its condition is handed on. -/
def Exercise.closeFrame (e : Exercise) : Exercise :=
  let bad : Bool := e.threshold ≤ e.frameTotal
  { e with
    laneErr := Vector.ofFn fun l => satAdd max16 e.laneErr[l] e.frameLane[l]
    framesRun := satAdd max32 e.framesRun 1
    framesFailed := if bad then satAdd max32 e.framesFailed 1 else e.framesFailed
    onsetArmed := !bad }

/-- The close of a comparison frame with the onset rule of R146. -/
def Socket.closeCompare (c : Ctx) (frame : Word32) (x : Socket) : Socket :=
  let y := { x with ex := x.ex.closeFrame }
  if x.ex.threshold ≤ x.ex.frameTotal ∧ x.ex.onsetArmed = true then
    y.takeCondition c .compare 0
      (words32 frame ++ [x.ex.failMask, natWord x.ex.frameTotal])
  else y

/-- The close of a diagnosis frame (R156). -/
def Socket.closeDiag (x : Socket) : Socket :=
  let pass : Bool := x.ex.diagCount == 0
  let y := { x with ex := { x.ex with
      st := .stopped
      diagErrors := x.ex.diagCount
      diagResult := if pass then .pass else .fail } }
  if pass then y else y.report .diagnosis

/-- Step 1 of R124 for one socket. -/
def Socket.closeStep (c : Ctx) (frame : Word32) (x : Socket) : Socket :=
  match x.ex.st, x.ex.mode with
  | .diag, _ => x.closeDiag
  | .running, .pattern => x.closeCompare c frame
  | .running, .selftest =>
    if x.ex.cycle = .cycleEnded ∧ x.ex.pendingMode = .selftest then
      { x with ex := x.ex.startCycle x.gate.shadow.num }
    else x
  | _, _ => x

/-- Step 2 for one socket: the window of the new frame (R144). -/
def Exercise.latchFrame (n : Numbers) (e : Exercise) : Exercise :=
  { e with winStart := n.winStart, winLength := n.winLength, threshold := n.errThreshold,
           frameLane := Vector.replicate 16 0, frameTotal := 0 }

/-- Step 4 for one socket, at a swap from `old` to `new`: the skip counts of the changed lanes (R143),
then the lane-role check (R133). -/
def Socket.swapStep (old new : LaneMap) (i : SocketIx) (x : Socket) : Socket :=
  { x with ex := { x.ex with skip := Vector.ofFn fun l =>
      if old[i][l] = new[i][l] then x.ex.skip[l] else new[i][l].delay } }.checkRoles new i

/-- Step 5 for one socket (R136). -/
def Exercise.takeMode (m : LaneMap) (i : SocketIx) (n : Numbers) (e : Exercise) : Exercise :=
  if e.pendingMode = e.mode then e
  else
    let e : Exercise :=
      if e.mode = .selftest then
        { e with cycle := .noCycle, latched := none, expiry := none, heldSpurious := 0 }
      else e
    let e := { e with mode := e.pendingMode }
    match e.mode with
    | .idle => e
    | .pattern =>
      let e := { e with onsetArmed := true }
      if e.st = .running then e.setSkips m i else e
    | .selftest => if e.st = .running then e.startCycle n else e

/-- Step 6 for one socket (R134, R143, R149, R137). -/
def Exercise.runStep (m : LaneMap) (i : SocketIx) (n : Numbers) (diag : Bool) (e : Exercise) :
    Exercise :=
  if e.st = .armed then
    let e := { e with st := .running }
    match e.mode with
    | .idle => e
    | .pattern => e.setSkips m i
    | .selftest => e.startCycle n
  else if diag then { e with st := .diag, diagCount := 0 }
  else e

/-- Whether the board command in progress is at a step. -/
def Brc.atStep (b : Brc) (code : CmdCode) (st : CmdStep) : Bool :=
  match b.channel with
  | some ch => ch.code == code && ch.step == st
  | none => false

/-- The command in progress takes a step. -/
def Brc.setStep (b : Brc) (st : CmdStep) : Brc :=
  { b with channel := b.channel.map fun ch => { ch with step := st } }

/-- Whether the frame boundary that ends FRAME_WAIT puts a socket in DIAG (R60, R137). -/
def Brc.diagnoses (b : Brc) (i : SocketIx) : Bool :=
  b.atStep .diagnose .frameWait &&
    (match b.channel with
     | some ch => ch.mask.getLsbD i.val
     | none => false)

/-- The map in force after the boundary: the staging map if a swap is pending (R131). -/
def Pxr.nextMap (p : Pxr) : LaneMap := if p.swapPending then p.staging else p.active

/-- The frame boundary for one socket: steps 1, 2, 4, 5 and 6 of R124. -/
def Socket.boundary (c : Ctx) (p : Pxr) (diag : Bool) (i : SocketIx) (x : Socket) : Socket :=
  let y := x.closeStep c p.frameNumber
  let n := y.gate.shadow.num
  let y := { y with ex := y.ex.latchFrame n }
  let y := if p.swapPending then y.swapStep p.active p.staging i else y
  { y with ex := (y.ex.takeMode p.nextMap i n).runStep p.nextMap i n diag }

/-- The frame boundary for the exerciser's board-wide state: steps 2, 3 and 4 of R124. -/
def Pxr.boundary (cfg : BoardConfig) (p : Pxr) : Pxr :=
  { p with
    vectorIndex := 0
    frameNumber := p.frameNumber + 1
    frameLength := p.pendingLength
    vectorRate := p.pendingRate
    boundaryDue := false
    gens := p.reloadGens cfg
    reloadAll := false
    active := p.nextMap
    vectorMap := p.nextMap
    staging := if p.swapPending then LaneMap.reset else p.staging
    delivered := if p.swapPending then 0 else p.delivered
    swapPending := false }

/-- What a frame boundary reports to Board Run Control: the swap (R57) and the steps of DIAGNOSE
(R60). -/
def Brc.boundary (swap : Bool) (b : Brc) : Brc :=
  if swap then
    { (if b.atStep .loadLaneMap .swapWait then b.setStep .doneWait else b) with
      mapGeneration := b.mapGeneration + 1 }
  else if b.atStep .diagnose .frameWait then b.setStep .diagFrame
  else if b.atStep .diagnose .diagFrame then b.setStep .doneWait
  else b

/-- The frame boundary (R124). -/
def State.boundaryEvent (s : State) : State :=
  let t := s.updAll fun i x => x.boundary (s.ctx i) s.pxr (s.brc.diagnoses i) i
  { t with pxr := s.pxr.boundary s.scu.config, brc := s.brc.boundary s.pxr.swapPending }

/-- The frame boundary, once it is due. -/
def State.frameBoundary (s : State) : State :=
  if s.pxr.boundaryDue then s.boundaryEvent else s

/-! ## Maps under load and fill -/

/-- The staging map is discarded (R130). -/
def Pxr.discard (p : Pxr) : Pxr :=
  { p with staging := LaneMap.reset, delivered := 0, swapPending := false }

/-- The delivery of chunk c: the entries of sockets 2c and 2c + 1 (R130). -/
def Pxr.deliver (c : Nat) (entries : List (Option LaneEntry)) (p : Pxr) : Pxr :=
  { p with
    delivered := p.delivered + 1
    staging := Vector.ofFn fun i =>
      if i.val / 2 = c then
        Vector.ofFn fun l => (entries.getD (16 * (i.val % 2) + l.val) none).getD LaneEntry.reset
      else p.staging[i] }

/-- A fill writes its value into the active entries of the sockets of one half (R132). -/
def Pxr.fill (second : Bool) (e : LaneEntry) (p : Pxr) : Pxr :=
  { p with active := Vector.ofFn fun i =>
      if (16 ≤ i.val : Bool) = second then Vector.replicate 16 e else p.active[i] }

end Sys2Proof.Machine
end

