-- ==== Sys2Proof/Machine/Board.lean ====
section
/-! DEFINITION. Board Run Control (Chapter 3): holds, the stop, the command channel with the eight board
commands, the interlock, the header-visit work and the run-finished check. -/

namespace Sys2Proof.Machine

/-! ## Holds, resume and stop for one socket -/

/-- The phase a Resume Phase names. -/
def ResumePhase.phase : ResumePhase → Phase
  | .none => .powering
  | .powering => .powering
  | .soaking => .soaking
  | .stressing => .stressing

/-- A board hold for one socket (R164), with Board Run Control's spoil report (R49). -/
def Socket.hold (x : Socket) : Socket :=
  (match x.acct.phase with
   | .powering | .soaking | .stressing => x.changePhase .held x.acct.phase.asResume
   | _ => x).reportSpoil true

/-- A resume for one socket (R165, R69), by the Hold Reason the board had. -/
def Socket.resume (c : Ctx) (prior : HoldReason) (x : Socket) : Socket :=
  match x.acct.phase with
  | .held =>
    match prior with
    | .interlock => (x.changePhase .powering .none).chainEntry c
    | _ => x.changePhase x.acct.resume.phase .none
  | .waiting => if prior = .interlock then x.chainEntry c else x
  | .complete =>
    if prior = .interlock ∧ x.gate.shadow.endAction = .holdPowered then x.chainEntry c else x
  | _ => x

/-- The run start for one socket (R53, R69). -/
def Socket.runStart (c : Ctx) (x : Socket) : Socket :=
  if x.acct.phase = .waiting then x.chainEntry c else x

/-- The stop for one socket (R56, R168). -/
def Socket.stop (x : Socket) : Socket :=
  let y : Socket := { x.takedown with thermal := x.thermal.stop }
  let y := y.setEx y.ex.halt
  if y.acct.phase.reporting then
    let z := y.changePhase .waiting .none
    { z with acct := { z.acct with bin := .incomplete } }
  else y

/-- The interlock event for one socket (R61, R84, R116). -/
def Socket.interlockCut (x : Socket) : Socket :=
  let y := x.setRail x.rail.interlockCut
  let y : Socket := { y with thermal := y.thermal.interlock }
  (y.setEx y.ex.pause).reportSpoil true

/-- The end of a diagnosis without a result (R137). -/
def Socket.endDiag (x : Socket) : Socket :=
  if x.ex.st = .diag then { x with ex := { x.ex with st := .stopped } } else x

/-- The accounts of a masked socket after CLEAR_ACCOUNTS (TABLE 3-7, R184, R170). -/
def Account.cleared (enable : Bool) (a : Account) : Account :=
  { Account.reset with phase := if enable then .waiting else .empty, prevVisit := a.prevVisit }

/-- The exercise counts cleared (TABLE 3-7). -/
def Exercise.cleared (e : Exercise) : Exercise :=
  { e with framesRun := 0, framesFailed := 0, laneErr := Vector.replicate 16 0, cycles := 0,
           lastDuration := 0, spurious := 0, diagResult := .notRun, diagErrors := 0 }

/-- CLEAR_ACCOUNTS for one masked socket (R59), apart from the loss handed on after it. -/
def Socket.clear (x : Socket) : Socket :=
  { x with
    acct := x.acct.cleared x.gate.shadow.enable
    gate := { x.gate with failWritten := x.gate.acked }
    rail := { x.rail with trips := 0 }
    ex := x.ex.cleared }

/-- The loss that CLEAR_ACCOUNTS hands on once the clear is complete, for a socket it puts in WAITING
(R102, R184; log entry 21). -/
def Socket.lossAfterClear (c : Ctx) (x : Socket) : Socket :=
  if x.acct.phase = .waiting then x.reportLoss c else x

/-! ## The report fields (R50 to R52) -/

/-- A completion (R52). -/
def State.completeWith (s : State) (tag : Byte8) (res : CmdResult) (detail : Nat) : State :=
  { s with brc := { s.brc with completedTag := tag, result := res, detail := detail,
                               channel := none } }.raise .commandDone

/-- The completion of the command in progress. -/
def State.completeChannel (s : State) (res : CmdResult) (detail : Nat) : State :=
  match s.brc.channel with
  | some ch => s.completeWith ch.tag res detail
  | none => s

/-- A refusal (R51). -/
def State.refuse (s : State) (tag : Byte8) (why : RefusalReason) : State :=
  { s with brc := { s.brc with refusedTag := tag, refusalReason := why,
                               refusalCount := satAdd max16 s.brc.refusalCount 1 } }.raise
    .commandRefused

/-- Fill Direction and Fill Level by their codes, none where one is undefined (R51, R187). -/
def Command.fill (c : Command) : Option (Direction × IdleLevel) :=
  match fillDirectionOf c.fillDirection, idleLevelOf c.fillLevel.toNat with
  | some d, some l => some (d, l)
  | _, _ => none

/-- Acceptance: Accepted Tag takes the tag (R52). -/
def State.accept (s : State) (c : Command) : State :=
  { s with brc := { s.brc with acceptedTag := c.tag } }

/-- The channel of an accepted command at its first step; a DRIVE fill with FLOAT is OFF (R50, R58). -/
def Command.channel (c : Command) (code : CmdCode) (st : CmdStep) : Channel :=
  let f := c.fill.getD (.off, .float)
  { code := code, tag := c.tag, mask := c.mask,
    fillDirection := if f.2 = .float then .off else f.1, fillLevel := f.2, step := st }

/-- The channel takes an accepted command. -/
def State.holdChannel (s : State) (c : Command) (code : CmdCode) (st : CmdStep) : State :=
  { s with brc := { s.brc with channel := some (c.channel code st) } }

/-! ## Board events -/

/-- The board state and its Hold Reason (R48). -/
def State.setBoard (s : State) (b : BoardState) (r : HoldReason) : State :=
  { s with brc := { s.brc with state := b, reason := r } }

/-- The board enters HOLDING, or HOLDING with another reason (R48, R54, R61, R63). -/
def State.enterHold (s : State) (r : HoldReason) : State :=
  (s.updAll fun _ x => x.hold).setBoard .holding r

/-- Whether every rail is OFF (R83). -/
def State.allOff (s : State) : Bool := (List.finRange 32).all fun i => s.sockets[i].rail.st == .off

/-- The Rail Sequencer's report that every rail is OFF, which makes a STOPPING board STOPPED and
completes STOP_RUN (R83, R56). -/
def State.checkStopped (s : State) : State :=
  if s.brc.state = .stopping ∧ s.allOff = true then
    (s.setBoard .stopped .none).completeChannel .success 0
  else s

/-- The interlock event (R61). -/
def State.interlockEvent (s : State) : State :=
  let t := s.updAll fun _ x => x.interlockCut
  let t := { t with brc := { t.brc with
    interlockCount := satAdd max16 t.brc.interlockCount 1 } }.raise .interlock
  match s.brc.state with
  | .running | .holding => t.enterHold .interlock
  | .stopping => t.checkStopped
  | .stopped => t

/-! ## The commands at acceptance -/

/-- START_RUN accepted (R53, R87). -/
def State.beginRun (s : State) : State :=
  let t := s.updAll fun i x => x.runStart (s.ctx i)
  { t with
    brc := { t.brc with state := .running, reason := .none, runFinished := false }
    banks := Vector.ofFn fun b => { t.banks[b] with runTrips := 0 } }

/-- RESUME accepted (R54, R165). -/
def State.resumeRun (s : State) : State :=
  (s.updAll fun i x => x.resume (s.ctx i) s.brc.reason).setBoard .running .none

/-- The stop of a RUNNING or HOLDING board (R56). -/
def State.stopRunning (s : State) : State := (s.updAll fun _ x => x.stop).setBoard .stopping .none

/-- Whether every socket of a bank is masked (R59, R87). -/
def bankMasked (mask : Word32) (b : BankIx) : Bool :=
  (bankSockets b).all fun i => mask.getLsbD i.val

/-- CLEAR_ACCOUNTS accepted (R59, R87): every masked socket is cleared, and then the losses are handed on.
A socket that its loss retires enters RETIRED from WAITING, whatever its phase before the clear (R181,
R184). -/
def State.clearAccounts (s : State) (mask : Word32) : State :=
  let t := s.updAll fun i x => if mask.getLsbD i.val then x.clear else x
  let t := t.updAll fun i x => if mask.getLsbD i.val then x.lossAfterClear (s.ctx i) else x
  { t with banks := Vector.ofFn fun b =>
      if bankMasked mask b then { t.banks[b] with tripCount := 0, runTrips := 0, locked := false }
      else t.banks[b] }

/-- The number of masked sockets whose Diag Result is FAIL (R60). -/
def State.diagFails (s : State) (mask : Word32) : Nat :=
  (List.finRange 32).countP fun i => mask.getLsbD i.val && s.sockets[i].ex.diagResult == .fail

/-- FILL_LANE_MAP completes (R58): the generation and the lane-role check (R133). -/
def State.fillDone (s : State) : State :=
  let t := s.updAll fun i x => x.checkRoles s.pxr.active i
  { t with brc := { t.brc with mapGeneration := t.brc.mapGeneration + 1 } }.completeChannel
    .success 0

/-! ## Judging a command (R51 to R60) -/

/-- START_RUN from test 3 (R53). -/
def State.judgeStart (s : State) (c : Command) : State :=
  if s.brc.state ≠ .stopped ∨ s.pins.interlock = true then s.refuse c.tag .state
  else if s.scu.configAdopted = false then s.refuse c.tag .config
  else (s.accept c).beginRun.completeWith c.tag .success 0

/-- HOLD from test 3 (R54). -/
def State.judgeHold (s : State) (c : Command) : State :=
  if s.brc.state ≠ .running then s.refuse c.tag .state
  else ((s.accept c).enterHold .command).completeWith c.tag .success 0

/-- RESUME from test 3 (R54). -/
def State.judgeResume (s : State) (c : Command) : State :=
  if s.brc.state ≠ .holding ∨ s.pins.interlock = true ∨ s.scu.scanEnable = false then
    s.refuse c.tag .state
  else (s.accept c).resumeRun.completeWith c.tag .success 0

/-- STOP_RUN from test 3 (R56). -/
def State.judgeStop (s : State) (c : Command) : State :=
  match s.brc.state with
  | .stopped => (s.accept c).completeWith c.tag .success 0
  | .stopping =>
    (((s.accept c).holdChannel c .stopRun .ramping).setBoard .stopping .none).checkStopped
  | .running | .holding =>
    ((s.accept c).holdChannel c .stopRun .ramping).stopRunning.checkStopped

/-- LOAD_LANE_MAP from test 3 (R57, R43). -/
def State.judgeLoad (s : State) (c : Command) : State :=
  let t := (s.accept c).holdChannel c .loadLaneMap .reading
  { t with scu := { t.scu with chunkIndex := 0 } }

/-- FILL_LANE_MAP from test 2 (R51, R58). -/
def State.judgeFill (s : State) (c : Command) : State :=
  if c.fill.isNone then s.refuse c.tag .badCode
  else if s.brc.state = .stopped ∨ s.brc.state = .holding then
    (s.accept c).holdChannel c .fillLaneMap .firstHalf
  else s.refuse c.tag .state

/-- CLEAR_ACCOUNTS from test 3 (R59). -/
def State.judgeClear (s : State) (c : Command) : State :=
  if s.brc.state ≠ .stopped then s.refuse c.tag .state
  else ((s.accept c).clearAccounts c.mask).completeWith c.tag .success 0

/-- DIAGNOSE from test 3 (R60). -/
def State.judgeDiagnose (s : State) (c : Command) : State :=
  if s.brc.state ≠ .stopped then s.refuse c.tag .state
  else if c.mask = 0 then (s.accept c).completeWith c.tag .success 0
  else (s.accept c).holdChannel c .diagnose .frameWait

/-- Tests 2 to 4 of R51. -/
def State.judge (s : State) (c : Command) : State :=
  match c.code with
  | none => s.refuse c.tag .badCode
  | some .startRun => s.judgeStart c
  | some .hold => s.judgeHold c
  | some .resume => s.judgeResume c
  | some .stopRun => s.judgeStop c
  | some .loadLaneMap => s.judgeLoad c
  | some .fillLaneMap => s.judgeFill c
  | some .clearAccounts => s.judgeClear c
  | some .diagnose => s.judgeDiagnose c

/-- The end of the command in progress at a STOP_RUN (R55). -/
def State.displace (s : State) : State :=
  match s.brc.channel with
  | none => s
  | some ch =>
    match ch.code, ch.step with
    | .loadLaneMap, .doneWait => s.completeChannel .success 0
    | .loadLaneMap, _ => { s with pxr := s.pxr.discard }.completeChannel .aborted 0
    | .fillLaneMap, .doneWait => s.fillDone
    | .diagnose, .doneWait => s.completeChannel .success (s.diagFails ch.mask)
    | .diagnose, _ => (s.updAll fun _ x => x.endDiag).completeChannel .aborted 0
    | _, _ => s.completeChannel .aborted 0

/-- A command handed over by the Scan Unit (R51): a busy channel refuses all but STOP_RUN, which first
ends the command in progress. -/
def State.takeCommand (s : State) (c : Command) : State :=
  if s.brc.channel.isSome = true ∧ c.code ≠ some .stopRun then s.refuse c.tag .busy
  else s.displace.judge c

/-- The hand-off of a new command (R36): Seen Tag takes its tag, and Board Run Control judges it. -/
def State.handOff (s : State) (c : Command) : State :=
  { s with scu := { s.scu with seenTag := c.tag } }.takeCommand c

/-! ## Header-visit work -/

/-- The completions that fall due at a header visit (R52, TABLE 3-5). -/
def State.dueCompletion (s : State) : State :=
  match s.brc.channel with
  | some ch =>
    if ch.step = .doneWait then
      match ch.code with
      | .fillLaneMap => s.fillDone
      | .diagnose => s.completeChannel .success (s.diagFails ch.mask)
      | _ => s.completeChannel .success 0
    else s
  | none => s

/-- The run-finished check (R64). -/
def State.finishCheck (s : State) : State :=
  if (s.brc.state = .running ∨ s.brc.state = .holding) ∧ s.brc.runFinished = false ∧
      ((List.finRange 32).all fun i => !s.sockets[i].acct.phase.reporting) = true then
    { s with brc := { s.brc with runFinished := true } }.raise .runFinished
  else s

/-- Board Run Control's header-visit work, step 3 of R27. -/
def State.headerWork (s : State) : State := s.dueCompletion.finishCheck

end Sys2Proof.Machine
end

