-- ==== Sys2Proof/Machine/BoardCommands.lean ====
section
/-! DEFINITION. The eight board commands as the Scan Unit hands them over (R36): each is judged and, if accepted,
acts, within the header visit. -/

namespace Sys2Proof.Machine

/-- START_RUN (R53). -/
def execStartRun (tag : Byte8) (s : State) : Host.Outcome State Fault Refusal :=
  .next (s.live fun t => t.handOff
    { code := some .startRun, tag := tag, mask := 0,
      fillDirection := 0, fillLevel := 0 })

/-- HOLD (R54). -/
def execHold (tag : Byte8) (s : State) : Host.Outcome State Fault Refusal :=
  .next (s.live fun t => t.handOff
    { code := some .hold, tag := tag, mask := 0,
      fillDirection := 0, fillLevel := 0 })

/-- RESUME (R54). -/
def execResume (tag : Byte8) (s : State) : Host.Outcome State Fault Refusal :=
  .next (s.live fun t => t.handOff
    { code := some .resume, tag := tag, mask := 0,
      fillDirection := 0, fillLevel := 0 })

/-- STOP_RUN (R55, R56). -/
def execStopRun (tag : Byte8) (s : State) : Host.Outcome State Fault Refusal :=
  .next (s.live fun t => t.handOff
    { code := some .stopRun, tag := tag, mask := 0,
      fillDirection := 0, fillLevel := 0 })

/-- LOAD_LANE_MAP (R57). -/
def execLoadLaneMap (tag : Byte8) (s : State) : Host.Outcome State Fault Refusal :=
  .next (s.live fun t => t.handOff
    { code := some .loadLaneMap, tag := tag, mask := 0,
      fillDirection := 0, fillLevel := 0 })

/-- FILL_LANE_MAP (R58) with the words of Fill Direction and Fill Level. -/
def execFillLaneMap (tag : Byte8) (direction level : Word) (s : State) :
    Host.Outcome State Fault Refusal :=
  .next (s.live fun t => t.handOff
    { code := some .fillLaneMap, tag := tag, mask := 0,
      fillDirection := direction, fillLevel := level })

/-- CLEAR_ACCOUNTS (R59) with the Command Socket Mask. -/
def execClearAccounts (tag : Byte8) (mask : Word32) (s : State) :
    Host.Outcome State Fault Refusal :=
  .next (s.live fun t => t.handOff
    { code := some .clearAccounts, tag := tag, mask := mask,
      fillDirection := 0, fillLevel := 0 })

/-- DIAGNOSE (R60) with the Command Socket Mask. -/
def execDiagnose (tag : Byte8) (mask : Word32) (s : State) : Host.Outcome State Fault Refusal :=
  .next (s.live fun t => t.handOff
    { code := some .diagnose, tag := tag, mask := mask,
      fillDirection := 0, fillLevel := 0 })

end Sys2Proof.Machine
end

