-- ==== Sys2Proof/Machine/ExerciseCommands.lean ====
section
/-! DEFINITION. The commands of the Pattern Exerciser. -/

namespace Sys2Proof.Machine

/-- FRAME_BOUNDARY (R124). -/
def execFrameBoundary (s : State) : Host.Outcome State Fault Refusal :=
  .next (s.live fun t => t.frameBoundary)

/-- LANE_VECTOR_SAMPLE (R142). -/
def execLaneVectorSample (received loopback : LaneBits) (s : State) (onTick : Bool := false) :
    Host.Outcome State Fault Refusal :=
  .next (s.live fun t => t.laneVector received loopback onTick)

/-- START_PULSE_BEGIN (R150): the vector at whose end the start pulse begins. -/
def execStartPulseBegin (sock : SocketIx) (received loopback : LaneBits) (s : State) (onTick : Bool := false) :
    Host.Outcome State Fault Refusal :=
  .next (s.live fun t =>
    if (t.sock sock).ex.cycle = .startDelay ∧
        t.cycleAfter sock received loopback = .startPulse then
      t.laneVector received loopback onTick
    else t)

/-- START_PULSE_END (R150): the vector at whose end the start pulse ends. -/
def execStartPulseEnd (sock : SocketIx) (received loopback : LaneBits) (s : State) (onTick : Bool := false) :
    Host.Outcome State Fault Refusal :=
  .next (s.live fun t =>
    if (t.sock sock).ex.cycle = .startPulse ∧
        t.cycleAfter sock received loopback = .awaitingDone then
      t.laneVector received loopback onTick
    else t)

/-- SELFTEST_TIMEOUT (R152). -/
def execSelftestTimeout (sock : SocketIx) (s : State) : Host.Outcome State Fault Refusal :=
  .next (s.live fun t => t.selftestExpiry sock)

end Sys2Proof.Machine
end

