-- ==== Sys2Proof/Machine/Measure.lean ====
section
/-! DEFINITION. Temperature measurement of one socket (Chapter 6) and its thermal visit work
(R93, R94, R108 to R113, R118, R120). -/

namespace Sys2Proof.Machine

/-! ## Control phases -/

/-- Whether the board's hold leaves thermal control running. -/
def Ctx.controlHold (c : Ctx) : Bool :=
  c.board == .holding && (c.reason == .command || c.reason == .scanOff)

/-- The control phases of R108. A COMPLETE socket is held powered while its End Action is HOLD_POWERED
and its Enable is 1 (R166; log entry 17). -/
def Socket.inControl (c : Ctx) (x : Socket) : Bool :=
  match x.acct.phase with
  | .powering | .soaking | .stressing => true
  | .held => c.reason == .command || c.reason == .scanOff
  | .complete =>
    x.gate.shadow.endAction == .holdPowered && x.gate.shadow.enable &&
      (c.board == .running || c.controlHold)
  | _ => false

/-! ## Samples -/

/-- A slot with no code, or a corrupted one, is an invalid sample with raw code 0x7FFF (R98). -/
def rawOf (code : Option Word) : Word := code.getD 0x7FFF

/-- The valid range of a raw code (R98). -/
def rawValid (raw : Word) : Bool := -640 ≤ raw.toInt && raw.toInt ≤ 3200

/-- A valid sample's filter step (R99, R100). -/
def Sensor.validStep (k : Nat) (raw : Int) (x : Sensor) : Sensor :=
  let first : Sensor := { x with tf := some raw, suspectCount := 0, invalidCount := 0,
                                 st := .tracking }
  match x.st, x.tf with
  | .noSample, _ => first
  | .lost, _ => first
  | _, none => first
  | _, some t =>
    if (raw - t).natAbs ≤ 256 then
      { x with tf := some (t + Int.tdiv (raw - t) (2 ^ k)), suspectCount := 0, invalidCount := 0,
               st := .tracking }
    else if x.suspectCount < 2 then
      { x with suspectCount := x.suspectCount + 1, invalidCount := 0, st := .suspect }
    else first

/-- An invalid sample's filter step (R101). -/
def Sensor.invalidStep (x : Sensor) : Sensor :=
  let x := { x with suspectCount := 0 }
  match x.st with
  | .lost => x
  | .noSample =>
    if 3 ≤ x.invalidCount then { x with invalidCount := 0, st := .lost }
    else { x with invalidCount := x.invalidCount + 1 }
  | _ =>
    if 3 ≤ x.invalidCount then { x with invalidCount := 0, st := .lost }
    else { x with invalidCount := x.invalidCount + 1, st := .invalid }

/-- Whether a sample makes the sensor enter LOST (R101). -/
def Sensor.entersLost (raw : Word) (x : Sensor) : Bool :=
  !rawValid raw && x.st != .lost && 3 ≤ x.invalidCount

/-- The judgement of R104. -/
def Sensor.judge (n : Numbers) (x : Sensor) : Bool :=
  match x.st, x.tf with
  | .tracking, some t => (t - n.tempSetpoint).natAbs ≤ n.tempWindow
  | .suspect, some t => (t - n.tempSetpoint).natAbs ≤ n.tempWindow
  | _, _ => false

/-- The window status and the in-window timer at a sample (R104). -/
def Sensor.window (n : Numbers) (x : Sensor) : Sensor :=
  if x.judge n then { x with inWindow := true, inWindowMs := satAdd max32 x.inWindowMs 25 }
  else { x with inWindow := false, inWindowMs := 0 }

/-- The entry to LOST (R101): the condition, then the loss values by the phase. -/
def Socket.enterLost (c : Ctx) (x : Socket) : Socket :=
  let y := x.takeCondition c .sensorLost 0 [x.sensor.raw]
  { y with thermal := y.thermal.loss (y.inControl c) y.gate.shadow.num.coolerLimit }

/-- The absolute-limit check of a valid sample (R103). -/
def Socket.limitCheck (c : Ctx) (raw : Int) (x : Socket) : Socket :=
  if c.config.absLimit ≤ raw then
    let y := { x with thermal := x.thermal.dropHeat }
    y.takeCondition c .thermal subAbsLimit
      [signedWord y.gate.shadow.num.tempSetpoint, signedWord y.thermal.u]
  else x

/-- One sample of the sensor link (R98): the filter step, the absolute-limit check, the window and the
spoil report (R105). -/
def Socket.sensorSample (c : Ctx) (code : Option Word) (x : Socket) : Socket :=
  let raw := rawOf code
  let n := x.gate.shadow.num
  let s0 := { x.sensor with raw := raw }
  let y :=
    if rawValid raw then
      { x with sensor := s0.validStep n.filterShift raw.toInt }.limitCheck c raw.toInt
    else
      let z := { x with sensor := s0.invalidStep }
      if x.sensor.entersLost raw then z.enterLost c else z
  let w := { y with sensor := y.sensor.window n }
  w.reportSpoil (!w.sensor.inWindow)

/-! ## Visit work -/

/-- The headroom of R93, from what the bank's budget leaves beside the other three sockets. -/
def Socket.headroom (share : Int) (x : Socket) : Nat := (share - x.rail.allocCurrent).toNat

/-- Whether a control update is made at the visit, and with which T_f (TABLE 7-1). -/
def Socket.updates (c : Ctx) (x : Socket) : Option Int :=
  if x.inControl c then
    match x.sensor.st with
    | .tracking => x.sensor.tf
    | .suspect => x.sensor.tf
    | _ => none
  else none

/-- The runaway test (R118), on the state after step 8. -/
def Socket.runawayTest (tf : Int) (x : Socket) : Bool :=
  let n := x.gate.shadow.num
  n.tempSetpoint + n.runawayMargin < tf && x.thermal.u == -(n.coolerLimit : Int)

/-- The details of a THERMAL condition: Setpoint and Thermal Output (TABLE 11-5). -/
def Socket.thermalDetails (x : Socket) : List Word :=
  [signedWord x.gate.shadow.num.tempSetpoint, signedWord x.thermal.u]

/-- The runaway count after the test, and the condition at the tenth (R118). -/
def Socket.runawayStep (c : Ctx) (tf : Int) (x : Socket) : Socket :=
  if x.runawayTest tf then
    if 9 ≤ x.thermal.runaway then
      { x with thermal := { x.thermal with runaway := 0 } }.takeCondition c .thermal subRunaway
        x.thermalDetails
    else { x with thermal := { x.thermal with runaway := x.thermal.runaway + 1 } }
  else { x with thermal := { x.thermal with runaway := 0 } }

/-- Whether the soak timer is at or above Soak Limit (R120). -/
def Socket.soakExpired (x : Socket) : Bool :=
  x.acct.phase == .soaking && x.gate.shadow.num.soakLimit * 1000 ≤ x.thermal.soakMs

/-- The soak timeout of a socket that the update found SOAKING (R120): the timer becomes 0 and the
condition is handed with the details of the update. -/
def Socket.soakStep (c : Ctx) (expired : Bool) (details : List Word) (x : Socket) : Socket :=
  if expired then
    { x with thermal := { x.thermal with soakMs := 0 } }.takeCondition c .thermal subSoakTimeout
      details
  else x

/-- The socket after the allocation and steps 1 to 8 of its control update. -/
def Socket.updated (c : Ctx) (share : Int) (tf : Int) (x : Socket) : Socket :=
  let n := x.gate.shadow.num
  { x with thermal := (x.thermal.allocate c.bank (x.headroom share) n).update n tf }

/-- The visit work of the Thermal Control Unit (TABLE 7-1): heater allocation, then a control update
with its runaway and soak timeout tests, a hold visit, rest, or the loss values. -/
def Socket.thermalVisit (c : Ctx) (share : Int) (x : Socket) : Socket :=
  match x.updates c with
  | some tf =>
    let y := x.updated c share tf
    (y.runawayStep c tf).soakStep c y.soakExpired y.thermalDetails
  | none =>
    let n := x.gate.shadow.num
    let t := x.thermal.allocate c.bank (x.headroom share) n
    match x.sensor.st with
    | .lost =>
      { x with thermal := { t.loss (x.inControl c) n.coolerLimit with runaway := 0 } }
    | .invalid => { x with thermal := if x.inControl c then t.holdVisit n else t.rest }
    | _ => { x with thermal := t.rest }

/-- Whether the thermal work of a visit brings the runaway count to ten (R118). -/
def Socket.runsAway (c : Ctx) (share : Int) (x : Socket) : Bool :=
  match x.updates c with
  | some tf => (x.updated c share tf).runawayTest tf && 9 ≤ x.thermal.runaway
  | none => false

/-- Whether the thermal work of a visit finds a soak timeout (R120). -/
def Socket.soakTimesOut (c : Ctx) (x : Socket) : Bool :=
  (x.updates c).isSome && x.soakExpired

end Sys2Proof.Machine
end

