-- ==== Sys2Proof/Machine/RailEvents.lean ====
section
/-! DEFINITION. What reaches one socket's rail (Chapters 4 and 5) and what it hands to the Socket
Accounting Unit: samples and their checks, trips, chain starts, hold-off expiries, cuts and the sense
tick. -/

namespace Sys2Proof.Machine

/-! ## Trips -/

/-- An interruption of power (R162): SOAKING and STRESSING become POWERING; a HELD socket resumes
there. -/
def Socket.interruptPower (x : Socket) : Socket :=
  match x.acct.phase with
  | .soaking | .stressing => x.changePhase .powering .none
  | .held =>
    match x.acct.resume with
    | .soaking | .stressing => { x with acct := { x.acct with resume := .powering } }
    | _ => x
  | _ => x

/-- A socket-caused trip (R78) with its condition, and the interruption it makes (R162). -/
def Socket.trip (c : Ctx) (k : Kind) (sub : Nat) (details : List Word) (x : Socket) : Socket :=
  ((x.setRail (x.rail.tripped c.runMs x.gate.shadow.num.tripHoldOff)).takeCondition
    c k sub details).interruptPower

/-- A fast trip (R77), or the end it makes of a ramp-down (R82). -/
def Socket.fastTrip (c : Ctx) (x : Socket) : Socket :=
  if x.rail.st.checked then
    x.trip c .railTrip subFast [natWord x.rail.trips, x.rail.current]
  else if x.rail.st = .rampDown then x.setRail x.rail.endRampDown
  else x

/-! ## Samples -/

/-- Entry to ON (R72): after a ramp-up a POWERING socket becomes SOAKING, and a HELD one whose Resume
Phase is POWERING will resume in SOAKING (R161, R162). -/
def Socket.enterOn (x : Socket) : Socket :=
  let y := x.setRail x.rail.enterOn
  if x.rail.settleFromSlew then y
  else match y.acct.phase, y.acct.resume with
    | .powering, _ => y.changePhase .soaking .none
    | .held, .powering => { y.beginSoak with acct := { y.acct with resume := .soaking } }
    | _, _ => y

/-- The sample farther from the setpoint, the earlier of two at one distance; the first sample counted
is taken as it is (R72, R74). -/
def worstOf (setpoint count worst v : Nat) : Nat :=
  if count = 0 then v else if distance worst setpoint < distance v setpoint then v else worst

/-- Whether a voltage differs from the setpoint by more than Regulation Tolerance. -/
def outOfTolerance (n : Numbers) (v : Nat) : Bool := n.regTolerance < distance v n.railSetpoint

/-- The settle check (R72), on a sample already recorded as the latest. -/
def Socket.settleCheck (c : Ctx) (x : Socket) : Socket :=
  let n := x.gate.shadow.num
  let v := x.rail.voltage.toNat
  let count := x.rail.settleCount + 1
  let worst := worstOf n.railSetpoint x.rail.settleCount x.rail.worstSettle v
  let y := { x with rail := { x.rail with settleCount := count, worstSettle := worst } }
  if outOfTolerance n v = false then y.enterOn
  else if n.settleTimeout ≤ count then
    y.trip c .railRegulation subSettleTimeout [natWord n.railSetpoint, natWord worst]
  else y

/-- The window after a sample: the latest 16 (R73). -/
def pushWindow (w : List Nat) (i : Nat) : List Nat :=
  if w.length < 16 then w ++ [i] else w.drop (w.length - 15) ++ [i]

/-- The slow-trip check (R73). -/
def Socket.slowCheck (c : Ctx) (x : Socket) : Socket :=
  if x.rail.st = .on then
    let w := pushWindow x.rail.window x.rail.current.toNat
    let y := { x with rail := { x.rail with window := w } }
    if w.length = 16 ∧ x.gate.shadow.num.slowLimit < w.sum / 16 then
      y.trip c .railTrip subSlow [natWord x.rail.trips, natWord (w.sum / 16)]
    else y
  else x

/-- The dropout check (R74). -/
def Socket.dropCheck (c : Ctx) (x : Socket) : Socket :=
  if x.rail.st = .on then
    let n := x.gate.shadow.num
    let v := x.rail.voltage.toNat
    if outOfTolerance n v then
      let count := x.rail.dropCount + 1
      let worst := worstOf n.railSetpoint x.rail.dropCount x.rail.worstDrop v
      let y := { x with rail := { x.rail with dropCount := count, worstDrop := worst } }
      if 8 ≤ count then
        y.trip c .railRegulation subDropout [natWord n.railSetpoint, natWord worst]
      else y
    else { x with rail := { x.rail with dropCount := 0, worstDrop := 0 } }
  else x

/-- The open-contact check (R75). -/
def Socket.openCheck (c : Ctx) (x : Socket) : Socket :=
  if x.rail.st = .on ∧ x.rail.openArmed = true then
    let count := x.rail.openCount + 1
    let sum := x.rail.openSum + (if 985 ≤ count then x.rail.current.toNat else 0)
    if 1000 ≤ count then
      let y := { x with rail := { x.rail with openCount := count, openSum := sum,
                                              openArmed := false } }
      if x.gate.shadow.num.minCurrent ≠ 0 ∧ sum / 16 < x.gate.shadow.num.minCurrent then
        y.takeCondition c .openContact 0 [natWord (sum / 16)]
      else y
    else { x with rail := { x.rail with openCount := count, openSum := sum } }
  else x

/-- The order in which the checks of ON examine one sample. R73 to R75 leave it open; the row that
delivers the sample chooses it (log entry 11). -/
inductive CheckOrder where
  | slowFirst | dropFirst | openFirst
deriving DecidableEq, Repr

/-- The checks of ON (section 4.4): a rail that fails one leaves ON and is examined by none of the
others. -/
def Socket.onChecks (c : Ctx) : CheckOrder → Socket → Socket
  | .slowFirst, x => ((x.slowCheck c).dropCheck c).openCheck c
  | .dropFirst, x => ((x.dropCheck c).slowCheck c).openCheck c
  | .openFirst, x => ((x.openCheck c).slowCheck c).dropCheck c

/-- A rail link sample (R67): it becomes the latest sample and is examined with the checks of the
state. A state other than ON or SLEW that the sample leaves or enters has been reported at the tick or is
reported at the change (R85). -/
def Socket.railSample (c : Ctx) (o : CheckOrder) (v i : Word) (x : Socket) : Socket :=
  let y := { x with rail := { x.rail with voltage := v, current := i, ownSample := false } }
  match x.rail.st with
  | .settle => if x.rail.ownSample then y else y.settleCheck c
  | .on => y.onChecks c o
  | _ => y

/-- Whether a sample is the one that fails the settle (R72). -/
def Socket.failsSettle (v : Word) (x : Socket) : Bool :=
  x.rail.st == .settle && !x.rail.ownSample && outOfTolerance x.gate.shadow.num v.toNat &&
    x.gate.shadow.num.settleTimeout ≤ x.rail.settleCount + 1

/-- Whether a sample is the one that brings the dropout count to 8 (R74). -/
def Socket.dropsOut (v : Word) (x : Socket) : Bool :=
  x.rail.st == .on && outOfTolerance x.gate.shadow.num v.toNat && 8 ≤ x.rail.dropCount + 1

/-- Whether a sample is the one that brings the open-contact count to 1,000 (R75). -/
def Socket.endsOpenCount (x : Socket) : Bool :=
  x.rail.st == .on && x.rail.openArmed && 1000 ≤ x.rail.openCount + 1

/-! ## Chain start and hold-off expiry -/

/-- The exhaustion test (R70, R79). -/
def Socket.exhausted (x : Socket) : Bool := x.gate.shadow.num.tripRetryLimit < x.rail.trips

/-- RAMP_UP or LOCKOUT by the exhaustion test, with the lockout report (R79, R182) and with the fast
trip of an input that already stands asserted (R77). -/
def Socket.powerOrLock (c : Ctx) (x : Socket) : Socket :=
  if x.exhausted then (x.setRail x.rail.lockOut).report .lockout
  else
    let y := x.setRail x.rail.startRamp
    if c.fastInput then y.fastTrip c else y

/-- The chain start of a rail (R70): a WAITING socket becomes POWERING (R161). -/
def Socket.chainStart (c : Ctx) (x : Socket) : Socket :=
  (if x.acct.phase = .waiting then x.changePhase .powering .none else x).powerOrLock c

/-- Whether a SOCKET hold-off is due to expire (R79). -/
def Socket.holdOffDue (now : Word32) (x : Socket) : Bool :=
  x.rail.st == .holdOff &&
    (match x.rail.holdOff with
     | some (.socket, e) => reached now e
     | _ => false)

/-- The expiry of a BANK hold-off for one rail of the bank (R80, R90). -/
def Socket.bankExpiry (x : Socket) : Socket :=
  match x.rail.st, x.rail.holdOff with
  | .holdOff, some (.bank, _) => x.setRail { x.rail with st := .chainWait, holdOff := none }
  | _, _ => x

/-! ## Cuts -/

/-- A bank trip's effect on one socket of the bank (R80, R89): the cut, the interruption it makes of a
rail that was powering the device (R162), and the heater's. -/
def Socket.bankTrip (expiry : Word32) (x : Socket) : Socket :=
  let y := x.setRail (x.rail.bankCut expiry)
  let y := if x.rail.st.checked then y.interruptPower else y
  { y with thermal := y.thermal.bankTrip }

/-- A bank lock's effect on one socket of the bank (R91): the bank-lock report, and OFF for a rail in
HOLD_OFF or CHAIN_WAIT. -/
def Socket.bankLock (x : Socket) : Socket :=
  let y := x.report .bankLock
  match y.rail.st with
  | .holdOff | .chainWait => y.takedown
  | _ => y

/-! ## The sense tick -/

/-- The soak timer at a sense tick (R119). -/
def Socket.soakTick (x : Socket) : Socket :=
  if x.acct.phase = .soaking then
    { x with thermal := { x.thermal with soakMs := satAdd max32 x.thermal.soakMs 1 } }
  else x

/-- One sense tick for one socket: the ramp work (R71, R76, R82), the soak timer (R119) and the spoil
reports of the tick (R85, R105, R138, R169). A rail in SETTLE after the ramp work makes its report too,
although the tick's sample may yet put it in ON: it was in SETTLE for a part of the interval (log entry
44). -/
def Socket.senseTick (c : Ctx) (x : Socket) : Socket :=
  let y : Socket := (x.setRail (x.rail.rampTick x.gate.shadow.num c.bank)).soakTick
  y.reportSpoil
    (!y.rail.st.live || !y.sensor.inWindow ||
      (y.acct.phase == Phase.stressing && y.ex.st != ExState.running &&
        y.ex.mode != ExMode.idle) ||
      c.board == BoardState.holding)

end Sys2Proof.Machine
end

