-- ==== Sys2Proof/Machine/Visit.lean ====
section
/-! DEFINITION. The visit of one socket (Chapter 2 and Chapter 10): what is made of the record read, and
the three works of the Socket Accounting Unit. -/

namespace Sys2Proof.Machine

/-! ## The record read -/

/-- A stale visit (R29). -/
def Gate.stale (limit : Nat) (g : Gate) : Gate :=
  let n := satAdd max16 g.staleCount 1
  { g with staleCount := n, staleVisit := true, staleReported := g.staleReported || limit ≤ n }

/-- A visit whose read succeeds ends the run of stale visits (R29). -/
def Gate.fresh (g : Gate) : Gate :=
  { g with staleCount := 0, staleVisit := false, staleReported := false }

/-- The synchronizing visit (R31). -/
def Gate.synchronize (r : List Word) (g : Gate) : Gate :=
  { g with synced := true, appliedRev := field8 r 0, failWritten := field8 r 1,
           acked := field8 r 1, result := .rejected, rejectReason := .synchronizing,
           clampedCount := 0 }

/-- The Fail Ack Count read is accepted when it lies within 8 of Fail Written Count (R41). -/
def Gate.takeAck (ack : Byte8) (g : Gate) : Gate :=
  if (g.failWritten - ack).toNat ≤ 8 then { g with acked := ack } else g

/-- What validation makes of a record (R40). -/
inductive Decision where
  | rejected (why : RejectReason)
  | accepted (settings : Settings) (clamped : Nat)
deriving DecidableEq, Repr

/-- Validation in the stages of R38 and R39. -/
def judgeRecord (cfg : BoardConfig) (m : LaneMap) (i : SocketIx) (r : List Word) : Decision :=
  let read := Numbers.ofScr r
  let n := read.clampRanges.crossLimits cfg
  match Settings.ofScr r n with
  | none => .rejected .badCode
  | some st =>
    if st.mode = .selftest ∧ rolesFit m i n = false then .rejected .laneRole
    else .accepted st (read.clampedCount n)

/-- A rejected revision (R40). -/
def Gate.reject (rev : Byte8) (why : RejectReason) (g : Gate) : Gate :=
  { g with appliedRev := rev, result := .rejected, rejectReason := why, clampedCount := 0 }

/-- An adopted or clamped revision (R40). -/
def Gate.adopt (rev : Byte8) (st : Settings) (clamped : Nat) (g : Gate) : Gate :=
  { g with appliedRev := rev, result := if clamped = 0 then .adopted else .clamped,
           rejectReason := .none, clampedCount := clamped, shadow := st }

/-- The new shadow handed to the rail and the exercise at step 3 of the visit (R86, R136, R135); the
thermal control and the accounts read the shadow itself. -/
def Socket.adopt (rev : Byte8) (st : Settings) (clamped : Nat) (x : Socket) : Socket :=
  let y := x.setRail (x.rail.adopt x.gate.shadow.num st.num)
  let y := y.setEx (y.ex.adopt st.mode y.acct.phase)
  { y with gate := y.gate.adopt rev st clamped }

/-- The revision gate (R37): the socket after it, and the Enable handed on by an adoption. -/
def Socket.revisionGate (cfg : BoardConfig) (m : LaneMap) (i : SocketIx) (r : List Word)
    (x : Socket) : Socket × Option Bool :=
  if field8 r 0 = x.gate.appliedRev then (x, none)
  else match judgeRecord cfg m i r with
    | .rejected why => ({ x with gate := x.gate.reject (field8 r 0) why }, none)
    | .accepted st n => (x.adopt (field8 r 0) st n, some st.enable)

/-- Step 2 of a socket visit (R28): the outcome of the SCR read, none for a parity failure. -/
def Socket.takeRecord (cfg : BoardConfig) (m : LaneMap) (i : SocketIx) (rec : Option (List Word))
    (x : Socket) : Socket × Option Bool :=
  match rec with
  | none => ({ x with gate := x.gate.stale cfg.staleLimit }, none)
  | some r =>
    if x.gate.synced then
      { x with gate := x.gate.fresh.takeAck (field8 r 1) }.revisionGate cfg m i r
    else ({ x with gate := x.gate.fresh.synchronize r }, none)

/-- Whether a visit makes the first report of a run of stale visits (R29). -/
def Gate.newlyStale (old new : Gate) : Bool := !old.staleReported && new.staleReported

/-! ## Crediting -/

/-- An increase of Dwell (R172). -/
def Account.addDwell (ms : Nat) (a : Account) : Account :=
  { a with dwellSec := satAdd max32 a.dwellSec ((a.dwellMs + ms) / 1000)
           dwellMs := (a.dwellMs + ms) % 1000 }

/-- An increase of Out-of-Spec (R172). -/
def Account.addOos (ms : Nat) (a : Account) : Account :=
  { a with oosSec := satAdd max32 a.oosSec ((a.oosMs + ms) / 1000)
           oosMs := (a.oosMs + ms) % 1000 }

/-- The cases of R172 for an interval of `elapsed` ms. -/
def Account.creditInterval (period elapsed : Nat) (a : Account) : Account :=
  if 2 * period < elapsed then { a with lateCount := satAdd max16 a.lateCount 1 }
  else if a.stressedAtStart && !a.leftStress && a.phase == .stressing then
    if a.spoil then a.addOos elapsed else a.addDwell elapsed
  else if a.stressedAtStart || a.leftStress then a.addOos elapsed
  else a

/-- Step 1 of R171. -/
def Account.credit (now : Word32) (period : Nat) (a : Account) : Account :=
  let b := match a.prevVisit with
    | none => a
    | some p => a.creditInterval period (now - p).toNat
  { b with prevVisit := some now, spoil := false }

/-- `Account.credit` on the socket. The late bound uses the Sweep Period that the sweep timer runs with: a
new one from the sweep start event after its adoption (R35; log entry 42). -/
def Socket.credit (c : Ctx) (x : Socket) : Socket :=
  { x with acct := x.acct.credit c.runMs c.period }

/-- Step 3 of R171: the new interval begins. -/
def Socket.startInterval (x : Socket) : Socket :=
  { x with acct := { x.acct with
      stressedAtStart := x.acct.phase == .stressing, leftStress := false } }

/-! ## Phase decisions -/

/-- Enable adopted as 1 (R160). -/
def Socket.enable (c : Ctx) (x : Socket) : Socket :=
  if x.acct.phase = .empty then
    let y : Socket := x.changePhase .waiting .none
    (if c.board = .running ∨ c.board = .holding then y.chainEntry c else y).reportLoss c
  else x

/-- The rest of R110 and the takedown order, as completion with POWER_OFF and withdrawal give them. -/
def Socket.powerOff (x : Socket) : Socket := { x with thermal := x.thermal.rest }.takedown

/-- Enable adopted as 0 (R167). -/
def Socket.withdraw (x : Socket) : Socket :=
  if x.acct.phase.reporting then
    let y : Socket := x.changePhase .empty .none
    let z : Socket := { y with acct := { y.acct with
      bin := if x.acct.phase = .waiting then y.acct.bin else .incomplete } }
    z.powerOff
  else x

/-- A revision adopted by a COMPLETE socket with End Action POWER_OFF or Enable 0 (R166). -/
def Socket.completeAdopted (x : Socket) : Socket :=
  if x.acct.phase = .complete ∧
      (x.gate.shadow.endAction = .powerOff ∨ x.gate.shadow.enable = false) then x.powerOff
  else x

/-- The Enable an adoption hands on. -/
def Socket.takeEnable (c : Ctx) (adopted : Option Bool) (x : Socket) : Socket :=
  match adopted with
  | none => x
  | some true => (x.enable c).completeAdopted
  | some false => x.withdraw.completeAdopted

/-- The soak test (R163). -/
def Socket.soakTest (x : Socket) : Socket :=
  if x.acct.phase = .soaking ∧ x.gate.shadow.num.soakTime * 1000 ≤ x.sensor.inWindowMs then
    x.changePhase .stressing .none
  else x

/-- The completion (R166). -/
def Socket.complete (x : Socket) : Socket :=
  let y : Socket := x.changePhase .complete .none
  let y : Socket := { y with acct := { y.acct with
    bin := if y.acct.strikes = 0 then .pass else .passWithEvents } }
  if y.gate.shadow.endAction = .powerOff then y.powerOff else y

/-- The completion test (R166). -/
def Socket.completionTest (x : Socket) : Socket :=
  if x.acct.phase = .stressing ∧ x.gate.shadow.num.targetDwell ≤ x.acct.dwellSec then x.complete
  else x

/-- Step 2 of R171. -/
def Socket.decide (c : Ctx) (adopted : Option Bool) (x : Socket) : Socket :=
  (x.takeEnable c adopted).soakTest.completionTest

end Sys2Proof.Machine
end

