-- ==== Sys2Proof/Machine/Scan.lean ====
section
/-! DEFINITION. The Scan Unit (Chapter 2): sweep starts, and the parts of the header visit, the socket visits and
the chunk reads. What it makes of them at the ends of its transfers is in Transfers.lean. -/

namespace Sys2Proof.Machine

/-! ## Sweeps -/

/-- A sweep begins (R25), and the visit pointer is set to the header. -/
def State.enterSweep (s : State) : State :=
  { s with scu := { s.scu with sweepNumber := s.scu.sweepNumber + 1, running := true,
                               visit := .header } }

/-- A sweep begins at a sweep start event: it asks for its BCR read at once (R25, R27). -/
def State.beginSweep (s : State) : State := s.enterSweep.requestScan .bcrRead

/-- A sweep start event whose nominal time is `nominal` (R23, R25, R26). -/
def State.sweepStartEvent (s : State) (nominal : Word32) : State :=
  let t := { s with scu := { s.scu with lastStart := nominal,
                                        interval := s.scu.config.sweepPeriod } }
  if s.scu.running then
    { t with scu := { t.scu with overrun := satAdd max16 t.scu.overrun 1,
                                 deferred := true } }.raise .sweepOverrun
  else t.beginSweep

/-- Whether Sweep Period ms have elapsed since the previous sweep start event (R23). -/
def State.sweepDue (s : State) : Bool :=
  s.scu.scanEnable && s.scu.interval ≤ (s.time.runMs - s.scu.lastStart).toNat

/-- The sweep start event that has come due, taken at its nominal time (R23; log entry 18). -/
def State.sweepStart (s : State) : State :=
  if s.sweepDue then s.sweepStartEvent (s.scu.lastStart + BitVec.ofNat 32 s.scu.interval) else s

/-- A change of SCAN_ENABLE, handed on at the completion of the write cycle (R17, R23, R63). -/
def State.setScanEnable (s : State) (b : Bool) : State :=
  if b = s.scu.scanEnable then s
  else if b then
    { s with scu := { s.scu with scanEnable := true } }.sweepStartEvent s.time.runMs
  else
    let t := { s with scu := { s.scu with scanEnable := false, deferred := false } }
    if s.brc.state = .running then t.enterHold .scanOff else t

/-- A fill writes one half at the end of a sweep (R58, R132). -/
def State.fillAtEnd (s : State) : State :=
  match s.brc.channel with
  | some ch =>
    let e := fillEntry ch.fillDirection ch.fillLevel
    match ch.code, ch.step with
    | .fillLaneMap, .firstHalf =>
      { s with pxr := s.pxr.fill false e, brc := s.brc.setStep .secondHalf }
    | .fillLaneMap, .secondHalf =>
      { s with pxr := s.pxr.fill true e, brc := s.brc.setStep .doneWait }
    | _, _ => s
  | none => s

/-- Whether the header and all 32 sockets are synchronized (R32). -/
def State.allSynced (s : State) : Bool :=
  s.scu.headerSynced && (List.finRange 32).all fun i => s.sockets[i].gate.synced

/-- The visit of a socket begins with its SCR read (R28). -/
def State.beginVisit (s : State) (i : SocketIx) : State :=
  { s with scu := { s.scu with visit := .socket i 0 false } }.requestScan (.scrRead i)

/-- The chunk read of a sweep (R43). -/
def State.beginChunk (s : State) : State :=
  { s with scu := { s.scu with visit := .chunk } }.requestScan (.chunkRead s.scu.chunkIndex)

/-! ## The header visit -/

/-- A stale header visit (R30). -/
def State.staleHeader (s : State) : State :=
  let n := satAdd max16 s.scu.headerStale 1
  let reach : Bool := s.scu.config.staleLimit ≤ n
  { s with scu := { s.scu with
      headerStale := n,
      headerStaleReported := s.scu.headerStaleReported || reach } }.raiseIf
    (!s.scu.headerStaleReported && reach) .controlStale

/-- The header's synchronizing visit (R32). -/
def State.syncHeader (s : State) (r : List Word) : State :=
  { s with scu := { s.scu with
      appliedConfigRev := field8 r 0, configResult := .pending, seenTag := field8 r 32,
      headerSynced := true } }

/-- A configuration put into force (R34, R35). -/
def State.adoptConfig (s : State) (rev : Byte8) (res : ConfigResult) (c : BoardConfig) : State :=
  let t := s.updAll fun _ x =>
    { x with gate := { x.gate with shadow := { x.gate.shadow with
        num := x.gate.shadow.num.fitConfig c } } }
  { t with
    scu := { t.scu with appliedConfigRev := rev, configResult := res, configAdopted := true,
                        config := c }
    pxr := { t.pxr with pendingLength := c.frameLength, pendingRate := c.vectorRate,
                        reloadAll := true } }

/-- The configuration revision (R33, R34). -/
def State.takeConfig (s : State) (r : List Word) : State :=
  let rev := field8 r 0
  if rev = s.scu.appliedConfigRev then s
  else if s.brc.state ≠ .stopped then { s with scu := { s.scu with configResult := .pending } }
  else if configCodesGood r then
    let read := BoardConfig.ofBcr r
    s.adoptConfig rev (if read.clamp = read then .adopted else .clamped) read.clamp
  else { s with scu := { s.scu with appliedConfigRev := rev, configResult := .rejected } }

/-- The Command Tag (R36). -/
def State.takeTag (s : State) (r : List Word) : State :=
  if field8 r 32 = s.scu.seenTag then s else s.handOff (Command.ofBcr r)

/-- Step 2 of the header visit (R27), with the outcome of the BCR read. -/
def State.headerRead (s : State) (rec : Option (List Word)) : State :=
  match rec with
  | none => s.staleHeader
  | some r =>
    let t := { s with scu := { s.scu with headerStale := 0, headerStaleReported := false } }
    if s.scu.headerSynced then (t.takeConfig r).takeTag r else t.syncHeader r

/-- Step 4 of the header visit: the values are taken as the transfer is requested (R27, R45). -/
def State.writeHeader (s : State) : State := s.requestScan (.bsrWrite s.bsrWords)

/-! ## The socket visit -/

/-- The number of records to move (R42). -/
def Socket.moveCount (x : Socket) : Nat := min x.acct.staging.length (8 - x.gate.pendingCount)

/-- The slot of the next record (R42). -/
def Gate.nextSlot (g : Gate) : Fin 8 := Fin.ofNat 8 g.failWritten.toNat

/-- Step 5 of a socket visit: the values are taken as the transfer is requested (R28, R46). -/
def State.writeStatus (s : State) (i : SocketIx) : State :=
  s.requestScan (.ssrWrite i ((s.sock i).ssrWords s.scu.sweepNumber))

/-- The next record move of step 4, or step 5 when none is left (R42). -/
def State.nextMove (s : State) (i : SocketIx) (left : Nat) (moved : Bool) : State :=
  match left, (s.sock i).acct.staging with
  | n + 1, f :: _ =>
    { s with scu := { s.scu with visit := .socket i (n + 1) moved } }.requestScan
      (.failWrite i (s.sock i).gate.nextSlot f.words)
  | _, _ => { s with scu := { s.scu with visit := .socket i 0 moved } }.writeStatus i

/-- What the transfer of one record changes for its socket (R42, R179). -/
def Socket.recordMoved (x : Socket) : Socket :=
  { x with gate := { x.gate with failWritten := x.gate.failWritten + 1 },
           acct := { x.acct with staging := x.acct.staging.tail } }

/-- How many moves the visit in progress still has to make. -/
def Visit.movesLeft : Visit → Nat
  | .socket _ n _ => n
  | _ => 0

/-- Whether the visit in progress has moved a record. -/
def Visit.moved : Visit → Bool
  | .socket _ _ b => b
  | _ => false

/-! ## Lane-map chunks -/

/-- A chunk read ends the load with a failure (R43, R57). -/
def State.failLoad (s : State) (res : CmdResult) (detail : Nat) : State :=
  { s with pxr := s.pxr.discard }.completeChannel res detail

/-- A good chunk is delivered (R43, R130). -/
def State.deliverChunk (s : State) (c : Nat) (entries : List (Option LaneEntry)) : State :=
  let t := { s with pxr := s.pxr.deliver c entries,
                    scu := { s.scu with chunkIndex := s.scu.chunkIndex + 1 } }
  if c = 15 then
    { t with pxr := { t.pxr with swapPending := true }, brc := t.brc.setStep .swapWait }
  else t

/-- What the Scan Unit makes of the outcome of a chunk read (R43). A load that STOP_RUN has ended takes
nothing (R44). -/
def State.takeChunk (s : State) (c : Nat) (rec : Option (List Word)) : State :=
  if s.brc.atStep .loadLaneMap .reading then
    match rec with
    | none => s.failLoad .parity c
    | some r =>
      match firstBad (chunkEntries r) 0 with
      | some k => s.failLoad .badMap (32 * c + k)
      | none => s.deliverChunk c (chunkEntries r)
  else s

end Sys2Proof.Machine
end

