-- ==== Sys2Proof/Machine/HostPort.lean ====
section
/-! DEFINITION. The host port and the registers (sections 1.2, 1.6), and the resets (R22, R47, R65). -/

namespace Sys2Proof.Machine

/-! ## Resets -/

/-- Every block in its reset state (R22, R47, R65, R66, R87, R97, R107, R123, R134, R158, R173). The
period side becomes NONE with the rest of R107's state, although R116, whose events include both resets,
lets the period side keep its value (log entry 41). -/
def State.resetBlocks (s : State) : State :=
  { s with smc := Smc.reset, scu := Scu.reset, brc := Brc.reset, pxr := Pxr.reset,
           banks := Vector.replicate 8 Bank.reset, sockets := Vector.replicate 32 Socket.reset }

/-- A reset that completes with INTERLOCK_N asserted takes it as an interlock event (R62). -/
def State.interlockAtReset (s : State) : State :=
  if s.pins.interlock then s.interlockEvent else s

/-- The soft reset (R22, R65): the memory, Run Milliseconds and the PWM tick counter stand, but for a
write transfer in progress, which is abandoned. -/
def State.softReset (s : State) : State := s.abandonTransfer.resetBlocks.interlockAtReset

/-- POR_N asserted (R22, R14): every block is reset, and the memory's contents are undefined. -/
def State.powerOnReset (s : State) : State :=
  { s.resetBlocks with pins := { s.pins with por := true }, mem := [], epoch := s.epoch + 1 }

/-- POR_N released (R24, R107, R62). -/
def State.porRelease (s : State) : State :=
  { s.resetBlocks with pins := { s.pins with por := false },
                       time := { runMs := 0, pwmTick := 0 } }.interlockAtReset

/-! ## Memory cycles -/

/-- The port takes a new cycle while none is in progress (R5). -/
def State.portFree (s : State) : Bool := s.smc.cycle.isNone

/-- A host fault (R21): the cause, FAULT ADDRESS and the fault kind. -/
def State.hostFault (s : State) (c : Cause) (addr : Word) (k : FaultKind) : State :=
  { s with smc := { s.smc with faultAddr := addr, faultKind := k } }.raise c

/-- A cycle that the part has completed, RDY asserted, driving `out` (R5). -/
def State.cycleDone (s : State) (kind : CycleKind) (out : Option Word) : State :=
  { s with smc := { s.smc with cycle := some ⟨kind, true, true⟩, rdy := true, dataOut := out } }

/-- A memory cycle that needs the port begins and asks the arbiter for one word access (R7, R8). -/
def State.beginAccess (s : State) (kind : CycleKind) : State :=
  let m := { s.smc with cycle := some ⟨kind, true, false⟩, rdy := false }
  { s with smc := m.requestHost }

/-- A host event `f` that arrives alone, or at the same moment as the sweep start event due. Of their two
requests for a free port that of the requester other than the last granted is granted first (R12; log entry
32). -/
def State.arriving (s : State) (withSweepStart : Bool) (f : State → State) : State :=
  if withSweepStart then
    if s.smc.lastGranted = .host then f s.sweepStart else (f s).sweepStart
  else f s

/-- A memory read cycle begins (R7). -/
def State.hostRead (s : State) (req : HostRequest) : State :=
  if s.portFree then s.arriving req.withSweepStart fun t => t.beginAccess (.memoryRead req.addr)
  else s

/-- A memory write cycle begins, or is dropped at once in a part-written region (R8, R9). -/
def State.hostWrite (s : State) (req : HostRequest) (data : Word) : State :=
  let kind := CycleKind.memoryWrite req.addr data
  if s.portFree then
    s.arriving req.withSweepStart fun t =>
      if partWritten req.addr.toNat then
        (t.hostFault .writeProtect req.addr .writeProtect).cycleDone kind none
      else t.beginAccess kind
  else s

/-- The cycles that make no memory access: the strobe and select combinations that start none, and the
register read, which drives the register's word and changes no register (R5, R10). Both strobes together are
answered as their bullet of R5 says whatever the selects are (log entry 49). -/
def State.noAccess (s : State) (n : NoAccessStrobe) : State :=
  if s.portFree then
    match n with
    | .bothSelectsRead => s.cycleDone .noAccess (some 0xFFFF)
    | .bothSelectsWrite => s.cycleDone .noAccess none
    | .bothStrobes => s.cycleDone .noAccess none
    | .neitherSelect => s
    | .registerRead addr => s.cycleDone (.registerRead addr) (some (s.readRegister addr))
  else s

/-- The host releases its strobe (R5, R6). -/
def State.strobeRelease (s : State) : State :=
  match s.smc.cycle with
  | none => s
  | some c =>
    if c.done then { s with smc := { s.smc with cycle := none, rdy := false, dataOut := none } }
    else { s with smc := { s.smc with cycle := some { c with strobe := false } } }

/-- The end of a memory cycle at its access: RDY and the word read while the strobe is held; the end of
the cycle where the strobe has been released (R5, R6). Whether RDY is asserted at all where the access
completes after the release of its strobe R6 does not say: the model leaves it deasserted and ends the cycle
(DESIGN CHOICE, log entry 50). -/
def State.finishCycle (s : State) (c : HostCycle) (out : Option Word) : State :=
  if c.strobe then
    { s with smc := { s.smc with cycle := some { c with done := true }, rdy := true,
                                 dataOut := out } }
  else { s with smc := { s.smc with cycle := none, rdy := false, dataOut := none } }

/-- A host word access completes (R7, R8, R12, R15). The host reads the word as stored: a word stored with
good parity never arrives bad at a host read, unlike the reads of the Scan Unit (log entry 5). -/
def State.accessDone (s : State) : State :=
  match s.smc.owner, s.smc.cycle with
  | .host, some c =>
    match c.kind with
    | .memoryRead a =>
      let w := s.readWord a.toNat
      (if goodParity w then s.releasePort else s.releasePort.hostFault .parity a .parity).finishCycle
        c (some (StoredWord.data w))
    | .memoryWrite a d => (s.writeWord a.toNat d).releasePort.finishCycle c none
    | _ => s
  | _, _ => s

/-! ## Register write cycles (R10, R17 to R21) -/

/-- A write to CONTROL (R17): the soft reset command, or the SCAN_ENABLE value. -/
def State.writeControl (s : State) (data : Word) : State :=
  if data.getLsbD 1 then s.softReset else s.setScanEnable (data.getLsbD 0)

/-- What a register write does at its completion; the upper twelve address bits are ignored, and so are
writes to offsets 1, 4 and 5 to 15 (R10, R17 to R21). -/
def State.writeRegister (s : State) (addr data : Word) : State :=
  match (addr.extractLsb' 0 4).toNat with
  | 0 => s.writeControl data
  | 2 => { s with smc := { s.smc with attention := s.smc.attention &&& ~~~data.extractLsb' 0 11 } }
  | 3 => { s with smc := { s.smc with mask := data.extractLsb' 0 11 } }
  | _ => s

/-- A register write cycle, which does not use the memory port (R10). -/
def State.registerWrite (s : State) (addr data : Word) : State :=
  if s.portFree then (s.writeRegister addr data).cycleDone .registerWrite none else s

end Sys2Proof.Machine
end

