-- ==== Sys2Proof/Machine/HostCommands.lean ====
section
/-! DEFINITION. The commands of the host port, of the registers and of the resets. -/

namespace Sys2Proof.Machine

/-- HOST_MEMORY_READ (R7). -/
def execHostMemoryRead (req : HostRequest) (s : State) : Host.Outcome State Fault Refusal :=
  .next (s.live fun t => t.hostRead req)

/-- HOST_MEMORY_WRITE (R8, R9). -/
def execHostMemoryWrite (req : HostRequest) (data : Word) (s : State) :
    Host.Outcome State Fault Refusal :=
  .next (s.live fun t => t.hostWrite req data)

/-- HOST_CYCLE_WITHOUT_ACCESS (R5), and the register read (R10; log entry 14). -/
def execHostCycleWithoutAccess (strobe : NoAccessStrobe) (s : State) :
    Host.Outcome State Fault Refusal :=
  .next (s.live fun t => t.noAccess strobe)

/-- HOST_STROBE_RELEASE (R5, R6). -/
def execHostStrobeRelease (s : State) : Host.Outcome State Fault Refusal :=
  .next (s.live fun t => t.strobeRelease)

/-- HOST_ACCESS_COMPLETE (R12). -/
def execHostAccessComplete (s : State) : Host.Outcome State Fault Refusal :=
  .next (s.live fun t => t.accessDone)

/-- SCAN_ENABLE_SET (R17, R23): the CONTROL write that stores SCAN_ENABLE 1. -/
def execScanEnableSet (addr data : Word) (s : State) : Host.Outcome State Fault Refusal :=
  .next (s.live fun t => t.registerWrite addr data)

/-- SCAN_DISABLE (R17, R63): the CONTROL write that stores SCAN_ENABLE 0. -/
def execScanDisable (addr data : Word) (s : State) : Host.Outcome State Fault Refusal :=
  .next (s.live fun t => t.registerWrite addr data)

/-- SOFT_RESET (R17, R22): the CONTROL write with SOFT_RESET 1. -/
def execSoftReset (addr data : Word) (s : State) : Host.Outcome State Fault Refusal :=
  .next (s.live fun t => t.registerWrite addr data)

/-- ATTENTION_WRITE (R19). -/
def execAttentionWrite (addr data : Word) (s : State) : Host.Outcome State Fault Refusal :=
  .next (s.live fun t => t.registerWrite addr data)

/-- ATTENTION_MASK_WRITE (R20). -/
def execAttentionMaskWrite (addr data : Word) (s : State) : Host.Outcome State Fault Refusal :=
  .next (s.live fun t => t.registerWrite addr data)

/-- REGISTER_WRITE_IGNORED (R10, R18, R21): a write to an offset that no write reaches. -/
def execRegisterWriteIgnored (addr data : Word) (s : State) : Host.Outcome State Fault Refusal :=
  .next (s.live fun t => t.registerWrite addr data)

/-- POWER_ON_RESET (R22): POR_N becomes asserted. -/
def execPowerOnReset (s : State) : Host.Outcome State Fault Refusal :=
  .next (s.live fun t => t.powerOnReset)

/-- POR_RELEASE (R24): POR_N becomes released. -/
def execPorRelease (s : State) : Host.Outcome State Fault Refusal :=
  .next (if s.pins.por then s.porRelease else s)

end Sys2Proof.Machine
end

