-- ==== Sys2Proof/Machine/Feeds.lean ====
section
/-! DEFINITION. The time-paced events of the whole part: the sense tick, the rail and feed samples, the
ramp chains, the hold-off expiries, the sensor samples and the PWM ticks (Chapters 4 to 7). -/

namespace Sys2Proof.Machine

/-! ## The sense tick and the rail links -/

/-- The sense tick (R24, R71, R76, R82, R119): Run Milliseconds advances, every rail does its tick's
work, and each bank's chain is to be examined. -/
def State.senseTick (s : State) : State :=
  let t := { s with time := { s.time with runMs := s.time.runMs + 1 } }
  let t := t.updAll fun i x => x.senseTick (t.ctx i)
  { t with banks := Vector.ofFn fun b => { t.banks[b] with chainDue := true } }.checkStopped

/-- A rail link sample for one socket (R67). -/
def State.railSample (s : State) (i : SocketIx) (o : CheckOrder) (v a : Word) : State :=
  s.updSock i fun x => x.railSample (s.ctx i) o v a

/-- The sample that brings the dropout count to 8, with the dropout check first (R74; log entry 11). -/
def State.dropoutSample (s : State) (i : SocketIx) (v a : Word) : State :=
  if (s.sock i).dropsOut v then s.railSample i .dropFirst v a else s

/-- The sample that brings the open-contact count to 1,000, with that check first (R75; log entry 11). -/
def State.openSample (s : State) (i : SocketIx) (v a : Word) : State :=
  if (s.sock i).endsOpenCount then s.railSample i .openFirst v a else s

/-- The level of a fast-trip input (R77); a level asserted acts on a checked or ramping-down rail, and only
while POR_N is released. -/
def State.fastTrip (s : State) (i : SocketIx) (level : Bool) : State :=
  let bit := BitVec.twoPow 32 i.val
  let t := { s with pins := { s.pins with fastTrip :=
    if level then s.pins.fastTrip ||| bit else s.pins.fastTrip &&& ~~~bit } }
  if level && !s.pins.por then (t.updSock i fun x => x.fastTrip (s.ctx i)).checkStopped else t

/-! ## The ramp chains -/

/-- Whether a rail holds up its bank's chain: it ramps or settles (R70). -/
def Socket.ramping (x : Socket) : Bool := x.rail.st == .rampUp || x.rail.st == .settle

/-- The rail that takes the chain start of a bank, if one may (R70). -/
def State.chainCandidate (s : State) (b : BankIx) : Option SocketIx :=
  if s.banks[b].chainDue && s.brc.state == .running &&
      (bankSockets b).all fun i => !(s.sock i).ramping then
    (bankSockets b).find? fun i => (s.sock i).rail.st == .chainWait
  else none

/-- The chain start of a bank (R70). -/
def State.chainStart (s : State) (b : BankIx) : State :=
  match s.chainCandidate b with
  | some i =>
    (s.updSock i fun x => x.chainStart (s.ctx i)).updBank b fun k => { k with chainDue := false }
  | none => s

/-- The expiry of a SOCKET hold-off (R79). -/
def State.socketExpiry (s : State) (i : SocketIx) : State :=
  if (s.sock i).holdOffDue s.time.runMs then s.updSock i fun x => x.powerOrLock (s.ctx i) else s

/-! ## Bank feeds -/

/-- The trip threshold of a bank (R88). -/
def tripThreshold (budget : Nat) : Nat := budget + budget / 4

/-- Whether a feed sample is a bank trip (R88). -/
def State.tripsBank (s : State) (b : BankIx) (current : Word32) : Bool :=
  s.brc.state != .stopped && tripThreshold s.scu.config.budgets[b] < current.toNat

/-- A bank trip of a bank that is not locked, before the lock (R89): the cuts, the hold-off of 2,000 ms
and the run trip count. -/
def State.cutBank (s : State) (b : BankIx) : State :=
  let e := s.time.runMs + 2000
  (s.updBankSocks b fun _ x => x.bankTrip e).updBank b fun k =>
    { k with holdOff := some e, runTrips := k.runTrips + 1 }

/-- The bank lock (R91). -/
def State.lockBank (s : State) (b : BankIx) : State :=
  (s.updBankSocks b fun _ x => x.bankLock).updBank b fun k =>
    { k with locked := true, holdOff := none }

/-- A bank trip (R89, R91). A further trip of a locked bank counts and reports only. -/
def State.bankTrip (s : State) (b : BankIx) : State :=
  let t := (s.updBank b fun k => { k with tripCount := satAdd max16 k.tripCount 1 }).raise .bankTrip
  if s.banks[b].locked then t
  else if 2 ≤ s.banks[b].runTrips then (t.cutBank b).lockBank b
  else t.cutBank b

/-- A bank feed sample (R88). -/
def State.feedSample (s : State) (b : BankIx) (current : Word32) : State :=
  let t := s.updBank b fun k => { k with feed := current }
  if s.tripsBank b current then (t.bankTrip b).checkStopped else t

/-- Whether a bank hold-off is due to expire (R90). -/
def Bank.expiryDue (now : Word32) (k : Bank) : Bool :=
  match k.holdOff with
  | some e => reached now e
  | none => false

/-- The expiry of a bank hold-off (R90, R80). -/
def State.bankExpiry (s : State) (b : BankIx) : State :=
  if s.banks[b].expiryDue s.time.runMs then
    (s.updBankSocks b fun _ x => x.bankExpiry).updBank b fun k => { k with holdOff := none }
  else s

/-! ## Sensors -/

/-- A sample of the sensor link (R98). -/
def State.sensorSample (s : State) (i : SocketIx) (code : Option Word) : State :=
  s.updSock i fun x => x.sensorSample (s.ctx i) code

/-! ## PWM -/

/-- The period start of every socket (R114, R117). -/
def State.periodStart (s : State) : State :=
  let t := s.updAll fun _ x =>
    { x with thermal := x.thermal.periodStart s.pins.interlock s.scu.config.deadTime }
  { t with time := { t.time with pwmTick := 0 } }

/-- A PWM tick (R107, R115): the counter advances, or wraps to a period start. -/
def State.pwmTick (s : State) : State :=
  if 1023 ≤ s.time.pwmTick then s.periodStart
  else
    let k := s.time.pwmTick + 1
    let t := s.updAll fun _ x => { x with thermal := x.thermal.atTick k }
    { t with time := { t.time with pwmTick := k } }

/-! ## The interlock pin -/

/-- INTERLOCK_N asserted (R61). While POR_N is asserted only the level is seen; its release then takes
the event (R62). -/
def State.interlockAssert (s : State) : State :=
  if s.pins.interlock then s
  else
    let t := { s with pins := { s.pins with interlock := true } }
    if s.pins.por then t else t.interlockEvent

/-- INTERLOCK_N released (R62). -/
def State.interlockRelease (s : State) : State :=
  { s with pins := { s.pins with interlock := false } }

end Sys2Proof.Machine
end

