-- ==== Sys2Proof/Machine/RailCommands.lean ====
section
/-! DEFINITION. The commands of the time base, the rail links, the ramp chains, the bank feeds and the interlock pin. -/

namespace Sys2Proof.Machine

/-- SENSE_TICK (R24). -/
def execSenseTick (s : State) : Host.Outcome State Fault Refusal :=
  .next (s.live fun t => t.senseTick)

/-- RAIL_SAMPLE (R67). -/
def execRailSample (sock : SocketIx) (voltage current : Word) (s : State) :
    Host.Outcome State Fault Refusal :=
  .next (s.live fun t => t.railSample sock .slowFirst voltage current)

/-- SETTLE_TIMEOUT (R72): the sample that fails the settle. -/
def execSettleTimeout (sock : SocketIx) (voltage current : Word) (s : State) :
    Host.Outcome State Fault Refusal :=
  .next (s.live fun t =>
    if (t.sock sock).failsSettle voltage then
      t.railSample sock .slowFirst voltage current
    else t)

/-- DROPOUT (R74): the sample that brings the dropout count to 8. -/
def execDropout (sock : SocketIx) (voltage current : Word) (s : State) :
    Host.Outcome State Fault Refusal :=
  .next (s.live fun t => t.dropoutSample sock voltage current)

/-- OPEN_CONTACT (R75): the sample that brings the open-contact count to 1,000. -/
def execOpenContact (sock : SocketIx) (voltage current : Word) (s : State) :
    Host.Outcome State Fault Refusal :=
  .next (s.live fun t => t.openSample sock voltage current)

/-- FAST_TRIP (R77): the level of a fast-trip input. -/
def execFastTrip (sock : SocketIx) (level : Bool) (s : State) : Host.Outcome State Fault Refusal :=
  .next (s.fastTrip sock level)

/-- CHAIN_START (R70). -/
def execChainStart (bank : BankIx) (s : State) : Host.Outcome State Fault Refusal :=
  .next (s.live fun t => t.chainStart bank)

/-- SOCKET_HOLD_OFF_EXPIRY (R79). -/
def execSocketHoldOffExpiry (sock : SocketIx) (s : State) : Host.Outcome State Fault Refusal :=
  .next (s.live fun t => t.socketExpiry sock)

/-- BANK_FEED_SAMPLE (R88). -/
def execBankFeedSample (bank : BankIx) (current : Word32) (s : State) :
    Host.Outcome State Fault Refusal :=
  .next (s.live fun t => t.feedSample bank current)

/-- BANK_HOLD_OFF_EXPIRY (R90). -/
def execBankHoldOffExpiry (bank : BankIx) (s : State) : Host.Outcome State Fault Refusal :=
  .next (s.live fun t => t.bankExpiry bank)

/-- INTERLOCK_ASSERT (R61). -/
def execInterlockAssert (s : State) : Host.Outcome State Fault Refusal :=
  .next s.interlockAssert

/-- INTERLOCK_RELEASE (R62). -/
def execInterlockRelease (s : State) : Host.Outcome State Fault Refusal :=
  .next s.interlockRelease

end Sys2Proof.Machine
end

