-- ==== Sys2Proof/Machine/Visits.lean ====
section
/-! DEFINITION. The socket visit on the state (R28): the record read, and the works of the visit in the order
that the command carries, with the events of other blocks and of the host port that fall between them (R171,
R13). -/

namespace Sys2Proof.Machine

/-- What the bank's budget leaves beside the other three sockets' rails and grants (R93). The grants are those of
the moment, and count against the socket: an allocation before an event of R96 that takes a mate's grant away
finds the smaller headroom, and one after it the larger. R95 says it the other way round; the model follows the
difference of R93 (DESIGN CHOICE, log entry 51). -/
def State.share (s : State) (i : SocketIx) : Int :=
  (s.scu.config.budgets[bankOf i] : Int) -
    ((bankSockets (bankOf i)).filter (· != i)).foldl
      (fun n j => n + ((s.sock j).rail.allocCurrent : Int) + (s.sock j).thermal.grant) 0

/-! ## The works and the events between them -/

/-- The Thermal Control Unit's work of a visit (TABLE 7-1), with the headroom of the moment (R93). -/
def State.thermalWork (s : State) (i : SocketIx) : State :=
  s.updSock i fun x => x.thermalVisit (s.ctx i) (s.share i)

/-- One of the Socket Accounting Unit's works of a visit (R171). -/
inductive AccountWork where
  | credit | decide | startInterval
deriving DecidableEq, Repr

/-- Such a work of the visit of a socket; `adopted` is the Enable that its record handed on. -/
def State.accountWork (s : State) (i : SocketIx) (adopted : Option Bool) : AccountWork → State
  | .credit => s.updSock i fun x => x.credit (s.ctx i)
  | .decide => s.updSock i fun x => x.decide (s.ctx i) adopted
  | .startInterval => s.updSock i Socket.startInterval

/-- An event of another block or of the host port: what its row does (log entries 37 and 40). A register write
that carries the soft reset is no such event: it comes after the row. -/
def State.visitEvent (s : State) : VisitEvent → State
  | .senseTick => s.senseTick
  | .railSample i v c => s.railSample i .slowFirst v c
  | .dropout i v c => s.dropoutSample i v c
  | .openContact i v c => s.openSample i v c
  | .fastTrip i level => s.fastTrip i level
  | .chainStart b => s.chainStart b
  | .socketHoldOffExpiry i => s.socketExpiry i
  | .bankFeedSample b c => s.feedSample b c
  | .bankHoldOffExpiry b => s.bankExpiry b
  | .sensorSample i code => s.sensorSample i code
  | .pwmTick => s.pwmTick
  | .frameBoundary => s.frameBoundary
  | .laneVectorSample r l onTick => s.laneVector r l onTick
  | .selftestTimeout i => s.selftestExpiry i
  | .interlockAssert => s.interlockAssert
  | .interlockRelease => s.interlockRelease
  | .hostMemoryRead addr => s.hostRead ⟨addr, false⟩
  | .hostMemoryWrite addr data => s.hostWrite ⟨addr, false⟩ data
  | .hostCycleWithoutAccess n => s.noAccess n
  | .hostAccessComplete => s.accessDone
  | .hostStrobeRelease => s.strobeRelease
  | .attentionWrite data => s.registerWrite 2 data
  | .attentionMaskWrite data => s.registerWrite 3 data
  | .registerWriteIgnored => s.registerWrite 1 0
  | .scanDisable => s.registerWrite 0 0
  | .scanEnable => s.registerWrite 0 1
  | .sweepStart => s.sweepStart

/-- The events of one gap, in their order. -/
def State.visitEvents (s : State) (es : List VisitEvent) : State := es.foldl State.visitEvent s

/-- One such work and the gap after it. -/
def State.workThen (s : State) (i : SocketIx) (adopted : Option Bool) (w : AccountWork)
    (es : List VisitEvent) : State :=
  (s.accountWork i adopted w).visitEvents es

/-- What comes before the thermal work of the visit. -/
def State.beforeThermal (s : State) (i : SocketIx) (adopted : Option Bool) (o : VisitOrder) : State :=
  let s := s.visitEvents o.gap0
  match o.thermal with
  | .first => s
  | .afterCredit => s.workThen i adopted .credit o.gap1
  | .afterDecide => (s.workThen i adopted .credit o.gap1).workThen i adopted .decide o.gap2
  | .last => ((s.workThen i adopted .credit o.gap1).workThen i adopted .decide o.gap2).workThen i adopted
      .startInterval o.gap3

/-- What comes after it. -/
def State.afterThermal (s : State) (i : SocketIx) (adopted : Option Bool) (o : VisitOrder) : State :=
  match o.thermal with
  | .first => (((s.visitEvents o.gap1).workThen i adopted .credit o.gap2).workThen i adopted
      .decide o.gap3).workThen i adopted .startInterval o.gap4
  | .afterCredit => ((s.visitEvents o.gap2).workThen i adopted .decide o.gap3).workThen i adopted
      .startInterval o.gap4
  | .afterDecide => (s.visitEvents o.gap3).workThen i adopted .startInterval o.gap4
  | .last => s.visitEvents o.gap4

/-! ## The visit -/

/-- Step 2 of the visit of a socket (R28), with CONTROL_STALE (R29): the state after it, and the Enable handed
on by an adoption. -/
def State.takeRecord (s : State) (i : SocketIx) (rec : Option (List Word)) : State × Option Bool :=
  let p := (s.sock i).takeRecord s.scu.config s.pxr.active i rec
  ((s.updSock i fun _ => p.1).raiseIf ((s.sock i).gate.newlyStale p.1.gate) .controlStale, p.2)

/-- The state as the Thermal Control Unit finds it at the visit of a socket. -/
def State.atThermal (s : State) (i : SocketIx) (rec : Option (List Word)) (o : VisitOrder) : State :=
  let p := s.takeRecord i rec
  p.1.beforeThermal i p.2 o

/-- Steps 2 and 3 of the visit of a socket. -/
def State.visitSocket (s : State) (i : SocketIx) (rec : Option (List Word)) (o : VisitOrder) : State :=
  ((s.atThermal i rec o).thermalWork i).afterThermal i (s.takeRecord i rec).2 o

/-- Whether the SCR read transfer in progress ends with a control update that brings its socket's
runaway count to ten (R118). -/
def State.reachesRunaway (s : State) (upsets : BitVec 3) (o : VisitOrder) : Bool :=
  match s.transferring with
  | some (.scrRead i) =>
    let t := s.releasePort.atThermal i (s.readRecord (scrBase i) 64 upsets) o
    (t.sock i).runsAway (t.ctx i) (t.share i)
  | _ => false

/-- Whether the SCR read transfer in progress ends with a control update that finds its socket's soak
timer at or above Soak Limit (R120). -/
def State.reachesSoakTimeout (s : State) (upsets : BitVec 3) (o : VisitOrder) : Bool :=
  match s.transferring with
  | some (.scrRead i) =>
    let t := s.releasePort.atThermal i (s.readRecord (scrBase i) 64 upsets) o
    (t.sock i).soakTimesOut (t.ctx i)
  | _ => false

end Sys2Proof.Machine
end

