-- ==== Sys2Proof/Machine/Transfers.lean ====
section
/-! DEFINITION. The ends of the record transfers (Chapter 2): what the Scan Unit makes of each, the events that
fall while the memory port is free of transfers (R13), and the transfer it asks for then. -/

namespace Sys2Proof.Machine

/-! ## Sweeps and visits go on -/

/-- The sweep ends (R25), with the synchronized flag of R32 and the fill of R58. -/
def State.closeSweep (s : State) : State :=
  { s with scu := { s.scu with
    running := false, visit := .idle, deferred := false,
    syncFlag := s.scu.syncFlag || s.allSynced } }.fillAtEnd

/-- The end of a sweep and what follows it: the sweep of a deferred start begins at that moment (R26), and asks
for its BCR read after the events of the gap. -/
def State.endSweep (s : State) (gap : List VisitEvent) : State :=
  if s.scu.deferred then (s.closeSweep.enterSweep.visitEvents gap).requestScan .bcrRead
  else s.closeSweep.visitEvents gap

/-- What follows the last step of a socket visit (R25). A sweep that runs out after SCAN_ENABLE was cleared
makes its chunk read too (R25, R43, R44; log entry 47). -/
def State.nextVisit (s : State) (i : SocketIx) (gap : List VisitEvent) : State :=
  if h : i.val + 1 < 32 then (s.visitEvents gap).beginVisit ⟨i.val + 1, h⟩
  else if s.brc.atStep .loadLaneMap .reading then (s.visitEvents gap).beginChunk
  else s.endSweep gap

/-! ## The ends of the transfers -/

/-- The end of the BCR read transfer (R27). -/
def State.bcrDone (s : State) (upsets : BitVec 3) (gap : List VisitEvent) : State :=
  match s.transferring with
  | some .bcrRead =>
    ((s.releasePort.headerRead (s.readRecord bcrBase 128 upsets)).headerWork.visitEvents gap).writeHeader
  | _ => s

/-- The end of the BSR write transfer: the visit of socket 0 begins (R25, R27). -/
def State.bsrDone (s : State) (gap : List VisitEvent) : State :=
  match s.transferring with
  | some (.bsrWrite ws) => ((s.writeRecord bsrBase ws).releasePort.visitEvents gap).beginVisit 0
  | _ => s

/-- The end of an SCR read transfer (R28): steps 2 and 3, and the first of step 4. The events after the last
work of the visit are those of the gap before the next transfer. -/
def State.scrDone (s : State) (upsets : BitVec 3) (o : VisitOrder) : State :=
  match s.transferring with
  | some (.scrRead i) =>
    let t := s.releasePort.visitSocket i (s.readRecord (scrBase i) 64 upsets) o
    t.nextMove i (t.sock i).moveCount false
  | _ => s

/-- The end of a fail-record write transfer (R42). -/
def State.failDone (s : State) (gap : List VisitEvent) : State :=
  match s.transferring with
  | some (.failWrite i slot ws) =>
    (((s.writeRecord (failBase i slot) ws).releasePort.updSock i Socket.recordMoved).visitEvents gap).nextMove
      i (s.scu.visit.movesLeft - 1) true
  | _ => s

/-- The end of an SSR write transfer (R25, R42, R46). -/
def State.ssrDone (s : State) (gap : List VisitEvent) : State :=
  match s.transferring with
  | some (.ssrWrite i ws) =>
    ((s.writeRecord (ssrBase i) ws).releasePort.raiseIf s.scu.visit.moved .failPosted).nextVisit i gap
  | _ => s

/-- The end of a lane-map chunk read transfer (R43, R25). -/
def State.chunkDone (s : State) (upsets : BitVec 3) (gap : List VisitEvent) : State :=
  match s.transferring with
  | some (.chunkRead c) =>
    (s.releasePort.takeChunk c (s.readRecord (chunkBase c) 64 upsets)).endSweep gap
  | _ => s

end Sys2Proof.Machine
end

