-- ==== Sys2Proof/Machine/ScanCommands.lean ====
section
/-! DEFINITION. The commands of the Scan Unit: sweep starts and the ends of its record transfers. An end of a transfer
that is not in progress is no event of the part and changes nothing. -/

namespace Sys2Proof.Machine

/-- SWEEP_START (R23), taken at its nominal time once that has been reached. -/
def execSweepStart (s : State) : Host.Outcome State Fault Refusal :=
  .next (s.live fun t => t.sweepStart)

/-- BCR_READ_COMPLETE (R27). -/
def execBcrReadComplete (upsets : BitVec 3) (s : State) (gap : List VisitEvent := []) :
    Host.Outcome State Fault Refusal :=
  .next (s.live fun t => t.bcrDone upsets gap)

/-- SCR_READ_COMPLETE (R28). -/
def execScrReadComplete (upsets : BitVec 3) (order : VisitOrder) (s : State) :
    Host.Outcome State Fault Refusal :=
  .next (s.live fun t => t.scrDone upsets order)

/-- RUNAWAY (R118): the end of an SCR read whose control update brings the runaway count to ten. -/
def execRunaway (upsets : BitVec 3) (order : VisitOrder) (s : State) :
    Host.Outcome State Fault Refusal :=
  .next (s.live fun t => if t.reachesRunaway upsets order then t.scrDone upsets order else t)

/-- SOAK_TIMEOUT (R120): the end of an SCR read whose control update finds the soak timed out. -/
def execSoakTimeout (upsets : BitVec 3) (order : VisitOrder) (s : State) :
    Host.Outcome State Fault Refusal :=
  .next (s.live fun t => if t.reachesSoakTimeout upsets order then t.scrDone upsets order else t)

/-- FAIL_RECORD_WRITE_COMPLETE (R42). -/
def execFailRecordWriteComplete (s : State) (gap : List VisitEvent := []) :
    Host.Outcome State Fault Refusal :=
  .next (s.live fun t => t.failDone gap)

/-- SSR_WRITE_COMPLETE (R46). -/
def execSsrWriteComplete (s : State) (gap : List VisitEvent := []) :
    Host.Outcome State Fault Refusal :=
  .next (s.live fun t => t.ssrDone gap)

/-- BSR_WRITE_COMPLETE (R45). -/
def execBsrWriteComplete (s : State) (gap : List VisitEvent := []) :
    Host.Outcome State Fault Refusal :=
  .next (s.live fun t => t.bsrDone gap)

/-- LANE_MAP_CHUNK_READ_COMPLETE (R43). -/
def execLaneMapChunkReadComplete (upsets : BitVec 3) (s : State) (gap : List VisitEvent := []) :
    Host.Outcome State Fault Refusal :=
  .next (s.live fun t => t.chunkDone upsets gap)

end Sys2Proof.Machine
end

