-- ==== Sys2Proof/Machine/ThermalCommands.lean ====
section
/-! DEFINITION. The commands of the sensor link and of the heater and cooler drive. -/

namespace Sys2Proof.Machine

/-- SENSOR_SAMPLE (R98). -/
def execSensorSample (sock : SocketIx) (code : Option Word) (s : State) :
    Host.Outcome State Fault Refusal :=
  .next (s.live fun t => t.sensorSample sock code)

/-- SENSOR_LOST (R101): the invalid sample that makes the sensor LOST. -/
def execSensorLost (sock : SocketIx) (code : Option Word) (s : State) :
    Host.Outcome State Fault Refusal :=
  .next (s.live fun t =>
    if (t.sock sock).sensor.entersLost (rawOf code) then
      t.sensorSample sock code
    else t)

/-- PWM_PERIOD_START (R114): the tick at which the counter wraps. -/
def execPwmPeriodStart (s : State) : Host.Outcome State Fault Refusal :=
  .next (s.live fun t => if 1023 ≤ t.time.pwmTick then t.periodStart else t)

/-- PWM_TICK (R115). -/
def execPwmTick (s : State) : Host.Outcome State Fault Refusal :=
  .next (s.live fun t => t.pwmTick)

end Sys2Proof.Machine
end

