-- ==== Sys2Proof/Machine/Dispatch.lean ====
section
/-! DEFINITION. The dispatch: one arm per command, each a direct call of its meaning. -/

namespace Sys2Proof.Machine

def exec (i : Instr) (s : State) : Host.Outcome State Fault Refusal :=
  match i with
  | .hostMemoryRead req => Sys2Proof.Machine.execHostMemoryRead req s
  | .hostMemoryWrite req data => Sys2Proof.Machine.execHostMemoryWrite req data s
  | .hostCycleWithoutAccess strobe => Sys2Proof.Machine.execHostCycleWithoutAccess strobe s
  | .hostStrobeRelease => Sys2Proof.Machine.execHostStrobeRelease s
  | .hostAccessComplete => Sys2Proof.Machine.execHostAccessComplete s
  | .scanEnableSet addr data => Sys2Proof.Machine.execScanEnableSet addr data s
  | .scanDisable addr data => Sys2Proof.Machine.execScanDisable addr data s
  | .softReset addr data => Sys2Proof.Machine.execSoftReset addr data s
  | .attentionWrite addr data => Sys2Proof.Machine.execAttentionWrite addr data s
  | .attentionMaskWrite addr data => Sys2Proof.Machine.execAttentionMaskWrite addr data s
  | .registerWriteIgnored addr data => Sys2Proof.Machine.execRegisterWriteIgnored addr data s
  | .powerOnReset => Sys2Proof.Machine.execPowerOnReset s
  | .porRelease => Sys2Proof.Machine.execPorRelease s
  | .sweepStart => Sys2Proof.Machine.execSweepStart s
  | .bcrReadComplete upsets gap => Sys2Proof.Machine.execBcrReadComplete upsets s gap
  | .startRun tag => Sys2Proof.Machine.execStartRun tag s
  | .hold tag => Sys2Proof.Machine.execHold tag s
  | .resume tag => Sys2Proof.Machine.execResume tag s
  | .stopRun tag => Sys2Proof.Machine.execStopRun tag s
  | .loadLaneMap tag => Sys2Proof.Machine.execLoadLaneMap tag s
  | .fillLaneMap tag direction level => Sys2Proof.Machine.execFillLaneMap tag direction level s
  | .clearAccounts tag mask => Sys2Proof.Machine.execClearAccounts tag mask s
  | .diagnose tag mask => Sys2Proof.Machine.execDiagnose tag mask s
  | .scrReadComplete upsets order => Sys2Proof.Machine.execScrReadComplete upsets order s
  | .runaway upsets order => Sys2Proof.Machine.execRunaway upsets order s
  | .soakTimeout upsets order => Sys2Proof.Machine.execSoakTimeout upsets order s
  | .failRecordWriteComplete gap => Sys2Proof.Machine.execFailRecordWriteComplete s gap
  | .ssrWriteComplete gap => Sys2Proof.Machine.execSsrWriteComplete s gap
  | .bsrWriteComplete gap => Sys2Proof.Machine.execBsrWriteComplete s gap
  | .laneMapChunkReadComplete upsets gap => Sys2Proof.Machine.execLaneMapChunkReadComplete upsets s gap
  | .senseTick => Sys2Proof.Machine.execSenseTick s
  | .railSample sock voltage current => Sys2Proof.Machine.execRailSample sock voltage current s
  | .settleTimeout sock voltage current => Sys2Proof.Machine.execSettleTimeout sock voltage current s
  | .dropout sock voltage current => Sys2Proof.Machine.execDropout sock voltage current s
  | .openContact sock voltage current => Sys2Proof.Machine.execOpenContact sock voltage current s
  | .fastTrip sock level => Sys2Proof.Machine.execFastTrip sock level s
  | .chainStart bank => Sys2Proof.Machine.execChainStart bank s
  | .socketHoldOffExpiry sock => Sys2Proof.Machine.execSocketHoldOffExpiry sock s
  | .bankFeedSample bank current => Sys2Proof.Machine.execBankFeedSample bank current s
  | .bankHoldOffExpiry bank => Sys2Proof.Machine.execBankHoldOffExpiry bank s
  | .sensorSample sock code => Sys2Proof.Machine.execSensorSample sock code s
  | .sensorLost sock code => Sys2Proof.Machine.execSensorLost sock code s
  | .pwmPeriodStart => Sys2Proof.Machine.execPwmPeriodStart s
  | .frameBoundary => Sys2Proof.Machine.execFrameBoundary s
  | .laneVectorSample received loopback onTick => Sys2Proof.Machine.execLaneVectorSample received loopback s onTick
  | .startPulseBegin sock received loopback onTick => Sys2Proof.Machine.execStartPulseBegin sock received loopback s onTick
  | .startPulseEnd sock received loopback onTick => Sys2Proof.Machine.execStartPulseEnd sock received loopback s onTick
  | .selftestTimeout sock => Sys2Proof.Machine.execSelftestTimeout sock s
  | .interlockAssert => Sys2Proof.Machine.execInterlockAssert s
  | .interlockRelease => Sys2Proof.Machine.execInterlockRelease s
  | .pwmTick => Sys2Proof.Machine.execPwmTick s

end Sys2Proof.Machine
end

