-- ==== Sys2Proof/Safety.lean ====
section
/-! DEFINITION. What the part keeps true at every moment, in the terms the claims use. -/

namespace Sys2Proof.Machine

/-- The shared memory's list is in canonical form. -/
abbrev State.memOk (s : State) : Prop := Mem.wf s.mem

/-- No socket's heater and cooler outputs are active together (R115). -/
abbrev State.outputsApart (s : State) : Prop :=
  ∀ i : SocketIx, ¬((s.sock i).thermal.heaterOn = true ∧ (s.sock i).thermal.coolerOn = true)

/-- Every staging FIFO holds at most 4 records (R173, R179). -/
abbrev State.stagingOk (s : State) : Prop := ∀ i : SocketIx, (s.sock i).acct.staging.length ≤ 4

/-- The arbiter's state (R11, R12, R13): a transfer holds the port exactly while the owner is SCAN, nothing
waits for a free port, and the Scan Unit has at most one transfer asked for or in progress, and none
between sweeps (R25). -/
abbrev State.arbiterOk (s : State) : Prop :=
  (s.smc.owner = .scan ↔ s.smc.transfer.isSome = true) ∧
    (s.smc.owner = .none → s.smc.hostWaiting = false ∧ s.smc.scanWaiting = none) ∧
    (s.smc.owner = .scan → s.smc.scanWaiting = none) ∧
    (s.scu.running = false → s.smc.owner ≠ .scan ∧ s.smc.scanWaiting = none)

/-- Whether a STOP_RUN command is in progress, in its one step (TABLE 3-5). -/
def State.stopInProgress (s : State) : Bool :=
  match s.brc.channel with
  | some ch => ch.code == .stopRun && ch.step == .ramping
  | none => false

/-- The board is STOPPING exactly while a STOP_RUN command is in progress (R48), and the channel holds a
STOP_RUN in no other step. -/
abbrev State.stopOk (s : State) : Prop :=
  (s.brc.state = .stopping ↔ s.stopInProgress = true) ∧
    ∀ ch, s.brc.channel = some ch → ch.code = .stopRun → ch.step = .ramping

/-- A safe state: what a run from reset keeps at every step. -/
abbrev State.safe (s : State) : Prop :=
  s.memOk ∧ s.outputsApart ∧ s.stagingOk ∧ s.arbiterOk ∧ s.stopOk

end Sys2Proof.Machine
end

