-- ==== Sys2Proof/WellFormed.lean ====
section
/-! DEFINITION. Which terms of `Instr` are the command their row names. The operands of a register write
row are the cycle's whole address and data, so a term can carry an address or data of another row; such
a term does, when run, what that write really does. -/

namespace Sys2Proof

/-- The register offset of a register cycle: the low four bits of the address (R10). -/
def registerOffset (addr : Word) : Nat := (addr.extractLsb' 0 4).toNat

/-- Whether a sensor slot delivers an invalid sample: no code, or a code outside −640 to +3200 (R98). -/
def invalidCode : Option Word → Bool
  | none => true
  | some w => w.toInt < -640 || 3200 < w.toInt

/-- The checks, row by row. -/
def Instr.wellFormed : Instr → Bool
  | .scanEnableSet addr data =>
    registerOffset addr == 0 && !data.getLsbD 1 && data.getLsbD 0
  | .scanDisable addr data =>
    registerOffset addr == 0 && !data.getLsbD 1 && !data.getLsbD 0
  | .softReset addr data => registerOffset addr == 0 && data.getLsbD 1
  | .attentionWrite addr _ => registerOffset addr == 2
  | .attentionMaskWrite addr _ => registerOffset addr == 3
  | .registerWriteIgnored addr _ =>
    registerOffset addr != 0 && registerOffset addr != 2 && registerOffset addr != 3
  | .sensorLost _ code => invalidCode code
  | .hostMemoryRead _ => true
  | .hostMemoryWrite _ _ => true
  | .hostCycleWithoutAccess _ => true
  | .hostStrobeRelease => true
  | .hostAccessComplete => true
  | .powerOnReset => true
  | .porRelease => true
  | .sweepStart => true
  | .bcrReadComplete _ _ => true
  | .startRun _ => true
  | .hold _ => true
  | .resume _ => true
  | .stopRun _ => true
  | .loadLaneMap _ => true
  | .fillLaneMap _ _ _ => true
  | .clearAccounts _ _ => true
  | .diagnose _ _ => true
  | .scrReadComplete _ _ => true
  | .runaway _ _ => true
  | .soakTimeout _ _ => true
  | .failRecordWriteComplete _ => true
  | .ssrWriteComplete _ => true
  | .bsrWriteComplete _ => true
  | .laneMapChunkReadComplete _ _ => true
  | .senseTick => true
  | .railSample _ _ _ => true
  | .settleTimeout _ _ _ => true
  | .dropout _ _ _ => true
  | .openContact _ _ _ => true
  | .fastTrip _ _ => true
  | .chainStart _ => true
  | .socketHoldOffExpiry _ => true
  | .bankFeedSample _ _ => true
  | .bankHoldOffExpiry _ => true
  | .sensorSample _ _ => true
  | .pwmPeriodStart => true
  | .frameBoundary => true
  | .laneVectorSample _ _ _ => true
  | .startPulseBegin _ _ _ _ => true
  | .startPulseEnd _ _ _ _ => true
  | .selftestTimeout _ => true
  | .interlockAssert => true
  | .interlockRelease => true
  | .pwmTick => true

end Sys2Proof
end

