-- ==== Sys2Proof/Certificates/Slice0/Obligations.lean ====
section
/-! DEFINITION. The statements about the part, each from the numbered rules of spec/. A command that is
not due (log entry 4) is outside their hypotheses. -/

open Sys2Proof Sys2Proof.Machine

/-! ## The queue and the step -/

/-- A step runs the command at the front of the queue on the state with the queue's rest. The queue is the
model's own (log entry 1). -/
def Obligations.StepRunsTheFrontCommand : Prop :=
  ∀ (c : Instr) (rest : List Instr) (s : State), s.pending = c :: rest →
    step s = exec c { s with pending := rest }

/-- No command changes the queue, which is the model's own (log entry 1). -/
def Obligations.CommandsKeepTheQueue : Prop :=
  ∀ (c : Instr) (s t : State), exec c s = .next t → t.pending = s.pending

/-! ## Invariants of every step -/

/-- Every step keeps the memory in canonical form, which is the model's own (log entry 13). -/
def Obligations.StepsKeepMemoryCanonical : Prop :=
  ∀ s t : State, s.memOk → step s = .next t → t.memOk

/-- R115: a socket's heater and cooler outputs are never active at the same time. -/
def Obligations.StepsKeepOutputsApart : Prop :=
  ∀ s t : State, s.outputsApart → step s = .next t → t.outputsApart

/-- R179: the staging FIFO of a socket holds up to 4 records. -/
def Obligations.StepsKeepStagingShort : Prop :=
  ∀ s t : State, s.stagingOk → step s = .next t → t.stagingOk

/-- R12, R13: SCAN owns the port exactly while a transfer holds it, a free port has no waiting request, and
the Scan Unit asks for one transfer at a time, within a sweep. -/
def Obligations.StepsKeepTheArbiter : Prop :=
  ∀ s t : State, s.arbiterOk → step s = .next t → t.arbiterOk

/-- R48: the board is STOPPING exactly while a STOP_RUN command is in progress. -/
def Obligations.StepsKeepStopping : Prop :=
  ∀ s t : State, s.stopOk → step s = .next t → t.stopOk

/-- The state after reset meets every invariant above. -/
def Obligations.ResetIsSafe : Prop := State.reset.safe

/-! ## Whole-machine rules -/

/-- The commands that end the SCR read transfer of a socket. -/
def endsVisitRead (c : Instr) : Bool :=
  match c with
  | .scrReadComplete _ _ | .runaway _ _ | .soakTimeout _ _ => true
  | _ => false

/-- The commands that put a socket's Dwell back to 0: the resets and CLEAR_ACCOUNTS, also as a header
visit hands it over. -/
def clearsDwell (c : Instr) : Bool :=
  match c with
  | .softReset _ _ | .scanEnableSet _ _ | .scanDisable _ _ | .attentionWrite _ _
  | .attentionMaskWrite _ _ | .registerWriteIgnored _ _ | .powerOnReset | .porRelease
  | .clearAccounts _ _ | .bcrReadComplete _ _ => true
  | _ => false

/-- R172: a socket's Dwell changes only at that socket's visits, but for the commands that clear it. -/
def Obligations.DwellChangesOnlyAtVisits : Prop :=
  ∀ (c : Instr) (s t : State) (i : SocketIx), exec c s = .next t →
    ((t.sock i).acct.dwellSec, (t.sock i).acct.dwellMs) ≠
      ((s.sock i).acct.dwellSec, (s.sock i).acct.dwellMs) →
    (endsVisitRead c = true ∧ s.transferring = some (.scrRead i)) ∨ clearsDwell c = true

/-- The crediting of one interval of `e` ms (R172), for a socket whose phase is `a.phase` at it. -/
def credited (e period : Nat) (a b : Account) : Prop :=
  let stressed : Prop := a.stressedAtStart = true ∧ a.leftStress = false ∧ a.phase = .stressing
  let dwellKept : Prop := b.dwellSec = a.dwellSec ∧ b.dwellMs = a.dwellMs
  let oosKept : Prop := b.oosSec = a.oosSec ∧ b.oosMs = a.oosMs
  let oosGrows : Prop := b.oosMs = (a.oosMs + e) % 1000 ∧
    b.oosSec = min 4294967295 (a.oosSec + (a.oosMs + e) / 1000)
  (2 * period < e → dwellKept ∧ oosKept ∧ b.lateCount = min 65535 (a.lateCount + 1)) ∧
  (e ≤ 2 * period → b.lateCount = a.lateCount ∧
    (stressed → a.spoil = false → oosKept ∧ b.dwellMs = (a.dwellMs + e) % 1000 ∧
      b.dwellSec = min 4294967295 (a.dwellSec + (a.dwellMs + e) / 1000)) ∧
    (stressed → a.spoil = true → dwellKept ∧ oosGrows) ∧
    (¬stressed → a.stressedAtStart = true ∨ a.leftStress = true → dwellKept ∧ oosGrows) ∧
    (a.stressedAtStart = false → a.leftStress = false → dwellKept ∧ oosKept))

/-- R172: at one visit the Dwell of a socket grows by at most 2 × Sweep Period ms, and only while the
socket is STRESSING and its interval was clean. R171: a visit completes whatever events of other blocks fall at
it; where the crediting is its first work it credits the interval that it finds, and no event after it changes
what it gave; where the interval start is its last work, stressed at start says whether the phase that the
events have left is STRESSING; and a socket that leaves STRESSING later has left stress set. That the events
fall so is log entry 40, and that the period is that of the sweep timer is log entry 42. A changed Rail
Setpoint handed over in SETTLE reports a spoil before the crediting (R86), so that case is left out. -/
def Obligations.CreditingIsBounded : Prop :=
  (∀ (now : Word32) (period : Nat) (a : Account),
    a.dwellSec ≤ max32 → a.dwellMs < 1000 →
    let b := a.credit now period
    b.dwellMs < 1000 ∧ b.dwellSec ≤ max32 ∧
    b.dwellSec * 1000 + b.dwellMs ≤ a.dwellSec * 1000 + a.dwellMs + 2 * period ∧
    ((b.dwellSec, b.dwellMs) ≠ (a.dwellSec, a.dwellMs) →
      a.stressedAtStart = true ∧ a.leftStress = false ∧ a.phase = .stressing ∧ a.spoil = false)) ∧
  ∀ (s : State) (u : BitVec 3) (o : VisitOrder) (i : SocketIx), s.pins.por = false →
    s.transferring = some (.scrRead i) →
    let a := (s.sock i).acct
    ∃ t, exec (.scrReadComplete u o) s = .next t ∧
      let b := (t.sock i).acct
      (o.thermal ≠ .first → o.gap0 = [] → (s.sock i).rail.st ≠ .settle →
        b.prevVisit = some s.time.runMs ∧
        (a.prevVisit = none → (b.dwellSec, b.dwellMs, b.oosSec, b.oosMs, b.lateCount) =
          (a.dwellSec, a.dwellMs, a.oosSec, a.oosMs, a.lateCount)) ∧
        ∀ p, a.prevVisit = some p → credited (s.time.runMs - p).toNat s.scu.interval a b) ∧
      (o.thermal ≠ .last → o.gap4 = [] → b.leftStress = false ∧
        (b.stressedAtStart = true ↔ b.phase = .stressing)) ∧
      (b.stressedAtStart = true → b.phase = .stressing ∨ b.leftStress = true)

/-- The commands that can write the shared memory: the host's access, the ends of the three write
transfers, the resets (a register write term of any row can carry the soft reset), and the end of a read transfer
with a host's access among the events that it carries (R13; log entries 37 and 40). -/
def writesMemory (c : Instr) : Bool :=
  match c with
  | .hostAccessComplete | .failRecordWriteComplete _ | .ssrWriteComplete _ | .bsrWriteComplete _
  | .softReset _ _ | .scanEnableSet _ _ | .scanDisable _ _ | .attentionWrite _ _
  | .attentionMaskWrite _ _ | .registerWriteIgnored _ _ | .powerOnReset => true
  | .bcrReadComplete _ gap | .laneMapChunkReadComplete _ gap => gap.contains .hostAccessComplete
  | .scrReadComplete _ o | .runaway _ o | .soakTimeout _ o => o.events.contains .hostAccessComplete
  | _ => false

/-- R8, R42, R45, R46: no other command writes a word of the memory. -/
def Obligations.OnlyTransfersAndTheHostWriteMemory : Prop :=
  ∀ (c : Instr) (s t : State), exec c s = .next t → writesMemory c = false →
    ∀ a : Nat, t.readWord a = s.readWord a

/-- The bit of an entry's source in a half of the vector in progress, after Invert (R127, TABLE 8-1). -/
def streamBit (p : Pxr) (firstHalf : Bool) (e : LaneEntry) : Bool :=
  let b := match e.source with
    | .gen g => p.gens[g].state.getLsbD 14
    | .count k => p.vectorIndex.testBit k.val
    | .constant => e.constant
    | .clock => firstHalf
  if e.invert then !b else b

/-- R129, R150, R155, TABLE 8-3: the level of a lane's pin by the rail, the entry, the phase, the exercise
state and the mode: no lane drives unless its socket's rail is ON or SLEW; and the level of the loopback
paths and the loopback control in DIAG. That a RUNNING socket drives its source streams from a rail's entry
to ON is log entry 43; that the entries are those of the vector in progress, log entry 38; that the four sockets
of a lane buffer, which share its loopback control, are those of a bank, log entry 46. -/
def Obligations.LanesDriveOnlyOnLiveRails : Prop :=
  ∀ (s : State) (i : SocketIx) (l : LaneIx) (h : Bool),
    let x := s.sock i
    let e := s.pxr.vectorMap[i][l]
    let level := s.laneLevel i l h
    let idle : Option Bool := match e.idle with
      | .low => some false
      | .high => some true
      | .float => none
    let stream := some (streamBit s.pxr h e)
    let run : Prop := x.acct.phase = .stressing ∧ x.ex.st = .running
    (level.isSome = true → x.rail.st = .on ∨ x.rail.st = .slew) ∧
    (e.direction ≠ .drive → level = none) ∧
    (x.rail.st = .on ∨ x.rail.st = .slew → e.direction = .drive →
      (¬run → level = idle) ∧
      (run → x.ex.mode = .idle → level = idle) ∧
      (run → x.ex.mode = .pattern → level = stream) ∧
      (∀ c, run → x.ex.mode = .selftest → x.ex.latched = some c →
        (l.val ≠ c.startLane → level = stream) ∧
        (l.val = c.startLane → x.ex.cycle = .startPulse → level = some true) ∧
        (l.val = c.startLane → x.ex.cycle ≠ .startPulse → level = idle))) ∧
    (x.ex.st = .diag → s.loopbackLevel i = some (s.pxr.gens[0].state.getLsbD 14)) ∧
    (x.ex.st ≠ .diag → s.loopbackLevel i = none) ∧
    (s.loopbackControl (bankOf i) = true ↔
      ∃ j : SocketIx, bankOf j = bankOf i ∧ (s.sock j).ex.st = .diag)

/-! ## The host port and the registers -/

/-- R7, R8, R9, R12, R21: a memory cycle that starts in a free host port asks for one word access, granted
at once while the memory port is free and waiting otherwise; but a write into a part-written region is dropped
at once, with its fault, and changes no memory word and no arbiter state. A cycle that arrives together with
the sweep start event due is `Obligations.TheArbiterAlternates`. -/
def Obligations.MemoryCyclesAskForTheirWord : Prop :=
  ∀ (s : State) (addr data : Word), s.pins.por = false → s.smc.cycle = none →
    let m (k : CycleKind) : Smc := { s.smc with cycle := some ⟨k, true, false⟩, rdy := false }
    let granted (k : CycleKind) : Smc :=
      { m k with owner := .host, lastGranted := .host, hostWaiting := false }
    (s.smc.owner = .none →
      exec (.hostMemoryRead ⟨addr, false⟩) s = .next { s with smc := granted (.memoryRead addr) } ∧
      (partWritten addr.toNat = false → exec (.hostMemoryWrite ⟨addr, false⟩ data) s =
        .next { s with smc := granted (.memoryWrite addr data) })) ∧
    (s.smc.owner ≠ .none →
      exec (.hostMemoryRead ⟨addr, false⟩) s =
        .next { s with smc := { m (.memoryRead addr) with hostWaiting := true } } ∧
      (partWritten addr.toNat = false → exec (.hostMemoryWrite ⟨addr, false⟩ data) s =
        .next { s with smc := { m (.memoryWrite addr data) with hostWaiting := true } })) ∧
    (partWritten addr.toNat = true →
      exec (.hostMemoryWrite ⟨addr, false⟩ data) s = .next { s with smc := { s.smc with
        attention := s.smc.attention ||| Cause.writeProtect.mask
        faultAddr := addr
        faultKind := .writeProtect
        cycle := some ⟨.memoryWrite addr data, true, true⟩
        rdy := true
        dataOut := none } })

/-- The STATUS word of a state (R18, TABLE 1-6). -/
def statusFields (s : State) (w : Word) : Prop :=
  w.extractLsb' 0 2 = BitVec.ofNat 2 s.brc.state.code ∧
  w.extractLsb' 2 2 =
    BitVec.ofNat 2 (if s.brc.state = .holding then s.brc.reason.code else 0) ∧
  w.getLsbD 4 = s.scu.running ∧ w.getLsbD 5 = s.pins.interlock ∧
  w.getLsbD 6 = s.brc.channel.isSome ∧ w.getLsbD 7 = s.scu.syncFlag ∧
  w.extractLsb' 8 2 = BitVec.ofNat 2 s.smc.faultKind.code ∧ w.extractLsb' 10 6 = 0

/-- The word that a read of a register offset returns (R10, R17 to R21). -/
def registerHolds (s : State) (offset : Nat) (w : Word) : Prop :=
  (offset = 0 → w = if s.scu.scanEnable then 1 else 0) ∧ (offset = 1 → statusFields s w) ∧
  (offset = 2 → w = s.smc.attention.setWidth 16) ∧ (offset = 3 → w = s.smc.mask.setWidth 16) ∧
  (offset = 4 → w = s.smc.faultAddr) ∧ (5 ≤ offset → w = 0xFFFF)

/-- R5, R6, R10: the strobe and select combinations that start no access are answered at once, and so is a
register read, which drives the word of its register and changes none (that it comes with this row is log
entry 14); releasing the strobe ends a completed cycle, and leaves a cycle still waiting to be carried
through. That both strobes together are answered with RDY at once and no data whatever the selects are, where the
two bullets of R5 overlap, is the model's choice (log entry 49). -/
def Obligations.CyclesWithoutAccessAndTheirEnd : Prop :=
  ∀ s : State, s.pins.por = false →
    (s.smc.cycle = none →
      let done (k : CycleKind) (out : Option Word) : State := { s with smc := { s.smc with
        cycle := some ⟨k, true, true⟩, rdy := true, dataOut := out } }
      exec (.hostCycleWithoutAccess .bothSelectsRead) s = .next (done .noAccess (some 0xFFFF)) ∧
      exec (.hostCycleWithoutAccess .bothSelectsWrite) s = .next (done .noAccess none) ∧
      exec (.hostCycleWithoutAccess .bothStrobes) s = .next (done .noAccess none) ∧
      exec (.hostCycleWithoutAccess .neitherSelect) s = .next s ∧
      ∀ addr : Word, ∃ w, registerHolds s (registerOffset addr) w ∧
        exec (.hostCycleWithoutAccess (.registerRead addr)) s =
          .next (done (.registerRead addr) (some w))) ∧
    (∀ c, s.smc.cycle = some c →
      (c.done = true → exec .hostStrobeRelease s = .next { s with smc := { s.smc with
        cycle := none, rdy := false, dataOut := none } }) ∧
      (c.done = false → exec .hostStrobeRelease s = .next { s with smc := { s.smc with
        cycle := some { c with strobe := false } } }))

/-- What the release of the port leaves of the arbiter (R12): the port free with nothing waiting, or a waiting
request granted, and of two that of the requester other than the last granted. -/
def released (m n : Smc) : Prop :=
  (m.hostWaiting = false → m.scanWaiting = none →
    n.owner = .none ∧ n.transfer = none ∧ n.lastGranted = m.lastGranted ∧ n.hostWaiting = false ∧
    n.scanWaiting = none) ∧
  (m.hostWaiting = true → m.scanWaiting = none →
    n.owner = .host ∧ n.lastGranted = .host ∧ n.transfer = none ∧ n.hostWaiting = false ∧
    n.scanWaiting = none) ∧
  ∀ t : Transfer, m.scanWaiting = some t →
    (m.hostWaiting = false ∨ m.lastGranted = .host →
      n.owner = .scan ∧ n.lastGranted = .scan ∧ n.transfer = some t ∧ n.scanWaiting = none ∧
      n.hostWaiting = m.hostWaiting) ∧
    (m.hostWaiting = true → m.lastGranted = .scan →
      n.owner = .host ∧ n.lastGranted = .host ∧ n.transfer = none ∧ n.scanWaiting = some t ∧
      n.hostWaiting = false)

/-- R15, R12: a host read returns the stored word unchanged; bad parity sets PARITY, FAULT ADDRESS and the
fault kind at the cycle's completion, good parity none of them, with the strobe held or released. That the
word the host reads arrives as it is stored, and is checked so, is the model's choice (log entry 5); that an access
whose strobe was released early ends its cycle with RDY deasserted, where R6 is silent, is its choice too (log entry
50). The port is released, and a transfer that waits is granted. -/
def Obligations.HostReadsCheckParity : Prop :=
  ∀ (s : State) (a : Word) (strobe done : Bool), s.pins.por = false → s.smc.owner = .host →
    s.smc.cycle = some ⟨.memoryRead a, strobe, done⟩ →
    ∃ t, exec .hostAccessComplete s = .next t ∧ t = { s with smc := t.smc } ∧
      t.smc.mask = s.smc.mask ∧ released s.smc t.smc ∧
      (strobe = true → t.smc.rdy = true ∧
        t.smc.cycle = some ⟨.memoryRead a, true, true⟩ ∧
        t.smc.dataOut = some (StoredWord.data (s.readWord a.toNat))) ∧
      (strobe = false → t.smc.rdy = false ∧ t.smc.cycle = none ∧ t.smc.dataOut = none) ∧
      (goodParity (s.readWord a.toNat) = true → t.smc.attention = s.smc.attention ∧
        t.smc.faultAddr = s.smc.faultAddr ∧ t.smc.faultKind = s.smc.faultKind) ∧
      (goodParity (s.readWord a.toNat) = false →
        t.smc.attention = s.smc.attention ||| Cause.parity.mask ∧
        t.smc.faultAddr = a ∧ t.smc.faultKind = .parity)

/-- R8, R14, R12: a host write stores the word with generated parity, and every other word stands; the port is
released, and a transfer that waits is granted. That an access whose strobe was released early ends its cycle with RDY
deasserted, where R6 is silent, is the model's choice (log entry 50). -/
def Obligations.HostWritesStoreTheirWord : Prop :=
  ∀ (s : State) (a d : Word) (strobe done : Bool), s.pins.por = false → s.smc.owner = .host →
    s.smc.cycle = some ⟨.memoryWrite a d, strobe, done⟩ →
    ∃ t, exec .hostAccessComplete s = .next t ∧ t = { s with smc := t.smc, mem := t.mem } ∧
      StoredWord.data (t.readWord a.toNat) = d ∧ goodParity (t.readWord a.toNat) = true ∧
      (∀ b : Nat, b ≠ a.toNat → t.readWord b = s.readWord b) ∧
      t.smc.attention = s.smc.attention ∧ t.smc.mask = s.smc.mask ∧ released s.smc t.smc ∧
      (strobe = true → t.smc.rdy = true ∧ t.smc.cycle = some ⟨.memoryWrite a d, true, true⟩) ∧
      (strobe = false → t.smc.rdy = false ∧ t.smc.cycle = none)

/-- The Shared Memory Controller after a transfer request (R12): granted at once on a free port, waiting
otherwise. -/
def requested (m : Smc) (t : Transfer) : Smc :=
  if m.owner = .none then { m with
    owner := .scan, lastGranted := .scan, scanWaiting := none, transfer := some t }
  else { m with scanWaiting := some t }

/-- The state after a sweep start event whose time has come, taken from its nominal time (R23, R25, R26): the
sweep begins, its BCR read asked for as `smc` says, or is deferred while a sweep runs. -/
def sweepStarted (s : State) (smc : Smc) : State :=
  let scu : Scu := { s.scu with
    lastStart := s.scu.lastStart + BitVec.ofNat 32 s.scu.interval
    interval := s.scu.config.sweepPeriod }
  if s.scu.running then { s with
    scu := { scu with overrun := min 65535 (s.scu.overrun + 1), deferred := true }
    smc := { smc with attention := smc.attention ||| Cause.sweepOverrun.mask } }
  else { s with
    scu := { scu with sweepNumber := s.scu.sweepNumber + 1, running := true, visit := .header }
    smc := smc }

/-- The Shared Memory Controller after a host request and a Scan Unit request that arrive together, the cycle
of the host begun in `m` (R12): on a free port the requester other than the last granted is granted. -/
def bothRequested (m : Smc) (t : Transfer) : Smc :=
  if m.owner ≠ .none then { m with hostWaiting := true, scanWaiting := some t }
  else if m.lastGranted = .scan then { m with
    owner := .host, lastGranted := .host, hostWaiting := false, scanWaiting := some t }
  else { m with
    owner := .scan, lastGranted := .scan, scanWaiting := none, transfer := some t, hostWaiting := true }

/-- R12: when the port becomes free, one waiting request is granted, and of two the requester other than
the last granted. Of a host request and the BCR read of a sweep start that arrive together on a free port the
requester other than the last granted is granted first; both wait for a port that is owned; a cycle that asks
for no word, or comes with a start that asks for no transfer, leaves the other its own. A host cycle marked so
while no sweep start is due is an ordinary one. That the pair is sent as one row is the model's choice (log
entry 32), and that the start is timed from its nominal time, however late it is sent, is log entry 18. -/
def Obligations.TheArbiterAlternates : Prop :=
  (∀ m : Smc, released m m.release) ∧
  ∀ (s : State) (addr data : Word), s.pins.por = false → s.smc.cycle = none →
    let m (k : CycleKind) : Smc := { s.smc with cycle := some ⟨k, true, false⟩, rdy := false }
    let host (k : CycleKind) : Smc := if s.smc.owner = .none then { m k with
      owner := .host, lastGranted := .host, hostWaiting := false } else { m k with hostWaiting := true }
    let both (k : CycleKind) : Smc :=
      if s.scu.running then host k else bothRequested (m k) .bcrRead
    (s.sweepDue = true →
      exec (.hostMemoryRead ⟨addr, true⟩) s =
        .next (sweepStarted s (both (.memoryRead addr))) ∧
      (partWritten addr.toNat = false → exec (.hostMemoryWrite ⟨addr, true⟩ data) s =
        .next (sweepStarted s (both (.memoryWrite addr data)))) ∧
      (partWritten addr.toNat = true → ∃ t, exec (.hostMemoryWrite ⟨addr, false⟩ data) s = .next t ∧
        exec (.hostMemoryWrite ⟨addr, true⟩ data) s = .next (sweepStarted t
          (if s.scu.running then t.smc else requested t.smc .bcrRead)))) ∧
    (s.sweepDue = false →
      exec (.hostMemoryRead ⟨addr, true⟩) s = exec (.hostMemoryRead ⟨addr, false⟩) s ∧
      exec (.hostMemoryWrite ⟨addr, true⟩ data) s = exec (.hostMemoryWrite ⟨addr, false⟩ data) s)

/-- The state after a register write cycle that changed nothing else. -/
def registerDone (s : State) : State := { s with smc := { s.smc with
  cycle := some ⟨.registerWrite, true, true⟩, rdy := true, dataOut := none } }

/-- R10, R19, R20, R18, R21: the writes to ATTENTION, to ATTENTION MASK and to the offsets no write
reaches. -/
def Obligations.RegisterWritesTakeTheirBits : Prop :=
  ∀ (s : State) (addr data : Word), s.pins.por = false → s.smc.cycle = none →
    ((Instr.attentionWrite addr data).wellFormed = true →
      exec (.attentionWrite addr data) s = .next (registerDone { s with smc := { s.smc with
        attention := s.smc.attention &&& ~~~data.extractLsb' 0 11 } })) ∧
    ((Instr.attentionMaskWrite addr data).wellFormed = true →
      exec (.attentionMaskWrite addr data) s = .next (registerDone { s with smc := { s.smc with
        mask := data.extractLsb' 0 11 } })) ∧
    ((Instr.registerWriteIgnored addr data).wellFormed = true →
      exec (.registerWriteIgnored addr data) s = .next (registerDone s))

/-- R20: ATTN is asserted while a set cause is enabled and POR_N is released. -/
def Obligations.AttentionLineFollowsTheRegisters : Prop :=
  ∀ s : State, s.attn = true ↔
    s.pins.por = false ∧ ∃ k : Nat, s.smc.attention.getLsbD k = true ∧ s.smc.mask.getLsbD k = true

/-- R17, R23, R25, R26, R12: setting SCAN_ENABLE with no sweep running begins a sweep at once, whose BCR
read is granted or waits for the port; while an earlier sweep still runs the new one is an overrun, deferred
until that sweep ends (log entry 18); storing the value it holds changes nothing. -/
def Obligations.ScanEnableBeginsASweep : Prop :=
  ∀ (s : State) (addr data : Word), s.pins.por = false → s.smc.cycle = none →
    (Instr.scanEnableSet addr data).wellFormed = true →
    let scu : Scu := { s.scu with
      scanEnable := true, lastStart := s.time.runMs, interval := s.scu.config.sweepPeriod }
    (s.scu.scanEnable = true → exec (.scanEnableSet addr data) s = .next (registerDone s)) ∧
    (s.scu.scanEnable = false → s.scu.running = false →
      exec (.scanEnableSet addr data) s = .next (registerDone { s with
        scu := { scu with
          sweepNumber := s.scu.sweepNumber + 1, running := true, visit := .header }
        smc := requested s.smc .bcrRead })) ∧
    (s.scu.scanEnable = false → s.scu.running = true →
      exec (.scanEnableSet addr data) s = .next (registerDone { s with
        scu := { scu with overrun := min 65535 (s.scu.overrun + 1), deferred := true }
        smc := { s.smc with attention := s.smc.attention ||| Cause.sweepOverrun.mask } }))

/-- What a board hold makes of the exercise of a socket (R134, R135, R147, R154): ARMED and RUNNING become
PAUSED with the frame or cycle in progress dropped, the counts standing; any other state is kept. -/
def exerciseHeld (x y : Socket) : Prop :=
  (x.acct.phase = .stressing → x.ex.st = .armed ∨ x.ex.st = .running →
    y.ex.st = .paused ∧ y.ex.cycle = .noCycle ∧ y.ex.expiry = none ∧ y.ex.frameTotal = 0 ∧
    y.ex.framesRun = x.ex.framesRun ∧ y.ex.framesFailed = x.ex.framesFailed ∧
    y.ex.laneErr = x.ex.laneErr ∧ y.ex.cycles = x.ex.cycles ∧ y.ex.spurious = x.ex.spurious) ∧
  (x.acct.phase = .stressing → x.ex.st ≠ .armed → x.ex.st ≠ .running → y.ex = x.ex) ∧
  (x.acct.phase ≠ .stressing → y.ex = x.ex)

/-- R17, R63, R23, R135: storing SCAN_ENABLE 0 where it is 0 changes nothing; clearing it discards a deferred start; a
RUNNING board becomes HOLDING with reason SCAN_OFF, its active sockets HELD and their exercise PAUSED; in any other
board state nothing else changes. In each case the register cycle stands completed. -/
def Obligations.ScanDisableHoldsARunningBoard : Prop :=
  ∀ (s : State) (addr data : Word), s.pins.por = false → s.smc.cycle = none →
    (Instr.scanDisable addr data).wellFormed = true →
    (s.scu.scanEnable = false → exec (.scanDisable addr data) s = .next (registerDone s)) ∧
    (s.scu.scanEnable = true → s.brc.state ≠ .running →
      exec (.scanDisable addr data) s = .next (registerDone { s with
        scu := { s.scu with scanEnable := false, deferred := false } })) ∧
    (s.scu.scanEnable = true → s.brc.state = .running → ∃ t, exec (.scanDisable addr data) s = .next t ∧
      t = { s with scu := t.scu, brc := t.brc, smc := t.smc, sockets := t.sockets } ∧
      t.scu = { s.scu with scanEnable := false, deferred := false } ∧
      t.brc = { s.brc with state := .holding, reason := .scanOff } ∧
      t.smc = (registerDone s).smc ∧
      ∀ i : SocketIx,
        ((s.sock i).acct.phase.asResume ≠ .none →
          (t.sock i).acct.phase = .held ∧
          (t.sock i).acct.resume = (s.sock i).acct.phase.asResume) ∧
        ((s.sock i).acct.phase.asResume = .none →
          (t.sock i).acct.phase = (s.sock i).acct.phase) ∧
        exerciseHeld (s.sock i) (t.sock i) ∧ (t.sock i).acct.spoil = true ∧
        (t.sock i).rail = (s.sock i).rail ∧ (t.sock i).thermal = (s.sock i).thermal)

/-! ## Resets -/

/-- R22, R47, R65, R24, R62: the soft reset puts every block in its reset state and leaves Run
Milliseconds, the PWM tick counter, the pins and, with no write transfer in progress, every memory word;
with INTERLOCK_N asserted it takes one interlock event. That the register write cycle that carried the reset
stands completed with RDY asserted after it (`registerDone`) is the model's choice (log entry 24). Every
socket takes `Socket.reset`: its period side NONE, where R107 and R116 differ, is the model's reading (log
entry 41), and its diagnosis error count 0 the model's choice (log entry 12). -/
def Obligations.SoftResetResetsEveryBlock : Prop :=
  ∀ (s : State) (addr data : Word), s.pins.por = false → s.smc.cycle = none →
    (Instr.softReset addr data).wellFormed = true →
    (∃ t, exec (.softReset addr data) s = .next t ∧ t.time = s.time ∧ t.pins = s.pins ∧
      t.epoch = s.epoch ∧ t.scu = Scu.reset ∧ t.pxr = Pxr.reset ∧
      t.banks = Vector.replicate 8 Bank.reset ∧ t.brc.state = .stopped ∧
      t.smc.owner = .none ∧ t.smc.lastGranted = .scan ∧ t.smc.faultKind = .none ∧
      (s.smc.transfer.bind Transfer.payload = none → t.mem = s.mem)) ∧
    (s.pins.interlock = false → s.smc.transfer.bind Transfer.payload = none →
      exec (.softReset addr data) s = .next (registerDone { s with
        smc := Smc.reset, scu := Scu.reset, brc := Brc.reset, pxr := Pxr.reset
        banks := Vector.replicate 8 Bank.reset, sockets := Vector.replicate 32 Socket.reset })) ∧
    (s.pins.interlock = true → ∃ t, exec (.softReset addr data) s = .next t ∧
      t.brc = { Brc.reset with interlockCount := 1 } ∧
      t.smc.attention = Cause.interlock.mask)

/-- R22: a soft reset that abandons a write transfer leaves every word with its value before or the value
the transfer wrote, whichever words the free value of log entry 3 names, and no transfer in progress. -/
def Obligations.AbandonedWritesLeaveOldOrNewWords : Prop :=
  ∀ (s : State) (base : Nat) (ws : List Word), base + ws.length ≤ 65536 →
    s.smc.transfer.bind Transfer.payload = some (base, ws) →
    (∀ a : Nat, s.abandonTransfer.readWord a = s.readWord a ∨
      ∃ k : Nat, a = base + k ∧ k < ws.length ∧
        s.abandonTransfer.readWord a = withParity (ws.getD k 0)) ∧
    ∀ addr data : Word, s.pins.por = false → s.smc.cycle = none →
      (Instr.softReset addr data).wellFormed = true →
      ∃ t, exec (.softReset addr data) s = .next t ∧ t.scu = Scu.reset ∧
        t.smc.owner = .none ∧ t.smc.transfer = none ∧
        ∀ a : Nat, t.readWord a = s.readWord a ∨
          ∃ k : Nat, a = base + k ∧ k < ws.length ∧ t.readWord a = withParity (ws.getD k 0)

/-- R22, R14, R24: POR_N asserted resets every block and leaves the memory's contents to the power-up
value; its release starts Run Milliseconds and the PWM tick counter at 0. That an unwritten word reads as
one free constant is the model's choice (log entry 2). Every socket takes `Socket.reset`: its period side
NONE, where R107 and R116 differ, is the model's reading (log entry 41), and its diagnosis error count 0 the
model's choice (log entry 12). -/
def Obligations.PowerOnResetAndRelease : Prop :=
  ∀ s : State,
    (s.pins.por = false → ∃ t, exec .powerOnReset s = .next t ∧
      t = { s with
        mem := [], epoch := s.epoch + 1, pins := { s.pins with por := true }
        smc := Smc.reset, scu := Scu.reset, brc := Brc.reset, pxr := Pxr.reset
        banks := Vector.replicate 8 Bank.reset, sockets := Vector.replicate 32 Socket.reset } ∧
      ∀ a : Nat, t.readWord a = Config.powerUpWord (s.epoch + 1) a) ∧
    (s.pins.por = true → s.pins.interlock = false →
      exec .porRelease s = .next { s with
        pins := { s.pins with por := false }, time := { runMs := 0, pwmTick := 0 }
        smc := Smc.reset, scu := Scu.reset, brc := Brc.reset, pxr := Pxr.reset
        banks := Vector.replicate 8 Bank.reset, sockets := Vector.replicate 32 Socket.reset }) ∧
    (s.pins.por = true → s.pins.interlock = true → ∃ t, exec .porRelease s = .next t ∧
      t.time = { runMs := 0, pwmTick := 0 } ∧ t.pins = { s.pins with por := false } ∧
      t.brc = { Brc.reset with interlockCount := 1 } ∧ t.smc.attention = Cause.interlock.mask)

/-! ## Sweeps and visits -/

/-- R23, R25, R26, R12: a sweep start whose time has come begins a sweep, whose BCR read is granted or waits
for the port, or is deferred while a sweep runs. That it is timed from its nominal time, however late it is
sent, is the model's reading (log entry 18). -/
def Obligations.SweepStartsBeginOrAreDeferred : Prop :=
  ∀ s : State, s.pins.por = false → s.sweepDue = true →
    exec .sweepStart s = .next (sweepStarted s
      (if s.scu.running then s.smc else requested s.smc .bcrRead))

/-- What the Scan Unit asks of the arbiter once its transfer has released the port (R12): the transfer is
granted at once, or waits behind the host's word where that waited first. Where events fall between the end of the
one transfer and the request of the next (log entry 37) is `Obligations.WriteTransfersStoreTheirRecord`. -/
def asksFor (m : Smc) (hostWaited : Bool) (t : Transfer) : Prop :=
  (hostWaited = false → m.owner = .scan ∧ m.lastGranted = .scan ∧ m.transfer = some t ∧
    m.scanWaiting = none) ∧
  (hostWaited = true → m.owner = .host ∧ m.lastGranted = .host ∧ m.scanWaiting = some t ∧
    m.transfer = none ∧ m.hostWaiting = false)

/-- The words of a Board Status Record, by offset (TABLE 12-2). -/
def boardStatusFields (s : State) (ws : List Word) : Prop :=
  let holds (k v : Nat) : Prop := field ws k = BitVec.ofNat 16 v
  ws.length = 128 ∧ holds 0 s.brc.state.code ∧
  holds 1 (if s.brc.state = .holding then s.brc.reason.code else 0) ∧
  holds 2 s.scu.appliedConfigRev.toNat ∧ holds 3 s.scu.configResult.code ∧
  field32 ws 4 = s.scu.sweepNumber ∧ field32 ws 6 = s.time.runMs ∧
  field32 ws 8 = s.pxr.frameNumber ∧ holds 10 s.scu.overrun ∧ holds 11 s.scu.seenTag.toNat ∧
  holds 12 s.brc.acceptedTag.toNat ∧ holds 13 s.brc.completedTag.toNat ∧
  holds 14 s.brc.result.code ∧ holds 15 s.brc.detail ∧ holds 16 s.brc.refusedTag.toNat ∧
  holds 17 s.brc.refusalReason.code ∧ holds 18 s.brc.refusalCount ∧
  holds 19 s.brc.interlockCount ∧ field ws 20 = s.brc.mapGeneration ∧
  holds 21 s.brc.runFinished.toNat ∧
  (∀ b : BankIx, (field ws 22).getLsbD b.val = s.banks[b].locked ∧
    field32 ws (24 + 2 * b.val) = s.banks[b].feed ∧ holds (40 + b.val) s.banks[b].tripCount) ∧
  (∀ p : Phase, holds (48 + p.code)
    ((List.finRange 32).countP fun i => (s.sock i).acct.phase == p)) ∧
  (field ws 22).extractLsb' 8 8 = 0 ∧ field ws 23 = 0 ∧
  ∀ k : Nat, 56 ≤ k → k < 128 → field ws k = 0

/-- The run-finished check of a header visit (R64), from the value the flag had before it. -/
def runFinishChecked (before : Bool) (t : State) : Prop :=
  (t.brc.runFinished = true ↔ before = true ∨
    ((t.brc.state = .running ∨ t.brc.state = .holding) ∧
      ∀ i : SocketIx, (t.sock i).acct.phase.reporting = false)) ∧
  (before = false → t.brc.runFinished = true →
    t.smc.attention.getLsbD Cause.runFinished.bit = true)

/-- What the lane-role check at the completion of a fill does to a socket (R58, R133), on the map `m`. -/
def rolesChecked (m : LaneMap) (i : SocketIx) (x y : Socket) : Prop :=
  let unfit : Prop := x.gate.shadow.mode = .selftest ∧ rolesFit m i x.gate.shadow.num = false
  (¬unfit → y = x) ∧
  (unfit → y.ex.suspendFlag = true ∧ y.acct.phase = x.acct.phase ∧
    (x.ex.st = .armed ∨ x.ex.st = .running → y.ex.st = .suspended ∧ y.ex.cycle = .noCycle) ∧
    (x.ex.st ≠ .armed → x.ex.st ≠ .running → y.ex.st = x.ex.st))

/-- What the header-visit work leaves of the command in progress (R52, R58, R60, R64), with no new command or
after its judgement: one that waits for its completion is completed with SUCCESS, a fill with the next Lane
Map Generation and the lane-role check of R133, and any other stands; then the run-finished check. -/
def commandLooksDone (p t : State) : Prop :=
  t.pxr = p.pxr ∧ t.banks = p.banks ∧ runFinishChecked p.brc.runFinished t ∧
  ((∀ ch, p.brc.channel = some ch → ch.step ≠ .doneWait) →
    t.brc = { p.brc with runFinished := t.brc.runFinished } ∧ t.sockets = p.sockets ∧
    ∀ n : Nat, n ≠ Cause.runFinished.bit →
      t.smc.attention.getLsbD n = p.smc.attention.getLsbD n) ∧
  ∀ ch, p.brc.channel = some ch → ch.step = .doneWait →
    t.smc.attention.getLsbD Cause.commandDone.bit = true ∧
    (∀ n : Nat, n ≠ Cause.runFinished.bit → n ≠ Cause.commandDone.bit →
      t.smc.attention.getLsbD n = p.smc.attention.getLsbD n) ∧
    t.brc = { p.brc with
      completedTag := ch.tag, result := .success, channel := none
      detail := if ch.code = .diagnose then (List.finRange 32).countP fun i =>
          ch.mask.getLsbD i.val && (p.sock i).ex.diagResult == .fail
        else 0
      mapGeneration := if ch.code = .fillLaneMap then p.brc.mapGeneration + 1
        else p.brc.mapGeneration
      runFinished := t.brc.runFinished } ∧
    (ch.code ≠ .fillLaneMap → t.sockets = p.sockets) ∧
    (ch.code = .fillLaneMap → ∀ i : SocketIx, rolesChecked p.pxr.active i (p.sock i) (t.sock i))

/-- R30, R16, R27, R45, R52, R64: a BCR read whose stored record holds a word with bad parity keeps
configuration and Seen Tag, counts the stale header visit, reports CONTROL_STALE once a run reaches Stale
Limit, makes the header-visit work as at any other header visit, and asks for the write of the Board Status
Record, whose words are taken then. That the count saturates at 65,535 is the model's choice (log entry 30). It
is stated for an end of the transfer with no event before that request (log entry 37). -/
def Obligations.StaleHeaderVisitsKeepTheConfiguration : Prop :=
  ∀ (s : State) (u : BitVec 3), s.pins.por = false → s.transferring = some .bcrRead →
    s.smc.scanWaiting = none → (s.readRecord bcrBase 128 u).isNone = true →
    let n := min 65535 (s.scu.headerStale + 1)
    let reach : Bool := s.scu.config.staleLimit ≤ n
    let p : State := { s with
      scu := { s.scu with
        headerStale := n, headerStaleReported := s.scu.headerStaleReported || reach }
      smc := { s.smc with attention := if s.scu.headerStaleReported = false ∧ reach = true
        then s.smc.attention ||| Cause.controlStale.mask else s.smc.attention } }
    ∃ t ws, exec (.bcrReadComplete u []) s = .next t ∧
      t = { s with scu := p.scu, smc := t.smc, brc := t.brc, sockets := t.sockets } ∧
      commandLooksDone p t ∧
      asksFor t.smc s.smc.hostWaiting (.bsrWrite ws) ∧ boardStatusFields t ws

/-- R32, R52, R64, R45: the first good BCR read takes Config Revision and Command Tag as seen, adopts
nothing and hands no command over; the visit goes on to its header-visit work and to the write of the Board
Status Record. It is stated for an end of the transfer with no event before that request (log entry 37). -/
def Obligations.HeaderSynchronizingVisit : Prop :=
  ∀ (s : State) (u : BitVec 3) (r : List Word), s.pins.por = false →
    s.transferring = some .bcrRead → s.scu.headerSynced = false →
    s.smc.scanWaiting = none → s.readRecord bcrBase 128 u = some r →
    let p : State := { s with scu := { s.scu with
      headerStale := 0, headerStaleReported := false
      appliedConfigRev := field8 r 0, configResult := .pending, seenTag := field8 r 32
      headerSynced := true } }
    ∃ t ws, exec (.bcrReadComplete u []) s = .next t ∧
      t = { s with scu := p.scu, smc := t.smc, brc := t.brc, sockets := t.sockets } ∧
      commandLooksDone p t ∧
      asksFor t.smc s.smc.hostWaiting (.bsrWrite ws) ∧ boardStatusFields t ws

/-- The row that stands for the command of a Board Control Record (R36, TABLE 12-1); none for an undefined
Command Code. -/
def commandRow (r : List Word) : Option Instr :=
  let tag := field8 r 32
  match (field r 33).toNat with
  | 1 => some (.startRun tag)
  | 2 => some (.hold tag)
  | 3 => some (.resume tag)
  | 4 => some (.stopRun tag)
  | 5 => some (.loadLaneMap tag)
  | 6 => some (.fillLaneMap tag (field r 36) (field r 37))
  | 7 => some (.clearAccounts tag (field32 r 34))
  | 8 => some (.diagnose tag (field32 r 34))
  | _ => none

/-- What the hand-over of a new command in a header visit leaves: what the command's row leaves on the state
`p` of the moment (R36, R51), or the refusal of an undefined code; of the channel, the items the command
uses. -/
def commandHandedOver (r : List Word) (p t : State) : Prop :=
  (∀ row, commandRow r = some row → ∃ q, exec row p = .next q ∧
    t.sockets = q.sockets ∧ t.banks = q.banks ∧ t.pxr = q.pxr ∧
    t.scu = { q.scu with seenTag := field8 r 32 } ∧
    t.brc = { q.brc with runFinished := t.brc.runFinished, channel := t.brc.channel } ∧
    (t.brc.channel = none ↔ q.brc.channel = none) ∧
    (∀ ch k, t.brc.channel = some ch → q.brc.channel = some k →
      ch.code = k.code ∧ ch.tag = k.tag ∧ ch.step = k.step ∧
      (k.code = .diagnose → ch.mask = k.mask) ∧
      (k.code = .fillLaneMap →
        ch.fillDirection = k.fillDirection ∧ ch.fillLevel = k.fillLevel)) ∧
    (∀ n : Nat, n ≠ Cause.runFinished.bit →
      t.smc.attention.getLsbD n = q.smc.attention.getLsbD n) ∧
    runFinishChecked q.brc.runFinished t) ∧
  (commandRow r = none →
    t.sockets = p.sockets ∧ t.banks = p.banks ∧ t.pxr = p.pxr ∧
    t.brc = { p.brc with
      refusedTag := field8 r 32, refusalCount := min 65535 (p.brc.refusalCount + 1)
      refusalReason := if p.brc.channel = none then .badCode else .busy
      runFinished := t.brc.runFinished } ∧
    t.smc.attention.getLsbD Cause.commandRefused.bit = true ∧
    runFinishChecked p.brc.runFinished t)

/-- The state after a refused command: Seen Tag, the report fields of R51 and COMMAND_REFUSED. -/
def refusedState (s : State) (tag : Byte8) (why : RefusalReason) : State := { s with
  scu := { s.scu with seenTag := tag }
  brc := { s.brc with
    refusedTag := tag, refusalReason := why, refusalCount := min 65535 (s.brc.refusalCount + 1) }
  smc := { s.smc with attention := s.smc.attention ||| Cause.commandRefused.mask } }

/-- One numeric field of a control record under validation (R34, R38): the value read from its words, its range, its
cross-field limit where it has one, and the value held after validation. -/
structure FieldCheck where
  read : Int
  low : Int
  high : Int
  limit : Option Int := none
  held : Int
deriving DecidableEq, Repr

/-- A field is validated: a value within the range is kept, one outside takes the nearest limit of the range, and one
that then lies above the cross-field limit takes that limit. -/
def FieldCheck.valid (f : FieldCheck) : Prop :=
  ∃ v : Int, (f.low ≤ f.read → f.read ≤ f.high → v = f.read) ∧ (f.read < f.low → v = f.low) ∧
    (f.high < f.read → v = f.high) ∧ (f.limit = none → f.held = v) ∧
    ∀ l, f.limit = some l → (v ≤ l → f.held = v) ∧ (l < v → f.held = l)

/-- The numeric fields of a Board Control Record but the seeds (TABLE 2-1, TABLE 12-1), held as a configuration. -/
def configFields (r : List Word) (c : BoardConfig) : List FieldCheck :=
  let w (k : Nat) : Int := (field r k).toNat
  [{ read := w 1, low := 4, high := 250, held := c.sweepPeriod },
   { read := w 2, low := 1, high := 255, held := c.staleLimit },
   { read := w 3, low := 1024, high := 65535, held := c.frameLength },
   { read := w 4, low := 100, high := 25000, held := c.vectorRate },
   { read := (field r 5).toInt, low := 800, high := 3200, held := c.absLimit },
   { read := w 6, low := 1, high := 16, held := c.deadTime }] ++
  (List.finRange 8).map fun b =>
    { read := w (16 + b.val), low := 1000, high := 60000, held := c.budgets[b] }

/-- A Generator Seed as read (TABLE 12-1): bits 14–0 of its word. -/
def seedRead (r : List Word) (g : Fin 4) : BitVec 15 := (field r (8 + g.val)).extractLsb' 0 15

/-- Every Generator Restart field holds a code of TABLE 12-1 (the first stage of R34). -/
def restartsListed (r : List Word) : Prop := ∀ g : Fin 4, (field r (12 + g.val)).toNat ≤ 1

/-- The configuration that the record of a BCR read puts into force (the second stage of R34). -/
def configValidated (r : List Word) (c : BoardConfig) : Prop :=
  (∀ f ∈ configFields r c, f.valid) ∧
  ∀ g : Fin 4, c.seeds[g] = (if seedRead r g = 0 then 1 else seedRead r g) ∧
    (field r (12 + g.val) = 0 → c.restarts[g] = .restart) ∧
    (field r (12 + g.val) = 1 → c.restarts[g] = .continuous)

/-- No field of the configuration was clamped and no seed replaced (the third stage of R34). -/
def configAsRead (r : List Word) (c : BoardConfig) : Prop :=
  (∀ f ∈ configFields r c, f.held = f.read) ∧ ∀ g : Fin 4, seedRead r g ≠ 0

/-- What an adopted configuration does to one socket (R35): Temperature Setpoint, Compare Window Start and Compare
Window Length are lowered to the new limits where they lie above them and stand where they fit, and nothing else of
the socket changes. -/
def settingsFitted (c : BoardConfig) (x y : Socket) : Prop :=
  let n := x.gate.shadow.num
  let m := y.gate.shadow.num
  (c.absLimit - 16 < n.tempSetpoint → m.tempSetpoint = c.absLimit - 16) ∧
  (n.tempSetpoint ≤ c.absLimit - 16 → m.tempSetpoint = n.tempSetpoint) ∧
  (c.frameLength - 1 < n.winStart → m.winStart = c.frameLength - 1) ∧
  (n.winStart ≤ c.frameLength - 1 → m.winStart = n.winStart) ∧
  (c.frameLength - m.winStart < n.winLength → m.winLength = c.frameLength - m.winStart) ∧
  (n.winLength ≤ c.frameLength - m.winStart → m.winLength = n.winLength) ∧
  m.winStart + m.winLength ≤ c.frameLength ∧
  m = { n with tempSetpoint := m.tempSetpoint, winStart := m.winStart, winLength := m.winLength } ∧
  y = { x with gate := { x.gate with shadow := { x.gate.shadow with num := m } } }

/-- R33, R34, R35, R187: a changed Config Revision read while STOPPED is rejected for an undefined Generator
Restart and otherwise put into force field by field, a value within its range as read and one outside at the nearest
limit, CLAMPED where a field was so changed or a seed of 0 replaced and else ADOPTED, every socket's settings brought
within its limits; while not STOPPED it stays PENDING. R36, R52, R64, R45: a good BCR read of a synchronized header handles the Config Revision so, takes the Command Tag, hands a new
command over, completes the one that waits, makes the run-finished check and asks for the write of the Board
Status Record. A new command read while one waits in DONE_WAIT is refused with BUSY before that completion,
but for STOP_RUN, which completes it first (R55; a fill so completed is log entry 22). It is stated for an end of
the transfer with no event before the request of the next (log entry 37). -/
def Obligations.ConfigurationRevisionIsHandled : Prop :=
  ∀ (s : State) (r : List Word),
    (field8 r 0 = s.scu.appliedConfigRev → s.takeConfig r = s) ∧
    (field8 r 0 ≠ s.scu.appliedConfigRev → s.brc.state ≠ .stopped →
      s.takeConfig r = { s with scu := { s.scu with configResult := .pending } }) ∧
    (field8 r 0 ≠ s.scu.appliedConfigRev → s.brc.state = .stopped → ¬restartsListed r →
      s.takeConfig r = { s with scu := { s.scu with
        appliedConfigRev := field8 r 0, configResult := .rejected } }) ∧
    (field8 r 0 ≠ s.scu.appliedConfigRev → s.brc.state = .stopped → restartsListed r →
      let t := s.takeConfig r
      let c := t.scu.config
      t.scu = { s.scu with
        appliedConfigRev := field8 r 0, configAdopted := true, config := c
        configResult := t.scu.configResult } ∧
      configValidated r c ∧
      (configAsRead r c → t.scu.configResult = .adopted) ∧
      (¬configAsRead r c → t.scu.configResult = .clamped) ∧
      t = { s with scu := t.scu, pxr := t.pxr, sockets := t.sockets } ∧
      (4 ≤ c.sweepPeriod ∧ c.sweepPeriod ≤ 250) ∧ (1 ≤ c.staleLimit ∧ c.staleLimit ≤ 255) ∧
      (1024 ≤ c.frameLength ∧ c.frameLength ≤ 65535) ∧
      (100 ≤ c.vectorRate ∧ c.vectorRate ≤ 25000) ∧ (1 ≤ c.deadTime ∧ c.deadTime ≤ 16) ∧
      (800 ≤ c.absLimit ∧ c.absLimit ≤ 3200) ∧
      (∀ g : Fin 4, c.seeds[g] ≠ 0) ∧
      (∀ b : BankIx, 1000 ≤ c.budgets[b] ∧ c.budgets[b] ≤ 60000) ∧
      t.pxr = { s.pxr with
        pendingLength := c.frameLength, pendingRate := c.vectorRate, reloadAll := true } ∧
      ∀ i : SocketIx,
        settingsFitted c (s.sock i) (t.sock i)) ∧
    ∀ u : BitVec 3, s.pins.por = false → s.transferring = some .bcrRead →
      s.scu.headerSynced = true → s.smc.scanWaiting = none →
      s.readRecord bcrBase 128 u = some r →
      let c := s.takeConfig r
      let p : State := { c with scu := { c.scu with headerStale := 0, headerStaleReported := false } }
      ∃ t ws, exec (.bcrReadComplete u []) s = .next t ∧
        t = { s with scu := t.scu, smc := t.smc, brc := t.brc, pxr := t.pxr, banks := t.banks
                     sockets := t.sockets } ∧
        asksFor t.smc s.smc.hostWaiting (.bsrWrite ws) ∧ boardStatusFields t ws ∧
        t.scu = { p.scu with seenTag := field8 r 32, chunkIndex := t.scu.chunkIndex } ∧
        (field8 r 32 = s.scu.seenTag → t.scu = p.scu ∧ commandLooksDone p t) ∧
        (field8 r 32 ≠ s.scu.seenTag →
          (∀ ch, s.brc.channel = some ch → ch.step ≠ .doneWait) ∨
            commandRow r = some (.stopRun (field8 r 32)) → commandHandedOver r p t) ∧
        (field8 r 32 ≠ s.scu.seenTag → ∀ ch, s.brc.channel = some ch → ch.step = .doneWait →
          commandRow r ≠ some (.stopRun (field8 r 32)) →
          commandLooksDone (refusedState p (field8 r 32) .busy) t)

/-- The words of a Socket Status Record at a visit of a sweep, by offset (TABLE 12-4). -/
def socketStatusFields (sweep : Word32) (x : Socket) (ws : List Word) : Prop :=
  let holds (k v : Nat) : Prop := field ws k = BitVec.ofNat 16 v
  let holds32 (k v : Nat) : Prop := field32 ws k = BitVec.ofNat 32 v
  ws.length = 128 ∧ holds 0 x.gate.appliedRev.toNat ∧
  holds 1 (if x.gate.staleVisit then GateResult.stale.code else x.gate.result.code) ∧
  holds 2 x.gate.clampedCount ∧ holds 3 x.gate.rejectReason.code ∧ field32 ws 4 = sweep ∧
  holds 6 x.gate.staleCount ∧ holds 7 x.acct.phase.code ∧ holds 8 x.acct.resume.code ∧
  holds 9 x.rail.st.code ∧ field ws 10 = x.rail.voltage ∧ field ws 11 = x.rail.current ∧
  holds 12 x.rail.trips ∧
  (∀ t : Int, x.sensor.tf = some t → field ws 13 = BitVec.ofInt 16 t) ∧
  (x.sensor.tf = none → field ws 13 = 0x8000) ∧
  holds 14 (x.sensor.st.code + 256 * (if x.sensor.st = .suspect then x.sensor.suspectCount
    else if x.sensor.st = .invalid then x.sensor.invalidCount else 0)) ∧
  field ws 15 = BitVec.ofInt 16 x.thermal.u ∧ holds 16 x.thermal.grant ∧
  holds 17 x.thermal.ceiling ∧ holds 18 x.ex.st.code ∧ holds 19 x.ex.spurious ∧
  holds32 20 x.ex.framesRun ∧ holds32 22 x.ex.framesFailed ∧
  (∀ l : LaneIx, holds (24 + l.val) x.ex.laneErr[l]) ∧ holds32 40 x.ex.cycles ∧
  holds32 42 x.ex.lastDuration ∧ holds32 44 x.acct.dwellSec ∧ holds 46 x.acct.dwellMs ∧
  holds 47 x.acct.lateCount ∧ holds32 48 x.acct.oosSec ∧ holds 50 x.acct.oosMs ∧
  holds 51 x.gate.failWritten.toNat ∧ field32 ws 52 = x.acct.failTotal ∧
  field32 ws 54 = x.acct.detailLost ∧
  (∀ k : Kind, holds (55 + k.code) x.acct.kindCount[k.ix]) ∧ holds 64 x.acct.strikes ∧
  holds 65 x.acct.bin.code ∧ holds 66 x.acct.retireKind.code ∧ field ws 67 = 0 ∧
  field32 ws 68 = x.acct.firstFailDwell ∧ holds 70 x.ex.diagResult.code ∧
  holds 71 x.ex.diagErrors ∧ ∀ k : Nat, 72 ≤ k → k < 128 → field ws k = 0

/-- The words of a fail record, by offset (TABLE 12-6). -/
def failRecordFields (f : FailRecord) (ws : List Word) : Prop :=
  ws.length = 16 ∧ field ws 0 = f.sequence ∧
  field ws 1 = BitVec.ofNat 16 (f.kind.code + 256 * f.subcode) ∧
  field ws 2 = BitVec.ofNat 16 (f.phase.code + 256 * f.details.length) ∧
  field32 ws 3 = f.sweep ∧ field32 ws 5 = BitVec.ofNat 32 f.dwell ∧ field ws 7 = f.voltage ∧
  field ws 8 = f.current ∧ field ws 9 = f.temperature ∧
  ∀ k : Nat, k < 6 → field ws (10 + k) = f.details.getD k 0

/-- How many records a visit of a socket moves (R42): those staged, as far as the fail list has slots that the
host has acknowledged. -/
def movesOf (x : Socket) : Nat :=
  min x.acct.staging.length (8 - (x.gate.failWritten - x.gate.acked).toNat)

/-- How a socket visit goes on with `left` records to move (R28, R42, R46): the oldest staged record to the
slot of Fail Written Count, or the Socket Status Record when none is left. -/
def visitGoesOn (s t : State) (i : SocketIx) (left : Nat) (moved : Bool) : Prop :=
  let x := t.sock i
  (left = 0 → t.scu.visit = .socket i 0 moved ∧ ∃ ws,
    asksFor t.smc s.smc.hostWaiting (.ssrWrite i ws) ∧
    socketStatusFields s.scu.sweepNumber x ws) ∧
  ∀ f rest, 0 < left → x.acct.staging = f :: rest → t.scu.visit = .socket i left moved ∧
    ∃ (slot : Fin 8) (ws : List Word), slot.val = x.gate.failWritten.toNat % 8 ∧
      asksFor t.smc s.smc.hostWaiting (.failWrite i slot ws) ∧ failRecordFields f ws

/-- The control phases (R108). A COMPLETE socket is in control while held powered, as log entry 17 reads
it. -/
def controlled (c : Ctx) (x : Socket) : Prop :=
  let hold : Prop := c.reason = .command ∨ c.reason = .scanOff
  x.acct.phase = .powering ∨ x.acct.phase = .soaking ∨ x.acct.phase = .stressing ∨
  (x.acct.phase = .held ∧ hold) ∨
  (x.acct.phase = .complete ∧ x.gate.shadow.endAction = .holdPowered ∧
    x.gate.shadow.enable = true ∧ (c.board = .running ∨ (c.board = .holding ∧ hold)))

/-- The headroom of the bank at a visit of a socket (R93): the Bank Budget less the latest currents of the
bank's four rails, those that are powered, and less the other three grants. -/
def headroomOf (s : State) (i : SocketIx) : Nat :=
  let mates := (List.finRange 32).filter fun j => bankOf j == bankOf i
  let drawn (j : SocketIx) : Nat := match (s.sock j).rail.st with
    | .rampUp | .settle | .on | .slew | .rampDown => (s.sock j).rail.current.toNat
    | .off | .chainWait | .tripped | .holdOff | .lockout => 0
  s.scu.config.budgets[bankOf i] - (mates.map drawn).sum -
    ((mates.filter (· != i)).map fun j => (s.sock j).thermal.grant).sum

/-- Heater Ceiling (R94). -/
def ceilingFor (b : Bank) (headroom : Nat) (n : Numbers) : Nat :=
  if b.holdOff.isSome = true ∨ b.locked = true ∨ headroom = 0 then 0
  else min 1023 (headroom * 1024 / n.heaterFullScale)

/-- H_max (R94). -/
def boundFor (b : Bank) (headroom : Nat) (n : Numbers) : Int :=
  min (ceilingFor b headroom n) n.heaterLimit

/-- The error e of step 1 (R111). -/
def errorFor (n : Numbers) (tf : Int) : Int := max (-2048) (min 2047 (n.tempSetpoint - tf))

/-- I_acc after step 3 (R112). -/
def accFor (n : Numbers) (tf : Int) (a : Thermal) : Int :=
  let e := errorFor n tf
  if n.ki = 0 then 0
  else if (a.sat = .high ∧ 0 < e) ∨ (a.sat = .low ∧ e < 0) then a.iAcc
  else max (-261888) (min 261888 (a.iAcc + n.ki * e))

/-- u after step 6 (R111, R113), with H_max `h`. -/
def outputFor (n : Numbers) (h tf : Int) (a : Thermal) : Int :=
  max (-(n.coolerLimit : Int))
    (min h (Int.tdiv (n.kp * errorFor n tf) 256 + Int.tdiv (accFor n tf a) 256))

/-- The runaway test (R118), with the H_max of the visit. -/
def hot (n : Numbers) (h tf : Int) (a : Thermal) : Prop :=
  n.tempSetpoint + n.runawayMargin < tf ∧ outputFor n h tf a = -(n.coolerLimit : Int)

/-- The thermal state `z` that a visit's thermal work makes of a socket `x` in a control phase or not, where no
condition ends the socket's phase (TABLE 7-1): the allocation (R94); rest outside the control phases and before
the first sample (R108); the hold visit of an INVALID sensor (R109); the loss values of a LOST one (R101); and
the control update of a TRACKING or SUSPECT one (R111 to R113) with its runaway count (R118). -/
def thermalWorked (ctrl : Prop) (b : Bank) (headroom : Nat) (x : Socket) (z : Thermal) : Prop :=
  let n := x.gate.shadow.num
  let h := boundFor b headroom n
  let cooler : Int := n.coolerLimit
  let loaded : Prop := z.preload = z.u ∧ z.grant = z.u.toNat * n.heaterFullScale / 1024
  let cleared (u : Int) : Prop := z.u = u ∧ z.preload = u ∧ z.iAcc = 0 ∧ z.sat = .none ∧
    z.grant = 0 ∧ z.runaway = 0
  z.ceiling = ceilingFor b headroom n ∧ z.hMax = h ∧
  (¬ctrl → x.sensor.st ≠ .lost → cleared 0) ∧
  (x.sensor.st = .noSample → cleared 0) ∧
  (ctrl → x.sensor.st = .invalid → loaded ∧ z.u = max (-cooler) (min h x.thermal.u) ∧
    z.iAcc = x.thermal.iAcc ∧ z.sat = x.thermal.sat ∧ z.runaway = 0) ∧
  (ctrl → x.sensor.st = .lost → cleared (-cooler)) ∧
  (¬ctrl → x.sensor.st = .lost → cleared 0) ∧
  ∀ tf, ctrl → x.sensor.st = .tracking ∨ x.sensor.st = .suspect → x.sensor.tf = some tf →
    let e := errorFor n tf
    loaded ∧ z.u = outputFor n h tf x.thermal ∧ z.iAcc = accFor n tf x.thermal ∧
    (z.u = h → 0 < e → z.sat = .high) ∧
    ((z.u ≠ h ∨ e ≤ 0) → z.u = -cooler → e < 0 → z.sat = .low) ∧
    ((z.u ≠ h ∨ e ≤ 0) → (z.u ≠ -cooler ∨ 0 ≤ e) → z.sat = .none) ∧
    (hot n h tf x.thermal → x.thermal.runaway < 9 → z.runaway = x.thermal.runaway + 1) ∧
    (hot n h tf x.thermal → 9 ≤ x.thermal.runaway → z.runaway = 0) ∧
    (¬hot n h tf x.thermal → z.runaway = 0)

/-- The thermal state that a visit leaves its socket, where the visit ends no phase, or completes the socket
held powered on a RUNNING board (R110): that of the thermal work on the settings in force after the gate
decision, with the headroom of R93. -/
def visitWorksThermal (s t : State) (i : SocketIx) : Prop :=
  let x : Socket := { s.sock i with gate := (t.sock i).gate }
  let p := x.acct.phase
  let q := (t.sock i).acct.phase
  let held : Prop := x.gate.shadow.endAction = .holdPowered ∧ x.gate.shadow.enable = true ∧
    s.brc.state = .running
  q = p ∨ (p = .soaking ∧ q = .stressing) ∨
      ((p = .soaking ∨ p = .stressing) ∧ q = .complete ∧ held) →
    thermalWorked (controlled (s.ctx i) x) s.banks[bankOf i] (headroomOf s i) x (t.sock i).thermal

/-- R29, R16, R28, R42, R46, R93, R94, R108, R113: an SCR read whose stored record holds bad parity keeps
shadow, counts and synchronization, counts the stale visit, reports CONTROL_STALE once a run of them reaches
Stale Limit, and makes the visit's thermal work, its accounting and its records; the other sockets are
untouched. It is stated for a visit at which no event of another block or of the host falls (log entries 37 and 40); the
others are in `Obligations.CreditingIsBounded` and `Obligations.WriteTransfersStoreTheirRecord`. A COMPLETE socket
is under control only with Enable 1 (log entry 17). -/
def Obligations.StaleVisitsKeepTheShadow : Prop :=
  ∀ (s : State) (u : BitVec 3) (o : VisitOrder) (i : SocketIx), s.pins.por = false →
    s.transferring = some (.scrRead i) → o.quiet = true →
    (s.readRecord (scrBase i) 64 u).isNone = true →
    let g := (s.sock i).gate
    let reach : Bool := s.scu.config.staleLimit ≤ min 65535 (g.staleCount + 1)
    ∃ t, exec (.scrReadComplete u o) s = .next t ∧
      t = { s with sockets := t.sockets, smc := t.smc, scu := t.scu } ∧
      t.scu = { s.scu with visit := t.scu.visit } ∧
      (∀ j : SocketIx, j ≠ i → t.sock j = s.sock j) ∧
      (t.sock i).gate.shadow = g.shadow ∧ (t.sock i).gate.acked = g.acked ∧
      (t.sock i).gate.failWritten = g.failWritten ∧ (t.sock i).gate.synced = g.synced ∧
      (t.sock i).gate.appliedRev = g.appliedRev ∧
      (t.sock i).gate.staleCount = min 65535 (g.staleCount + 1) ∧
      (t.sock i).gate.staleReported = (g.staleReported || reach) ∧
      t.smc.attention.getLsbD Cause.controlStale.bit =
        (s.smc.attention.getLsbD Cause.controlStale.bit || (!g.staleReported && reach)) ∧
      (t.sock i).gate.adoptionResult = .stale ∧
      (t.sock i).acct.prevVisit = some s.time.runMs ∧ visitWorksThermal s t i ∧
      (s.smc.scanWaiting = none → visitGoesOn s t i (movesOf (t.sock i)) false)

/-- The phase decisions of a visit whose thermal work ends no phase and which adopts no Enable (R163, R166,
R171): the soak test, the completion test on the Dwell just credited, and the interval that begins. -/
def visitDecides (x y : Socket) : Prop :=
  let n := x.gate.shadow.num
  let soaked : Prop := x.acct.phase = .soaking ∧ n.soakTime * 1000 ≤ x.sensor.inWindowMs
  let stressing : Prop := x.acct.phase = .stressing ∨ soaked
  (stressing → y.acct.dwellSec < n.targetDwell →
    y.acct.phase = .stressing ∧ y.acct.stressedAtStart = true ∧ y.acct.spoil = false ∧
    (soaked → y.ex.st = if x.ex.suspendFlag then .suspended else .armed)) ∧
  (stressing → n.targetDwell ≤ y.acct.dwellSec →
    y.acct.phase = .complete ∧ y.acct.resume = .none ∧ y.acct.stressedAtStart = false ∧
    y.acct.bin = (if x.acct.strikes = 0 then .pass else .passWithEvents) ∧
    (x.ex.st ≠ .diag → y.ex.st = .stopped) ∧
    (x.gate.shadow.endAction = .powerOff → y.thermal.u = 0 ∧ y.thermal.grant = 0 ∧
      (x.rail.st.checked = true → y.rail.st = .rampDown)) ∧
    (x.gate.shadow.endAction = .holdPowered → y.rail = x.rail)) ∧
  (¬stressing → y.acct.phase = x.acct.phase ∧ y.acct.stressedAtStart = false ∧
    y.acct.spoil = false ∧ y.acct.resume = x.acct.resume ∧ y.acct.bin = x.acct.bin ∧ y.rail = x.rail) ∧
  y.acct.leftStress = false

/-- R31, R37, R41, R163, R166, R172, R93, R94, R108, R113, R42, R46: the first good SCR read takes Revision
and Fail Ack Count as seen and adopts nothing; a later one whose Revision is unchanged takes its Fail Ack
Count and keeps the shadow. Either ends the run of stale visits, makes the thermal work, credits the
interval, makes the soak and the completion test and goes on to its records, and no other socket is touched.
The crediting and the decisions are stated for a socket whose THERMAL conditions do not end its phase; the
late bound is that of the Sweep Period that the sweep timer runs with (log entry 42). It is stated for a
visit at which no event of another block or of the host falls (log entries 37 and 40); the others are in
`Obligations.CreditingIsBounded` and `Obligations.WriteTransfersStoreTheirRecord`. A COMPLETE socket is under control
only with Enable 1 (log entry 17). -/
def Obligations.GoodVisitsTakeTheirRecord : Prop :=
  ∀ (s : State) (u : BitVec 3) (o : VisitOrder) (i : SocketIx) (r : List Word),
    s.pins.por = false → s.transferring = some (.scrRead i) → o.quiet = true →
    s.readRecord (scrBase i) 64 u = some r →
    (s.sock i).gate.synced = false ∨ field8 r 0 = (s.sock i).gate.appliedRev →
    ∃ t, exec (.scrReadComplete u o) s = .next t ∧
      t = { s with sockets := t.sockets, smc := t.smc, scu := t.scu } ∧
      t.scu = { s.scu with visit := t.scu.visit } ∧
      (∀ j : SocketIx, j ≠ i → t.sock j = s.sock j) ∧
      (t.sock i).gate.synced = true ∧ (t.sock i).gate.staleCount = 0 ∧
      (t.sock i).gate.staleReported = false ∧
      (t.sock i).gate.shadow = (s.sock i).gate.shadow ∧
      (t.sock i).gate.appliedRev = field8 r 0 ∧
      (t.sock i).acct.prevVisit = some s.time.runMs ∧
      ((s.sock i).gate.synced = false →
        (t.sock i).gate.failWritten = field8 r 1 ∧ (t.sock i).gate.acked = field8 r 1 ∧
        (t.sock i).gate.adoptionResult = .rejected ∧
        (t.sock i).gate.rejectReason = .synchronizing ∧ (t.sock i).gate.clampedCount = 0) ∧
      ((s.sock i).gate.synced = true →
        (t.sock i).gate.failWritten = (s.sock i).gate.failWritten ∧
        (t.sock i).gate.acked = (if ((s.sock i).gate.failWritten - field8 r 1).toNat ≤ 8
          then field8 r 1 else (s.sock i).gate.acked) ∧
        (t.sock i).gate.adoptionResult = (s.sock i).gate.result) ∧
      ((s.sock i).gate.shadow.kindActions[Kind.thermal.ix] = .ignore ∨
          (s.sock i).gate.shadow.kindActions[Kind.thermal.ix] = .log →
        visitDecides (s.sock i) (t.sock i) ∧
        ((t.sock i).acct.phase = .complete → (s.sock i).acct.phase ≠ .complete →
          t.smc.attention.getLsbD Cause.socketEnded.bit = true) ∧
        ((s.sock i).acct.prevVisit = none →
          (t.sock i).acct.dwellSec = (s.sock i).acct.dwellSec ∧
          (t.sock i).acct.dwellMs = (s.sock i).acct.dwellMs ∧
          (t.sock i).acct.lateCount = (s.sock i).acct.lateCount) ∧
        ∀ p, (s.sock i).acct.prevVisit = some p →
          credited (s.time.runMs - p).toNat s.scu.interval (s.sock i).acct
            (t.sock i).acct) ∧
      visitWorksThermal s t i ∧
      (s.smc.scanWaiting = none → visitGoesOn s t i (movesOf (t.sock i)) false)

/-- R41: a Fail Ack Count is accepted when it lies within 8 of Fail Written Count, and pending then lies
between 0 and 8. -/
def Obligations.AcknowledgementsWithinEight : Prop :=
  ∀ (g : Gate) (ack : Byte8),
    ((g.failWritten - ack).toNat ≤ 8 → (g.takeAck ack).acked = ack) ∧
    (8 < (g.failWritten - ack).toNat → g.takeAck ack = g) ∧
    (g.pendingCount ≤ 8 → (g.takeAck ack).pendingCount ≤ 8) ∧
    (g.takeAck ack).failWritten = g.failWritten

/-- Whether a condition of a kind ends its socket's run (R175, R180): its action is RETIRE, or STRIKE at the
strike that reaches Strike Limit. -/
def conditionEnds (k : Kind) (x : Socket) : Prop :=
  let act := x.gate.shadow.kindActions[k.ix]
  x.acct.phase.reporting = true ∧
    (act = .retire ∨ (act = .strike ∧ x.gate.shadow.num.strikeLimit ≤ x.acct.strikes + 1))

/-- What a condition of kind `k`, other than a THERMAL ABS_LIMIT, does to the accounts of a socket whose Dwell
Seconds stand at `dwell` (R174, R175, R177 to R181): its Kind Count, its record with subcode and details, First Fail
Dwell at the first record, its strike and its retirement; outside the reporting phases nothing. -/
def conditionTaken (k : Kind) (sub : Nat) (details : List Word) (dwell : Nat) (x y : Socket) : Prop :=
  let a := x.acct
  let b := y.acct
  let act := x.gate.shadow.kindActions[k.ix]
  (a.phase.reporting = false → b.phase = a.phase ∧ b.kindCount = a.kindCount ∧
    b.failTotal = a.failTotal ∧ b.staging = a.staging ∧ b.strikes = a.strikes ∧ b.bin = a.bin ∧
    b.firstFailDwell = a.firstFailDwell) ∧
  (a.phase.reporting = true → b.kindCount[k.ix] = min 65535 (a.kindCount[k.ix] + 1) ∧
    b.strikes = (if act = .strike then a.strikes + 1 else a.strikes) ∧
    (act = .ignore → b.failTotal = a.failTotal ∧ b.staging = a.staging ∧
      b.firstFailDwell = a.firstFailDwell) ∧
    (act ≠ .ignore → b.failTotal = a.failTotal + 1 ∧
      b.firstFailDwell = (if a.firstFailDwell = 0xFFFFFFFF then BitVec.ofNat 32 dwell
        else a.firstFailDwell) ∧
      (a.staging.length < 4 → ∃ f : FailRecord, b.staging = a.staging ++ [f] ∧ f.kind = k ∧
        f.subcode = sub ∧ f.details = details ∧ f.phase = a.phase ∧ f.dwell = dwell ∧
        f.voltage = y.rail.voltage ∧
        f.current = y.rail.current ∧ f.sequence = (a.failTotal + 1).extractLsb' 0 16) ∧
      (4 ≤ a.staging.length → b.staging = a.staging ∧ b.detailLost = a.detailLost + 1))) ∧
  (conditionEnds k x → b.phase = .retired ∧ b.resume = .none ∧ b.retireKind = .kind k ∧
    b.bin = (RetireKind.kind k).bin)

/-- What the adoption of Enable does to a socket whose THERMAL conditions do not end its phase (R160, R167,
R166, R102), with the settings `st` just adopted. Its clause on a locked bank takes in a LOST sensor, whose
loss is handed on after the chain entry order (log entry 21). -/
def enableTaken (board : BoardState) (b : Bank) (st : Settings) (x y : Socket) : Prop :=
  let live : Prop := board = .running ∨ board = .holding
  let waits : Socket := { x with
    gate := { x.gate with shadow := st }, acct := { x.acct with phase := .waiting } }
  let lossEnds : Prop := x.sensor.st = .lost ∧ conditionEnds .sensorLost waits
  let accounted : Prop :=
    (x.sensor.st = .lost → conditionTaken .sensorLost 0 [x.sensor.raw] y.acct.dwellSec waits y) ∧
    (x.sensor.st ≠ .lost → y.acct.kindCount = x.acct.kindCount)
  (st.enable = false → x.acct.phase.reporting = true →
    y.acct.phase = .empty ∧ y.acct.resume = .none ∧
    y.acct.bin = (if x.acct.phase = .waiting then x.acct.bin else .incomplete) ∧
    y.thermal.u = 0 ∧ y.thermal.grant = 0 ∧
    (x.rail.st.checked = true → y.rail.st = .rampDown) ∧
    (x.rail.st = .chainWait ∨ x.rail.st = .holdOff → y.rail.st = .off)) ∧
  (st.enable = true → x.acct.phase = .empty → ¬live → accounted ∧
    (¬lossEnds → y.acct.phase = .waiting)) ∧
  (st.enable = true → x.acct.phase = .empty → live → b.locked = true →
    y.acct.phase = .retired ∧ y.acct.retireKind = .bankLock ∧ y.acct.bin = .boardFault) ∧
  (st.enable = true → x.acct.phase = .empty → live → b.locked = false → x.rail.st = .off →
    accounted ∧ (lossEnds → y.rail.st = .off) ∧
    (¬lossEnds → y.acct.phase = .waiting ∧
      (b.holdOff = none → y.rail.st = .chainWait) ∧
      (∀ e, b.holdOff = some e → y.rail.st = .holdOff ∧ y.rail.holdOff = some (.bank, e)))) ∧
  (x.acct.phase = .complete → st.endAction = .powerOff ∨ st.enable = false →
    y.acct.phase = .complete ∧ y.acct.bin = x.acct.bin ∧
    (x.rail.st.checked = true → y.rail.st = .rampDown)) ∧
  (x.acct.phase = .retired → y.acct.phase = .retired ∧ y.acct.bin = x.acct.bin)

/-- What adopted rail settings do to the rail (R71, R76, R86, R68): a changed Rail Setpoint returns a rail in
SETTLE to RAMP_UP and puts one in ON in SLEW, the DAC target left where it stands; a changed Fast Current Limit
is the new threshold. -/
def railAdopted (old new : Numbers) (r q : Rail) : Prop :=
  let sent : Rail := { r with
    threshold := if old.fastLimit = new.fastLimit then r.threshold else new.fastLimit }
  (old.railSetpoint = new.railSetpoint → q = sent) ∧
  (old.railSetpoint ≠ new.railSetpoint →
    (r.st = .settle → q = { sent with st := .rampUp, settleCount := 0, ownSample := false }) ∧
    (r.st = .on → q = { sent with st := .slew, window := [], dropCount := 0, worstDrop := 0 }) ∧
    (r.st ≠ .settle → r.st ≠ .on → q = sent))

/-- What an adoption does to the exercise of a socket in a phase (R135, R136): the mode becomes pending, the
suspension flag is cleared, and a SUSPENDED socket becomes ARMED while STRESSING and PAUSED while HELD. -/
def exerciseAdopted (mode : ExMode) (phase : Phase) (e f : Exercise) : Prop :=
  f.pendingMode = mode ∧ f.suspendFlag = false ∧
  (e.st = .suspended → phase = .stressing → f.st = .armed ∧ f.onsetArmed = true) ∧
  (e.st = .suspended → phase = .held → f.st = .paused) ∧
  (e.st ≠ .suspended ∨ (phase ≠ .stressing ∧ phase ≠ .held) → f.st = e.st)

/-- R37, R40: an unchanged Revision changes nothing; a rejected record keeps the shadow; an accepted one
replaces it, ADOPTED when no field was clamped. In every case of a change Applied Revision takes the
Revision read. R160, R167, R166: at the end of the SCR read of a synchronized socket the gate so decides,
and the Enable adopted puts an EMPTY socket in WAITING, withdraws one in a reporting phase, and powers a
COMPLETE one down where the adoption says so. That the chain entry order comes before the loss of a LOST
sensor, which in a locked bank leaves the retirement to BANK_LOCK, is the model's reading (log entry 21).
R93, R94, R108, R113: the visit's thermal work uses the settings so adopted. R71, R76, R86, R135, R136: an
accepted record hands its settings to the rail and the exercise, and where the visit ends in the phase in
which it began the rail and a SUSPENDED exercise stand as that hand-over left them. It is stated for a visit
at which no event of another block or of the host falls (log entries 37 and 40). A COMPLETE socket is under control
only with Enable 1 (log entry 17). -/
def Obligations.RevisionGateAdoptsWhole : Prop :=
  (∀ (cfg : BoardConfig) (m : LaneMap) (i : SocketIx) (r : List Word) (x : Socket),
    (field8 r 0 = x.gate.appliedRev → x.revisionGate cfg m i r = (x, none)) ∧
    (field8 r 0 ≠ x.gate.appliedRev →
      (x.revisionGate cfg m i r).1.gate.appliedRev = field8 r 0 ∧
      (∀ why, judgeRecord cfg m i r = .rejected why →
        (x.revisionGate cfg m i r).1 = { x with gate := { x.gate with
          appliedRev := field8 r 0, result := .rejected, rejectReason := why
          clampedCount := 0 } }) ∧
      (∀ st n, judgeRecord cfg m i r = .accepted st n →
        (x.revisionGate cfg m i r).1.gate = { x.gate with
          appliedRev := field8 r 0, result := if n = 0 then .adopted else .clamped
          rejectReason := .none, clampedCount := n, shadow := st } ∧
        railAdopted x.gate.shadow.num st.num x.rail (x.revisionGate cfg m i r).1.rail ∧
        exerciseAdopted st.mode x.acct.phase x.ex (x.revisionGate cfg m i r).1.ex))) ∧
  ∀ (s : State) (u : BitVec 3) (o : VisitOrder) (i : SocketIx) (r : List Word),
    s.pins.por = false → s.transferring = some (.scrRead i) → o.quiet = true →
    s.readRecord (scrBase i) 64 u = some r → (s.sock i).gate.synced = true →
    field8 r 0 ≠ (s.sock i).gate.appliedRev →
    let g := (s.sock i).gate
    let acked := if (g.failWritten - field8 r 1).toNat ≤ 8 then field8 r 1 else g.acked
    let verdict := judgeRecord s.scu.config s.pxr.active i r
    ∃ t, exec (.scrReadComplete u o) s = .next t ∧
      t = { s with sockets := t.sockets, smc := t.smc, scu := t.scu } ∧
      t.scu = { s.scu with visit := t.scu.visit } ∧
      (∀ j : SocketIx, j ≠ i → t.sock j = s.sock j) ∧
      (∀ why, verdict = .rejected why → (t.sock i).gate = { g with
        acked := acked, staleCount := 0, staleVisit := false, staleReported := false
        appliedRev := field8 r 0, result := .rejected, rejectReason := why, clampedCount := 0 }) ∧
      (∀ st n, verdict = .accepted st n →
        (t.sock i).gate = { g with
          acked := acked, staleCount := 0, staleVisit := false, staleReported := false
          appliedRev := field8 r 0, result := if n = 0 then .adopted else .clamped
          rejectReason := .none, clampedCount := n, shadow := st } ∧
        (t.sock i).ex.pendingMode = st.mode ∧ (t.sock i).rail.threshold = (
          if g.shadow.num.fastLimit = st.num.fastLimit then (s.sock i).rail.threshold
          else st.num.fastLimit) ∧
        (t.sock i).ex.suspendFlag = false ∧
        ((t.sock i).acct.phase = (s.sock i).acct.phase →
          ((s.sock i).acct.phase ≠ .complete ∨ (st.endAction = .holdPowered ∧ st.enable = true) →
            railAdopted g.shadow.num st.num (s.sock i).rail (t.sock i).rail) ∧
          exerciseAdopted st.mode (s.sock i).acct.phase (s.sock i).ex (t.sock i).ex) ∧
        (st.kindActions[Kind.thermal.ix] = .ignore ∨ st.kindActions[Kind.thermal.ix] = .log →
          enableTaken s.brc.state s.banks[bankOf i] st (s.sock i) (t.sock i))) ∧
      visitWorksThermal s t i ∧
      (s.smc.scanWaiting = none → visitGoesOn s t i (movesOf (t.sock i)) false)

/-- The 31 numeric fields of a Socket Control Record, in the order of TABLE 2-2, read from the words of TABLE 12-3,
held as validated numbers. The limit of Compare Window Length is taken with the Compare Window Start held, which stands
before it in the table. -/
def scrFields (cfg : BoardConfig) (r : List Word) (v : Numbers) : List FieldCheck :=
  let w (k : Nat) : Int := (field r k).toNat
  let lastVector : Nat := cfg.frameLength - 1
  let vectorsLeft : Nat := cfg.frameLength - v.winStart
  [{ read := w 3, low := 400, high := 2500, held := v.railSetpoint },
   { read := w 4, low := 1, high := 250, held := v.rampRate },
   { read := w 5, low := 1, high := 1000, held := v.settleTimeout },
   { read := w 6, low := 5, high := 250, held := v.regTolerance },
   { read := w 7, low := 100, high := 30000, held := v.fastLimit },
   { read := w 8, low := 100, high := 30000, limit := some v.fastLimit, held := v.slowLimit },
   { read := w 9, low := 0, high := 5000, held := v.minCurrent },
   { read := w 10, low := 0, high := 7, held := v.tripRetryLimit },
   { read := w 11, low := 100, high := 60000, held := v.tripHoldOff },
   { read := (field r 12).toInt, low := -640, high := 3200, limit := some (cfg.absLimit - 16)
     held := v.tempSetpoint },
   { read := w 13, low := 8, high := 800, held := v.tempWindow },
   { read := w 14, low := 0, high := 4095, held := v.kp },
   { read := w 15, low := 0, high := 1023, held := v.ki },
   { read := w 16, low := 0, high := 4, held := v.filterShift },
   { read := w 17, low := 100, high := 20000, held := v.heaterFullScale },
   { read := w 18, low := 0, high := 1023, held := v.heaterLimit },
   { read := w 19, low := 0, high := 1023, held := v.coolerLimit },
   { read := w 20, low := 16, high := 1600, held := v.runawayMargin },
   { read := w 21, low := 0, high := 7200, held := v.soakTime },
   { read := w 22, low := 60, high := 14400, held := v.soakLimit },
   { read := w 24, low := 0, high := 65535, limit := some lastVector, held := v.winStart },
   { read := w 25, low := 1, high := 65535, limit := some vectorsLeft, held := v.winLength },
   { read := w 26, low := 1, high := 65535, held := v.errThreshold },
   { read := w 27, low := 0, high := 15, held := v.startLane },
   { read := w 28, low := 0, high := 15, held := v.doneLane },
   { read := w 29, low := 0, high := 15, held := v.passLane },
   { read := w 30, low := 0, high := 65535, held := v.startDelay },
   { read := w 31, low := 1, high := 65535, held := v.startWidth },
   { read := (field32 r 32).toNat, low := 1, high := 600000, held := v.doneTimeout },
   { read := (field32 r 34).toNat, low := 1, high := 3600000, held := v.targetDwell },
   { read := w 36, low := 1, high := 15, held := v.strikeLimit }]

/-- Enable, Exercise Mode, End Action and the eight Kind Actions hold codes of TABLE 12-3 (the code check of R38). -/
def codesListed (r : List Word) : Prop :=
  (field r 2).toNat ≤ 1 ∧ (field r 23).toNat ≤ 2 ∧ (field r 37).toNat ≤ 1 ∧
  ∀ k : Kind, (field r (37 + k.code)).toNat ≤ 3

/-- The settings that validation makes of a record whose codes are listed (R38, TABLE 2-2, TABLE 12-3). -/
def settingsValidated (cfg : BoardConfig) (r : List Word) (st : Settings) : Prop :=
  (∀ f ∈ scrFields cfg r st.num, f.valid) ∧
  (st.enable = true ↔ field r 2 = 1) ∧ (st.mode = .idle ↔ field r 23 = 0) ∧
  (st.mode = .pattern ↔ field r 23 = 1) ∧ (st.mode = .selftest ↔ field r 23 = 2) ∧
  (st.endAction = .powerOff ↔ field r 37 = 0) ∧ (st.endAction = .holdPowered ↔ field r 37 = 1) ∧
  ∀ k : Kind, let w := field r (37 + k.code)
    let act := st.kindActions[k.ix]
    (act = .ignore ↔ w = 0) ∧ (act = .log ↔ w = 1) ∧ (act = .strike ↔ w = 2) ∧ (act = .retire ↔ w = 3)

/-- The lane roles pass (R39): Start Lane DRIVE, Done Lane and Pass Lane SENSE in the active map. -/
def rolesPass (m : LaneMap) (i : SocketIx) (v : Numbers) : Prop := ∀ l : LaneIx,
  (l.val = v.startLane → m[i][l].direction = .drive) ∧
  (l.val = v.doneLane ∨ l.val = v.passLane → m[i][l].direction = .sense)

/-- R38, R39, R40, R187, TABLE 2-2, TABLE 12-3: which records a changed Revision has accepted, and with what settings. An
undefined code rejects with BAD_CODE; in SELFTEST lane roles that do not pass reject with LANE_ROLE; every other record
is accepted, each numeric field as read, at the nearest limit of its range, or at its cross-field limit, with the number
of fields so changed as its Clamped Count. So, whatever record is accepted, every numeric field of its settings lies
within its range and its cross-field limit, and the lane roles of a SELFTEST record fit the active map. In this second
part the lower limit of Temperature Setpoint is stated for an Absolute Temperature Limit within its own range, and the
limits by the frame for a Frame Length within its own. -/
def Obligations.AcceptedSettingsLieInRange : Prop :=
  (∀ (cfg : BoardConfig) (m : LaneMap) (i : SocketIx) (r : List Word),
    (¬codesListed r → judgeRecord cfg m i r = .rejected .badCode) ∧
    (codesListed r → ∃ st : Settings, settingsValidated cfg r st ∧
      (st.mode = .selftest → ¬rolesPass m i st.num → judgeRecord cfg m i r = .rejected .laneRole) ∧
      (st.mode ≠ .selftest ∨ rolesPass m i st.num → judgeRecord cfg m i r = .accepted st
        ((scrFields cfg r st.num).countP fun f => decide (f.held ≠ f.read))))) ∧
  ∀ (cfg : BoardConfig) (m : LaneMap) (i : SocketIx) (r : List Word) (st : Settings) (n : Nat),
    1024 ≤ cfg.frameLength → judgeRecord cfg m i r = .accepted st n →
    let v := st.num
    (400 ≤ v.railSetpoint ∧ v.railSetpoint ≤ 2500) ∧ (1 ≤ v.rampRate ∧ v.rampRate ≤ 250) ∧
    (1 ≤ v.settleTimeout ∧ v.settleTimeout ≤ 1000) ∧
    (5 ≤ v.regTolerance ∧ v.regTolerance ≤ 250) ∧
    (100 ≤ v.fastLimit ∧ v.fastLimit ≤ 30000) ∧
    (100 ≤ v.slowLimit ∧ v.slowLimit ≤ v.fastLimit) ∧ v.minCurrent ≤ 5000 ∧
    v.tripRetryLimit ≤ 7 ∧ (100 ≤ v.tripHoldOff ∧ v.tripHoldOff ≤ 60000) ∧
    (v.tempSetpoint ≤ 3200 ∧ v.tempSetpoint ≤ cfg.absLimit - 16 ∧
      (800 ≤ cfg.absLimit → -640 ≤ v.tempSetpoint)) ∧
    (8 ≤ v.tempWindow ∧ v.tempWindow ≤ 800) ∧ v.kp ≤ 4095 ∧ v.ki ≤ 1023 ∧ v.filterShift ≤ 4 ∧
    (100 ≤ v.heaterFullScale ∧ v.heaterFullScale ≤ 20000) ∧ v.heaterLimit ≤ 1023 ∧
    v.coolerLimit ≤ 1023 ∧ (16 ≤ v.runawayMargin ∧ v.runawayMargin ≤ 1600) ∧
    v.soakTime ≤ 7200 ∧ (60 ≤ v.soakLimit ∧ v.soakLimit ≤ 14400) ∧
    v.winStart ≤ cfg.frameLength - 1 ∧
    (1 ≤ v.winLength ∧ v.winStart + v.winLength ≤ cfg.frameLength) ∧
    v.winStart ≤ 65535 ∧ v.winLength ≤ 65535 ∧ (1 ≤ v.errThreshold ∧ v.errThreshold ≤ 65535) ∧
    v.startLane ≤ 15 ∧ v.doneLane ≤ 15 ∧ v.passLane ≤ 15 ∧ v.startDelay ≤ 65535 ∧
    (1 ≤ v.startWidth ∧ v.startWidth ≤ 65535) ∧ (1 ≤ v.doneTimeout ∧ v.doneTimeout ≤ 600000) ∧
    (1 ≤ v.targetDwell ∧ v.targetDwell ≤ 3600000) ∧ (1 ≤ v.strikeLimit ∧ v.strikeLimit ≤ 15) ∧
    (st.mode = .selftest → rolesFit m i v = true)

/-- R118, R120: the SCR read whose control update reaches the tenth runaway update leaves the runaway count
0 and raises THERMAL RUNAWAY; the one whose update finds the soak timed out leaves the soak timer 0 and
raises THERMAL SOAK_TIMEOUT, each with the Setpoint and the Thermal Output of the update as its details. Both end
the SCR read transfer as R28 states. Where the thermal work comes before the phase decisions, the one is an update
with T_f above Setpoint plus Runaway Margin and u at minus the Cooler Limit at a count of 9, and the other one of a
SOAKING socket whose timer is at or above Soak Limit; at other updates the count moves as `thermalWorked` says.
That each row is the row SCR_READ_COMPLETE where it has that outcome is log entry 7. What the row leaves is stated
for a visit at which no event of another block or of the host falls (log entries 37 and 40), and the condition where
one of the two is raised and the thermal work comes before the phase decisions (log entry 19). A COMPLETE socket is
under control only with Enable 1 (log entry 17). -/
def Obligations.RunawayAndSoakTimeoutClearTheirCounts : Prop :=
  ∀ (s : State) (u : BitVec 3) (o : VisitOrder) (i : SocketIx), s.pins.por = false →
    s.transferring = some (.scrRead i) →
    let y := ((s.sock i).takeRecord s.scu.config s.pxr.active i
      (s.readRecord (scrBase i) 64 u)).1
    let n := y.gate.shadow.num
    let h := boundFor s.banks[bankOf i] (headroomOf s i) n
    let early : Prop := o.thermal = .first ∨ o.thermal = .afterCredit
    let updates (tf : Int) : Prop := controlled (s.ctx i) y ∧ y.sensor.tf = some tf ∧
      (y.sensor.st = .tracking ∨ y.sensor.st = .suspect)
    let runs (tf : Int) : Prop := 9 ≤ y.thermal.runaway ∧ hot n h tf y.thermal
    let soaks : Prop := y.acct.phase = .soaking ∧ n.soakLimit * 1000 ≤ y.thermal.soakMs
    let raises (sub : Nat) (tf : Int) (t : State) : Prop := y.acct.phase.reporting = true →
      conditionTaken .thermal sub
        [BitVec.ofInt 16 n.tempSetpoint, BitVec.ofInt 16 (outputFor n h tf y.thermal)]
        (if o.thermal = .first then y.acct.dwellSec else (t.sock i).acct.dwellSec) y (t.sock i)
    (s.reachesRunaway u o = true → ∃ t, exec (.runaway u o) s = .next t ∧
      exec (.scrReadComplete u o) s = .next t ∧
      (o.quiet = true → (t.sock i).thermal.runaway = 0 ∧
        ∀ j : SocketIx, j ≠ i → t.sock j = s.sock j)) ∧
    (s.reachesSoakTimeout u o = true → ∃ t, exec (.soakTimeout u o) s = .next t ∧
      exec (.scrReadComplete u o) s = .next t ∧
      (o.quiet = true → (t.sock i).thermal.soakMs = 0 ∧
        ∀ j : SocketIx, j ≠ i → t.sock j = s.sock j)) ∧
    (o.quiet = true → early →
      (s.reachesRunaway u o = true ↔ ∃ tf, updates tf ∧ runs tf) ∧
      (s.reachesSoakTimeout u o = true ↔ (∃ tf, updates tf) ∧ soaks)) ∧
    ∀ tf, o.quiet = true → early → updates tf →
      (runs tf → ∃ t, exec (.runaway u o) s = .next t ∧ exec (.scrReadComplete u o) s = .next t ∧
        (t.sock i).thermal.runaway = 0 ∧ (t.sock i).acct.prevVisit = some s.time.runMs ∧
        (¬soaks → raises 1 tf t)) ∧
      (soaks → ∃ t, exec (.soakTimeout u o) s = .next t ∧
        exec (.scrReadComplete u o) s = .next t ∧ (t.sock i).thermal.soakMs = 0 ∧
        (t.sock i).acct.prevVisit = some s.time.runMs ∧ (¬runs tf → raises 3 tf t))

/-- The end of a sweep (R25, R26, R32, R58, R132): the sweep is over, with the synchronized flag set once the
header and all sockets are synchronized; a fill in progress writes its entry into the sockets of one half;
and a deferred start begins the next sweep, whose BCR read is asked for. -/
def sweepEnds (s t : State) : Prop :=
  let synced := s.scu.syncFlag || (s.scu.headerSynced &&
    (List.finRange 32).all fun i => (s.sock i).gate.synced)
  let entry (ch : Channel) : LaneEntry :=
    { direction := ch.fillDirection, source := .constant, constant := ch.fillLevel == .high
      idle := ch.fillLevel, invert := false, compare := false, delay := 0 }
  (s.scu.deferred = false → t.scu = { s.scu with
      running := false, visit := .idle, syncFlag := synced, chunkIndex := t.scu.chunkIndex } ∧
    (s.smc.hostWaiting = false → s.smc.scanWaiting = none → t.smc.owner = .none)) ∧
  (s.scu.deferred = true → t.scu = { s.scu with
      running := true, visit := .header, syncFlag := synced, deferred := false
      sweepNumber := s.scu.sweepNumber + 1, chunkIndex := t.scu.chunkIndex } ∧
    (s.smc.scanWaiting = none → asksFor t.smc s.smc.hostWaiting .bcrRead)) ∧
  ∀ ch, s.brc.channel = some ch → ch.code = .fillLaneMap →
    ∀ (second : Bool) (next : CmdStep), (second, ch.step, next) ∈
        [(false, CmdStep.firstHalf, CmdStep.secondHalf), (true, .secondHalf, .doneWait)] →
      t.brc = { s.brc with channel := some { ch with step := next } } ∧
      t.pxr = { s.pxr with active := t.pxr.active } ∧
      ∀ (i : SocketIx) (l : LaneIx), t.pxr.active[i][l] =
        if decide (16 ≤ i.val) = second then entry ch else s.pxr.active[i][l]

/-- The row of an event that falls while the memory port is free of transfers (log entries 37 and 40). -/
def eventRow : VisitEvent → Instr
  | .senseTick => .senseTick
  | .railSample i v c => .railSample i v c
  | .dropout i v c => .dropout i v c
  | .openContact i v c => .openContact i v c
  | .fastTrip i level => .fastTrip i level
  | .chainStart b => .chainStart b
  | .socketHoldOffExpiry i => .socketHoldOffExpiry i
  | .bankFeedSample b c => .bankFeedSample b c
  | .bankHoldOffExpiry b => .bankHoldOffExpiry b
  | .sensorSample i code => .sensorSample i code
  | .pwmTick => .pwmTick
  | .frameBoundary => .frameBoundary
  | .laneVectorSample recv loop onTick => .laneVectorSample recv loop onTick
  | .selftestTimeout i => .selftestTimeout i
  | .interlockAssert => .interlockAssert
  | .interlockRelease => .interlockRelease
  | .hostMemoryRead addr => .hostMemoryRead ⟨addr, false⟩
  | .hostMemoryWrite addr data => .hostMemoryWrite ⟨addr, false⟩ data
  | .hostCycleWithoutAccess n => .hostCycleWithoutAccess n
  | .hostAccessComplete => .hostAccessComplete
  | .hostStrobeRelease => .hostStrobeRelease
  | .attentionWrite data => .attentionWrite 2 data
  | .attentionMaskWrite data => .attentionMaskWrite 3 data
  | .registerWriteIgnored => .registerWriteIgnored 1 0
  | .scanDisable => .scanDisable 0 0
  | .scanEnable => .scanEnableSet 0 1
  | .sweepStart => .sweepStart

/-- The events of a gap fall one after the other, each with what its row does. -/
def fallsIn : List VisitEvent → State → State → Prop
  | [], p, q => q = p
  | e :: es, p, q => ∃ r, exec (eventRow e) p = .next r ∧ fallsIn es r q

/-- The row that ends a transfer, with the events of the gap before the next (R13). -/
def transferEnds (u : BitVec 3) (o : VisitOrder) (gap : List VisitEvent) : Transfer → Instr
  | .bcrRead => .bcrReadComplete u gap
  | .bsrWrite _ => .bsrWriteComplete gap
  | .scrRead _ => .scrReadComplete u { o with gap4 := gap }
  | .failWrite _ _ _ => .failRecordWriteComplete gap
  | .ssrWrite _ _ => .ssrWriteComplete gap
  | .chunkRead _ => .laneMapChunkReadComplete u gap

/-- How step 4 of a socket visit goes on from the state `q` at the end of a gap, `left` records to move (R28, R42,
R46): as `visitGoesOn`, the request made on the arbiter as `q` has it. -/
def visitAsks (q t : State) (i : SocketIx) (left : Nat) (moved : Bool) : Prop :=
  let x := q.sock i
  let asks (n : Nat) (tr : Transfer) : Prop := t = { q with
    scu := { q.scu with visit := .socket i n moved }, smc := requested q.smc tr }
  (left = 0 → ∃ ws, asks 0 (.ssrWrite i ws) ∧ socketStatusFields q.scu.sweepNumber x ws) ∧
  ∀ f rest, 0 < left → x.acct.staging = f :: rest → ∃ (slot : Fin 8) (ws : List Word),
    slot.val = x.gate.failWritten.toNat % 8 ∧ asks left (.failWrite i slot ws) ∧ failRecordFields f ws

/-- What the Scan Unit asks for at the end `q` of the gap after a transfer that ended in `s`, where the sweep is over
or goes on (R25, R26, R27, R28, R43). -/
def scanGoesOn (s q t : State) : Transfer → Prop
  | .bcrRead => ∃ ws, t = { q with smc := requested q.smc (.bsrWrite ws) } ∧ boardStatusFields q ws
  | .bsrWrite _ => t = { q with
      scu := { q.scu with visit := .socket 0 0 false }, smc := requested q.smc (.scrRead 0) }
  | .scrRead i => visitAsks q t i (movesOf (q.sock i)) false
  | .failWrite i _ _ => visitAsks q t i (s.scu.visit.movesLeft - 1) true
  | .ssrWrite i _ =>
    (∀ h : i.val + 1 < 32, t = { q with
      scu := { q.scu with visit := .socket ⟨i.val + 1, h⟩ 0 false }
      smc := requested q.smc (.scrRead ⟨i.val + 1, h⟩) }) ∧
    (i = 31 → ∀ ch, s.brc.channel = some ch →
      (ch.code = .loadLaneMap → ch.step = .reading → t = { q with
        scu := { q.scu with visit := .chunk }, smc := requested q.smc (.chunkRead q.scu.chunkIndex) }) ∧
      (ch.code ≠ .loadLaneMap ∨ ch.step ≠ .reading →
        t = if s.scu.deferred then { q with smc := requested q.smc .bcrRead } else q)) ∧
    (i = 31 → s.brc.channel = none →
      t = if s.scu.deferred then { q with smc := requested q.smc .bcrRead } else q)
  | .chunkRead _ => t = if s.scu.deferred then { q with smc := requested q.smc .bcrRead } else q

/-- R11, R14, R42, R45, R46: the end of a write transfer leaves its record's words in memory with good
parity, every word outside the record as it was, and the visit going on: to the next socket's SCR read, to
the next record to move or the Socket Status Record; and after the last socket to the chunk read of a load or
to the end of the sweep (R25, R26, R43, R132). That the chunk is read also in a sweep that runs out after
SCAN_ENABLE was cleared is log entry 47, which R44 can be read against. R12, R13: the end of any transfer releases
the port and the record lock; host cycles and other events then fall as their own rows have them, on a port that is
free of transfers, before the next transfer is asked for, whose words are those of that moment; that the row that
ends the transfer carries them is log entry 37. -/
def Obligations.WriteTransfersStoreTheirRecord : Prop :=
  ∀ (s : State) (ws : List Word), s.pins.por = false → s.smc.owner = .scan →
    (s.smc.transfer = some (.bsrWrite ws) → ws.length = 128 →
      ∃ t, exec (.bsrWriteComplete []) s = .next t ∧
        (∀ k : Nat, k < 128 → t.readWord (bcrBase + 128 + k) = withParity (ws.getD k 0)) ∧
        (∀ a : Nat, a < 0x80 ∨ 0x100 ≤ a → t.readWord a = s.readWord a) ∧
        t.scu = { s.scu with visit := .socket 0 0 false } ∧ t.sockets = s.sockets ∧
        t.brc = s.brc ∧ t.pxr = s.pxr ∧ t.banks = s.banks ∧
        (s.smc.scanWaiting = none → asksFor t.smc s.smc.hostWaiting (.scrRead 0))) ∧
    (∀ i : SocketIx, s.smc.transfer = some (.ssrWrite i ws) → ws.length = 128 →
      ∃ t, exec (.ssrWriteComplete []) s = .next t ∧
        (∀ k : Nat, k < 128 → t.readWord (ssrBase i + k) = withParity (ws.getD k 0)) ∧
        (∀ a : Nat, a < ssrBase i ∨ ssrBase i + 128 ≤ a → t.readWord a = s.readWord a) ∧
        t.sockets = s.sockets ∧ t.banks = s.banks ∧
        t.smc.attention.getLsbD 0 = (s.smc.attention.getLsbD 0 || s.scu.visit.moved) ∧
        (∀ h : i.val + 1 < 32,
          t.scu = { s.scu with visit := .socket ⟨i.val + 1, h⟩ 0 false } ∧
          t.brc = s.brc ∧ t.pxr = s.pxr ∧
          (s.smc.scanWaiting = none →
            asksFor t.smc s.smc.hostWaiting (.scrRead ⟨i.val + 1, h⟩))) ∧
        (i = 31 → ∀ ch, s.brc.channel = some ch → ch.code = .loadLaneMap → ch.step = .reading →
          t.scu = { s.scu with visit := .chunk } ∧ t.brc = s.brc ∧ t.pxr = s.pxr ∧
          (s.smc.scanWaiting = none →
            asksFor t.smc s.smc.hostWaiting (.chunkRead s.scu.chunkIndex))) ∧
        (i = 31 → (∀ ch, s.brc.channel = some ch → ch.code ≠ .loadLaneMap ∨ ch.step ≠ .reading) →
          sweepEnds s t ∧
          ((∀ ch, s.brc.channel = some ch → ch.code ≠ .fillLaneMap) →
            t.brc = s.brc ∧ t.pxr = s.pxr))) ∧
    (∀ (i : SocketIx) (slot : Fin 8), s.smc.transfer = some (.failWrite i slot ws) →
      ws.length = 16 → ∃ t, exec (.failRecordWriteComplete []) s = .next t ∧
        (∀ k : Nat, k < 16 → t.readWord (failBase i slot + k) = withParity (ws.getD k 0)) ∧
        (∀ a : Nat, a < failBase i slot ∨ failBase i slot + 16 ≤ a →
          t.readWord a = s.readWord a) ∧
        t.sock i = { s.sock i with
          gate := { (s.sock i).gate with failWritten := (s.sock i).gate.failWritten + 1 }
          acct := { (s.sock i).acct with staging := (s.sock i).acct.staging.tail } } ∧
        (∀ j : SocketIx, j ≠ i → t.sock j = s.sock j) ∧ t.scu.visit.moved = true ∧
        t.brc = s.brc ∧ t.pxr = s.pxr ∧ t.banks = s.banks ∧
        (s.smc.scanWaiting = none → visitGoesOn s t i (s.scu.visit.movesLeft - 1) true)) ∧
    ∀ (tr : Transfer) (u : BitVec 3) (o : VisitOrder) (gap : List VisitEvent),
      s.smc.transfer = some tr →
      ∃ p q t, exec (transferEnds u o gap tr) s = .next t ∧ fallsIn gap p q ∧ scanGoesOn s q t tr ∧
        ({ o with gap4 := [] }.quiet = true → released s.smc p.smc) ∧
        ∃ t₀, exec (transferEnds u o [] tr) s = .next t₀ ∧ scanGoesOn s p t₀ tr

/-- R43, R57, R52, R130, R25: a chunk read of a reading load ends it with PARITY, ends it with BAD_MAP at
the first bad entry, the staging map discarded and COMMAND_DONE set, or delivers the chunk's entries; the
active map stands, and the sweep ends. It is stated for an end of the transfer with no event in the gap after it
(log entry 37). -/
def Obligations.ChunkReadsDeliverOrEndTheLoad : Prop :=
  ∀ (s : State) (u : BitVec 3) (c : Nat) (ch : Channel), s.pins.por = false →
    s.transferring = some (.chunkRead c) → s.brc.channel = some ch →
    ch.code = .loadLaneMap → ch.step = .reading →
    let failed (t : State) (res : CmdResult) (detail : Nat) : Prop :=
      t.brc = { s.brc with
        completedTag := ch.tag, result := res, detail := detail, channel := none } ∧
      t.pxr = { s.pxr with staging := LaneMap.reset, delivered := 0, swapPending := false } ∧
      t.smc.attention = s.smc.attention ||| Cause.commandDone.mask
    ∃ t, exec (.laneMapChunkReadComplete u []) s = .next t ∧ t.pxr.active = s.pxr.active ∧
      t.mem = s.mem ∧ t.sockets = s.sockets ∧ sweepEnds s t ∧
      (s.readRecord (chunkBase c) 64 u = none → failed t .parity c) ∧
      (∀ r, s.readRecord (chunkBase c) 64 u = some r →
        (∀ k, firstBad (chunkEntries r) 0 = some k → failed t .badMap (32 * c + k)) ∧
        (firstBad (chunkEntries r) 0 = none → t.smc.attention = s.smc.attention ∧
          t.pxr.delivered = s.pxr.delivered + 1 ∧ t.scu.chunkIndex = s.scu.chunkIndex + 1 ∧
          (c ≠ 15 → t.brc = s.brc ∧ t.pxr.swapPending = s.pxr.swapPending) ∧
          (c = 15 → t.pxr.swapPending = true ∧
            t.brc.channel = some { ch with step := .swapWait }) ∧
          ∀ (i : SocketIx) (l : LaneIx), i.val / 2 = c → t.pxr.staging[i][l] =
            ((chunkEntries r).getD (16 * (i.val % 2) + l.val) none).getD LaneEntry.reset))

/-! ## Board commands -/

/-- Board Run Control after a command accepted and completed at once with SUCCESS and detail 0. -/
def doneBrc (b : Brc) (tag : Byte8) : Brc := { b with
  acceptedTag := tag, completedTag := tag, result := .success, detail := 0, channel := none }

/-- ATTENTION with COMMAND_DONE set. -/
def commandDoneSmc (m : Smc) : Smc := { m with attention := m.attention ||| Cause.commandDone.mask }

/-- R53, R52: START_RUN on an idle channel. A WAITING socket's rail enters the chain, or waits out a bank
hold-off; in a locked bank the socket is retired. That the row is the hand-off (R36) at whatever moment it is
sent, and sets Seen Tag to its tag, is log entry 6. -/
def Obligations.StartRunBeginsTheRun : Prop :=
  ∀ (s : State) (tag : Byte8), s.pins.por = false → s.brc.channel = none →
    (s.brc.state ≠ .stopped ∨ s.pins.interlock = true →
      exec (.startRun tag) s = .next (refusedState s tag .state)) ∧
    (s.brc.state = .stopped → s.pins.interlock = false → s.scu.configAdopted = false →
      exec (.startRun tag) s = .next (refusedState s tag .config)) ∧
    (s.brc.state = .stopped → s.pins.interlock = false → s.scu.configAdopted = true →
      ∃ t, exec (.startRun tag) s = .next t ∧
        t = { s with scu := { s.scu with seenTag := tag }, brc := t.brc, smc := t.smc
                     banks := t.banks, sockets := t.sockets } ∧
        t.brc = { doneBrc s.brc tag with state := .running, reason := .none
                                         runFinished := false } ∧
        t.smc = { s.smc with attention := t.smc.attention } ∧
        t.smc.attention.getLsbD Cause.commandDone.bit = true ∧
        (∀ b : BankIx, t.banks[b] = { s.banks[b] with runTrips := 0 }) ∧
        ∀ i : SocketIx,
          ((s.sock i).acct.phase ≠ .waiting → t.sock i = s.sock i) ∧
          ((s.sock i).acct.phase = .waiting → s.banks[bankOf i].locked = true →
            (t.sock i).acct.phase = .retired ∧ (t.sock i).acct.retireKind = .bankLock ∧
            (t.sock i).acct.bin = .boardFault) ∧
          ((s.sock i).acct.phase = .waiting → s.banks[bankOf i].locked = false →
            (s.sock i).rail.st = .off → (t.sock i).acct.phase = .waiting ∧
            (s.banks[bankOf i].holdOff = none → (t.sock i).rail.st = .chainWait) ∧
            (∀ e, s.banks[bankOf i].holdOff = some e → (t.sock i).rail.st = .holdOff ∧
              (t.sock i).rail.holdOff = some (.bank, e))))

/-- R54, R164, R135: HOLD on an idle channel. That the row is the hand-off (R36) at whatever moment it is sent,
and sets Seen Tag to its tag, is log entry 6. -/
def Obligations.HoldPausesTheRun : Prop :=
  ∀ (s : State) (tag : Byte8), s.pins.por = false → s.brc.channel = none →
    (s.brc.state ≠ .running → exec (.hold tag) s = .next (refusedState s tag .state)) ∧
    (s.brc.state = .running → ∃ t, exec (.hold tag) s = .next t ∧
      t = { s with scu := { s.scu with seenTag := tag }, brc := t.brc, smc := t.smc
                   sockets := t.sockets } ∧
      t.brc = { doneBrc s.brc tag with state := .holding, reason := .command } ∧
      t.smc = commandDoneSmc s.smc ∧
      ∀ i : SocketIx,
        ((s.sock i).acct.phase.asResume ≠ .none →
          (t.sock i).acct.phase = .held ∧
          (t.sock i).acct.resume = (s.sock i).acct.phase.asResume) ∧
        ((s.sock i).acct.phase.asResume = .none →
          (t.sock i).acct.phase = (s.sock i).acct.phase) ∧
        exerciseHeld (s.sock i) (t.sock i) ∧ (t.sock i).acct.spoil = true ∧
        (t.sock i).rail = (s.sock i).rail ∧ (t.sock i).thermal = (s.sock i).thermal ∧
        (t.sock i).sensor = (s.sock i).sensor ∧ (t.sock i).gate = (s.sock i).gate)

/-- The answer of a bank to the chain entry order for a rail in OFF (R69, R90): CHAIN_WAIT, or a BANK hold-off
while the bank hold-off runs. -/
def entersChain (b : Bank) (y : Socket) : Prop :=
  (b.holdOff = none → y.rail.st = .chainWait) ∧
  ∀ e, b.holdOff = some e → y.rail.st = .holdOff ∧ y.rail.holdOff = some (.bank, e)

/-- R54, R165, R92: RESUME on an idle channel. After an interlock hold a HELD socket returns to POWERING, and
it, a WAITING socket and a COMPLETE one held powered enter the chain; a locked bank retires the first two and
leaves the third. After any other hold a HELD socket returns to its Resume Phase. That the row is the hand-off
(R36) at whatever moment it is sent, and sets Seen Tag to its tag, is log entry 6. -/
def Obligations.ResumeRestoresTheRun : Prop :=
  ∀ (s : State) (tag : Byte8), s.pins.por = false → s.brc.channel = none →
    (s.brc.state ≠ .holding ∨ s.pins.interlock = true ∨ s.scu.scanEnable = false →
      exec (.resume tag) s = .next (refusedState s tag .state)) ∧
    (s.brc.state = .holding → s.pins.interlock = false → s.scu.scanEnable = true →
      ∃ t, exec (.resume tag) s = .next t ∧
        t = { s with scu := { s.scu with seenTag := tag }, brc := t.brc, smc := t.smc
                     sockets := t.sockets } ∧
        t.brc = { doneBrc s.brc tag with state := .running, reason := .none } ∧
        t.smc.attention.getLsbD Cause.commandDone.bit = true ∧
        ∀ i : SocketIx,
          ((s.sock i).acct.phase = .held → s.brc.reason ≠ .interlock →
            (t.sock i).acct.resume = .none ∧ (t.sock i).rail = (s.sock i).rail ∧
            (t.sock i).thermal = (s.sock i).thermal ∧
            ((s.sock i).acct.resume = .powering → (t.sock i).acct.phase = .powering) ∧
            ((s.sock i).acct.resume = .soaking → (t.sock i).acct.phase = .soaking) ∧
            ((s.sock i).acct.resume = .stressing → (t.sock i).acct.phase = .stressing ∧
              ((s.sock i).ex.suspendFlag = false → (t.sock i).ex.st = .armed) ∧
              ((s.sock i).ex.suspendFlag = true → (t.sock i).ex.st = .suspended))) ∧
          ((s.sock i).acct.phase = .held → s.brc.reason = .interlock →
            s.banks[bankOf i].locked = false → (t.sock i).acct.phase = .powering ∧
            (t.sock i).acct.resume = .none ∧
            ((s.sock i).rail.st = .off → entersChain s.banks[bankOf i] (t.sock i))) ∧
          ((s.sock i).acct.phase = .waiting → s.brc.reason = .interlock →
            s.banks[bankOf i].locked = false → (t.sock i).acct.phase = .waiting ∧
            ((s.sock i).rail.st = .off → entersChain s.banks[bankOf i] (t.sock i))) ∧
          ((s.sock i).acct.phase = .held ∨ (s.sock i).acct.phase = .waiting →
            s.brc.reason = .interlock → s.banks[bankOf i].locked = true →
            (t.sock i).acct.phase = .retired ∧ (t.sock i).acct.retireKind = .bankLock ∧
            (t.sock i).acct.bin = .boardFault ∧
            t.smc.attention.getLsbD Cause.socketEnded.bit = true) ∧
          ((s.sock i).acct.phase = .complete → s.brc.reason = .interlock →
            (s.sock i).gate.shadow.endAction = .holdPowered →
            (t.sock i).acct.phase = .complete ∧ (t.sock i).acct.bin = (s.sock i).acct.bin ∧
            (s.banks[bankOf i].locked = true → t.sock i = s.sock i) ∧
            (s.banks[bankOf i].locked = false → (s.sock i).rail.st = .off →
              entersChain s.banks[bankOf i] (t.sock i))) ∧
          ((s.sock i).acct.phase = .complete →
            (s.sock i).gate.shadow.endAction = .powerOff → t.sock i = s.sock i) ∧
          ((s.sock i).acct.phase ≠ .held → s.brc.reason ≠ .interlock →
            t.sock i = s.sock i) ∧
          ((s.sock i).acct.phase.asResume ≠ .none ∨ (s.sock i).acct.phase = .empty ∨
            (s.sock i).acct.phase = .retired → t.sock i = s.sock i))

/-- R56, R83, R168: STOP_RUN on an idle channel, as it is judged also once it has displaced the command in
progress (R55). On a STOPPING board, where it has displaced a STOP_RUN, it takes over the stop and gives the
blocks no further order. That the row is the hand-off (R36) at whatever moment it is sent, and sets Seen Tag to
its tag, is log entry 6; that a rail in RAMP_UP with its DAC target still 0 enters RAMP_DOWN like the others is
R81, and when it leaves it is log entry 48. -/
def Obligations.StopRunBringsTheBoardDown : Prop :=
  ∀ (s : State) (tag : Byte8), s.pins.por = false → s.brc.channel = none →
    (s.brc.state = .stopped → exec (.stopRun tag) s = .next { s with
      scu := { s.scu with seenTag := tag }, brc := doneBrc s.brc tag
      smc := commandDoneSmc s.smc }) ∧
    (s.brc.state = .stopping →
      ((∃ i : SocketIx, (s.sock i).rail.st ≠ .off) → ∃ ch,
        ch.code = .stopRun ∧ ch.tag = tag ∧ ch.step = .ramping ∧
        exec (.stopRun tag) s = .next { s with
          scu := { s.scu with seenTag := tag }
          brc := { s.brc with reason := .none, acceptedTag := tag, channel := some ch } }) ∧
      ((∀ i : SocketIx, (s.sock i).rail.st = .off) → exec (.stopRun tag) s = .next { s with
        scu := { s.scu with seenTag := tag }
        brc := { doneBrc s.brc tag with state := .stopped, reason := .none }
        smc := commandDoneSmc s.smc })) ∧
    (s.brc.state = .running ∨ s.brc.state = .holding → ∃ t, exec (.stopRun tag) s = .next t ∧
      t = { s with scu := { s.scu with seenTag := tag }, brc := t.brc, smc := t.smc
                   sockets := t.sockets } ∧
      ((∀ i : SocketIx, (t.sock i).rail.st = .off) →
        t.brc = { doneBrc s.brc tag with state := .stopped, reason := .none } ∧
        t.smc = commandDoneSmc s.smc) ∧
      (∀ i : SocketIx, (t.sock i).rail.st ≠ .off →
        t.brc.state = .stopping ∧ t.brc.reason = .none ∧ t.brc.acceptedTag = tag ∧
        t.brc.completedTag = s.brc.completedTag ∧ t.smc = s.smc ∧
        ∃ ch, t.brc.channel = some ch ∧ ch.code = .stopRun ∧ ch.tag = tag ∧
          ch.step = .ramping) ∧
      ∀ i : SocketIx,
        ((s.sock i).acct.phase.reporting = true → (t.sock i).acct.phase = .waiting ∧
          (t.sock i).acct.resume = .none ∧ (t.sock i).acct.bin = .incomplete) ∧
        ((s.sock i).acct.phase.reporting = false →
          (t.sock i).acct.phase = (s.sock i).acct.phase ∧
          (t.sock i).acct.bin = (s.sock i).acct.bin) ∧
        ((s.sock i).rail.st.checked = true → (t.sock i).rail.st = .rampDown ∧
          (t.sock i).rail.dac = (s.sock i).rail.dac) ∧
        ((s.sock i).rail.st = .chainWait ∨ (s.sock i).rail.st = .holdOff ∨
          (s.sock i).rail.st = .off → (t.sock i).rail.st = .off) ∧
        ((s.sock i).rail.st = .rampDown → (t.sock i).rail.st = .rampDown ∧
          (t.sock i).rail.pendingEntry = false) ∧
        ((s.sock i).ex.st ≠ .diag → (t.sock i).ex.st = .stopped) ∧
        (t.sock i).thermal.u = 0 ∧ (t.sock i).thermal.iAcc = 0 ∧
        (t.sock i).thermal.grant = 0 ∧ (t.sock i).thermal.preload = 0 ∧
        (t.sock i).acct.dwellSec = (s.sock i).acct.dwellSec)

/-- R51 test 1 and R55: a channel in progress refuses every command but STOP_RUN; STOP_RUN first completes
the command in progress, by its step, and is then judged as on an idle channel. That a fill in DONE_WAIT so
completed counts its Lane Map Generation and makes the lane-role check is the model's reading (log entry
22). That each row is the hand-off (R36) at whatever moment it is sent, and a refusal sets Seen Tag to its tag
too, is log entry 6. -/
def Obligations.BusyChannelRefusesOrIsDisplaced : Prop :=
  ∀ (s : State) (ch : Channel) (tag : Byte8), s.pins.por = false → s.brc.channel = some ch →
    let done (t : State) (res : CmdResult) (detail : Nat) : State := { t with
      brc := { t.brc with completedTag := ch.tag, result := res, detail := detail, channel := none }
      smc := commandDoneSmc t.smc }
    (exec (.startRun tag) s = .next (refusedState s tag .busy) ∧
      exec (.hold tag) s = .next (refusedState s tag .busy) ∧
      exec (.resume tag) s = .next (refusedState s tag .busy) ∧
      exec (.loadLaneMap tag) s = .next (refusedState s tag .busy) ∧
      (∀ d l : Word, exec (.fillLaneMap tag d l) s = .next (refusedState s tag .busy)) ∧
      (∀ m : Word32, exec (.clearAccounts tag m) s = .next (refusedState s tag .busy) ∧
        exec (.diagnose tag m) s = .next (refusedState s tag .busy))) ∧
    exec (.stopRun tag) s = exec (.stopRun tag) s.displace ∧ s.displace.brc.channel = none ∧
    (ch.code = .loadLaneMap → ch.step = .reading ∨ ch.step = .swapWait →
      s.displace = done { s with pxr := { s.pxr with
        staging := LaneMap.reset, delivered := 0, swapPending := false } } .aborted 0) ∧
    (ch.code = .loadLaneMap → ch.step = .doneWait → s.displace = done s .success 0) ∧
    (ch.code = .fillLaneMap → ch.step = .firstHalf ∨ ch.step = .secondHalf →
      s.displace = done s .aborted 0) ∧
    (ch.code = .fillLaneMap → ch.step = .doneWait →
      s.displace = { done s .success 0 with
        brc := { (done s .success 0).brc with mapGeneration := s.brc.mapGeneration + 1 }
        sockets := s.displace.sockets } ∧
      ∀ i : SocketIx, rolesChecked s.pxr.active i (s.sock i) (s.displace.sock i)) ∧
    (ch.code = .diagnose → ch.step = .frameWait ∨ ch.step = .diagFrame →
      s.displace.brc = (done s .aborted 0).brc ∧ s.displace.smc = (done s .aborted 0).smc ∧
      ∀ i : SocketIx, (s.displace.sock i).ex.diagResult = (s.sock i).ex.diagResult ∧
        (s.displace.sock i).ex.diagErrors = (s.sock i).ex.diagErrors ∧
        (s.displace.sock i).ex.st ≠ .diag ∧
        (s.displace.sock i).acct = (s.sock i).acct) ∧
    (ch.code = .diagnose → ch.step = .doneWait →
      s.displace = done s .success ((List.finRange 32).countP fun i =>
        ch.mask.getLsbD i.val && (s.sock i).ex.diagResult == .fail)) ∧
    (ch.code = .stopRun → s.displace = done s .aborted 0)

/-- R57, R58, R60, R51: LOAD_LANE_MAP, FILL_LANE_MAP and DIAGNOSE on an idle channel take their first step,
or are refused. That each row is the hand-off (R36) at whatever moment it is sent, and sets Seen Tag to its tag,
is log entry 6. -/
def Obligations.LongCommandsBegin : Prop :=
  ∀ (s : State) (tag : Byte8), s.pins.por = false → s.brc.channel = none →
    let begun (ch : Channel) : State := { s with
      scu := { s.scu with seenTag := tag }
      brc := { s.brc with acceptedTag := tag, channel := some ch } }
    (∃ ch, ch.code = .loadLaneMap ∧ ch.tag = tag ∧ ch.step = .reading ∧
      exec (.loadLaneMap tag) s = .next { begun ch with
        scu := { s.scu with seenTag := tag, chunkIndex := 0 } }) ∧
    (∀ d l : Word,
      (fillDirectionOf d = none ∨ idleLevelOf l.toNat = none →
        exec (.fillLaneMap tag d l) s = .next (refusedState s tag .badCode)) ∧
      ∀ dir lev, fillDirectionOf d = some dir → idleLevelOf l.toNat = some lev →
        (s.brc.state = .running ∨ s.brc.state = .stopping →
          exec (.fillLaneMap tag d l) s = .next (refusedState s tag .state)) ∧
        (s.brc.state = .stopped ∨ s.brc.state = .holding →
          exec (.fillLaneMap tag d l) s = .next (begun ⟨.fillLaneMap, tag, 0,
            if lev = .float then .off else dir, lev, .firstHalf⟩))) ∧
    ∀ mask : Word32,
      (s.brc.state ≠ .stopped → exec (.diagnose tag mask) s = .next (refusedState s tag .state)) ∧
      (s.brc.state = .stopped → mask = 0 → exec (.diagnose tag mask) s = .next { s with
        scu := { s.scu with seenTag := tag }, brc := doneBrc s.brc tag
        smc := commandDoneSmc s.smc }) ∧
      (s.brc.state = .stopped → mask ≠ 0 →
        ∃ ch, ch.code = .diagnose ∧ ch.tag = tag ∧ ch.mask = mask ∧ ch.step = .frameWait ∧
          exec (.diagnose tag mask) s = .next (begun ch))

/-- R59, R158, R87, R184: CLEAR_ACCOUNTS on an idle channel. A masked socket's accounts and counts take
their starting values, an unmasked socket stands, and a bank is cleared when its four sockets are
masked. A socket put in WAITING with its sensor LOST takes its loss as the first condition, also one that
was WAITING before (log entry 21); one that the loss retires has ended, also if it was RETIRED before. That the
row is the hand-off (R36) at whatever moment it is sent, and sets Seen Tag to its tag, is log entry 6. -/
def Obligations.ClearAccountsStartsAfresh : Prop :=
  ∀ (s : State) (tag : Byte8) (mask : Word32), s.pins.por = false → s.brc.channel = none →
    (s.brc.state ≠ .stopped →
      exec (.clearAccounts tag mask) s = .next (refusedState s tag .state)) ∧
    (s.brc.state = .stopped → ∃ t, exec (.clearAccounts tag mask) s = .next t ∧
      t = { s with scu := { s.scu with seenTag := tag }, brc := doneBrc s.brc tag, smc := t.smc
                   banks := t.banks, sockets := t.sockets } ∧
      t.smc.attention.getLsbD Cause.commandDone.bit = true ∧
      (∀ b : BankIx,
        ((∀ i : SocketIx, bankOf i = b → mask.getLsbD i.val = true) →
          t.banks[b] = { s.banks[b] with tripCount := 0, runTrips := 0, locked := false }) ∧
        (∀ i : SocketIx, bankOf i = b → mask.getLsbD i.val = false →
          t.banks[b] = s.banks[b])) ∧
      ∀ i : SocketIx,
        (mask.getLsbD i.val = false → t.sock i = s.sock i) ∧
        (mask.getLsbD i.val = true →
          (t.sock i).gate = { (s.sock i).gate with failWritten := (s.sock i).gate.acked } ∧
          (t.sock i).rail.trips = 0 ∧ (t.sock i).sensor = (s.sock i).sensor ∧
          (t.sock i).ex.framesRun = 0 ∧ (t.sock i).ex.framesFailed = 0 ∧
          (t.sock i).ex.laneErr = Vector.replicate 16 0 ∧ (t.sock i).ex.cycles = 0 ∧
          (t.sock i).ex.lastDuration = 0 ∧ (t.sock i).ex.spurious = 0 ∧
          (t.sock i).ex.diagResult = .notRun ∧ (t.sock i).ex.diagErrors = 0 ∧
          ((s.sock i).gate.shadow.enable = false ∨ (s.sock i).sensor.st ≠ .lost →
            (t.sock i).acct = { Account.reset with
              phase := if (s.sock i).gate.shadow.enable then .waiting else .empty
              prevVisit := (s.sock i).acct.prevVisit }) ∧
          ((s.sock i).gate.shadow.enable = true → (s.sock i).sensor.st = .lost →
            let fresh : Socket := { s.sock i with acct := { Account.reset with phase := .waiting } }
            conditionTaken .sensorLost 0 [(s.sock i).sensor.raw] 0 fresh (t.sock i) ∧
            (t.sock i).acct.dwellSec = 0 ∧ (t.sock i).acct.dwellMs = 0 ∧
            (t.sock i).acct.oosSec = 0 ∧ (t.sock i).acct.oosMs = 0 ∧
            (t.sock i).acct.lateCount = 0 ∧ (t.sock i).acct.detailLost = 0 ∧
            (t.sock i).acct.prevVisit = (s.sock i).acct.prevVisit ∧
            (∀ k : Kind, k ≠ .sensorLost → (t.sock i).acct.kindCount[k.ix] = 0) ∧
            (¬conditionEnds .sensorLost fresh → (t.sock i).acct.phase = .waiting) ∧
            (conditionEnds .sensorLost fresh →
              t.smc.attention.getLsbD Cause.socketEnded.bit = true))))

/-! ## Rails -/

/-- Where the DAC target of a ramping or slewing rail stands after one tick (R71, R76). -/
def nextDac (dac goal rate : Nat) : Nat :=
  if dac < goal then min goal (dac + rate) else max goal (dac - rate)

/-- R24, R71, R76, R82, R83, R90, R119, R70, TABLE 10-3: one sense tick, with the spoil reports of the tick:
a rail in SETTLE after the tick's ramp work reports too (log entry 44). The tick that ends RAMP_UP leaves
the mark that its own sample is no settle sample, and the one that ends SLEW leaves that the settle follows
a slew, its own sample counted (log entry 16). The flag that lets each bank's chain be examined once for the
tick is the model's own (log entry 10). A rail taken down with its DAC target already 0 leaves RAMP_DOWN at
the tick (log entry 48). -/
def Obligations.SenseTicksAdvanceTheRails : Prop :=
  ∀ s : State, s.pins.por = false → ∃ t, exec .senseTick s = .next t ∧
    t = { s with time := { s.time with runMs := s.time.runMs + 1 }, banks := t.banks, brc := t.brc
                 smc := t.smc, sockets := t.sockets } ∧
    (∀ b : BankIx, t.banks[b] = { s.banks[b] with chainDue := true }) ∧
    (s.brc.state ≠ .stopping → t.brc = s.brc ∧ t.smc = s.smc) ∧
    (∀ i : SocketIx, (t.sock i).rail.st ≠ .off → t.brc = s.brc ∧ t.smc = s.smc) ∧
    (∀ ch, s.brc.state = .stopping → s.brc.channel = some ch →
      (∀ i : SocketIx, (t.sock i).rail.st = .off) →
      t.brc = { s.brc with
        state := .stopped, reason := .none, completedTag := ch.tag, result := .success
        detail := 0, channel := none } ∧ t.smc = commandDoneSmc s.smc) ∧
    ∀ i : SocketIx,
      let r := (s.sock i).rail
      let q := (t.sock i).rail
      let n := (s.sock i).gate.shadow.num
      (t.sock i).gate = (s.sock i).gate ∧ (t.sock i).sensor = (s.sock i).sensor ∧
      (t.sock i).ex = (s.sock i).ex ∧ (t.sock i).acct.phase = (s.sock i).acct.phase ∧
      q.voltage = r.voltage ∧ q.current = r.current ∧ q.trips = r.trips ∧
      (t.sock i).thermal = { (s.sock i).thermal with
        soakMs := if (s.sock i).acct.phase = .soaking
          then min 4294967295 ((s.sock i).thermal.soakMs + 1) else (s.sock i).thermal.soakMs } ∧
      (r.st = .rampUp ∨ r.st = .slew →
        (nextDac r.dac n.railSetpoint n.rampRate = n.railSetpoint → q = { r with
          st := .settle, dac := n.railSetpoint, settleCount := 0, worstSettle := 0
          ownSample := decide (r.st = .rampUp), settleFromSlew := decide (r.st = .slew) }) ∧
        (nextDac r.dac n.railSetpoint n.rampRate ≠ n.railSetpoint → q = { r with
          dac := nextDac r.dac n.railSetpoint n.rampRate, ownSample := false })) ∧
      (r.st = .rampDown →
        (n.rampRate < r.dac → q = { r with dac := r.dac - n.rampRate, ownSample := false }) ∧
        (r.dac ≤ n.rampRate → q.dac = 0 ∧
          (r.pendingEntry = false → q.st = .off) ∧
          (r.pendingEntry = true → s.banks[bankOf i].holdOff = none → q.st = .chainWait) ∧
          (∀ e, r.pendingEntry = true → s.banks[bankOf i].holdOff = some e →
            q.st = .holdOff ∧ q.holdOff = some (.bank, e)))) ∧
      (r.st ≠ .rampUp → r.st ≠ .slew → r.st ≠ .rampDown → q = { r with ownSample := false }) ∧
      (t.sock i).acct = { (s.sock i).acct with spoil := (t.sock i).acct.spoil } ∧
      ((t.sock i).acct.spoil = true ↔ (s.sock i).acct.spoil = true ∨
        (q.st ≠ .on ∧ q.st ≠ .slew) ∨ (s.sock i).sensor.inWindow = false ∨
        ((s.sock i).acct.phase = .stressing ∧ (s.sock i).ex.st ≠ .running ∧
          (s.sock i).ex.mode ≠ .idle) ∨ s.brc.state = .holding)

/-- What a socket-caused trip does to a socket (R78, R162, R175, TABLE 11-2): the rail is cut with one trip used
and its checks cleared, and the condition is accounted; unless it ends the run, the rail waits in a SOCKET
hold-off and a soak or a stress is interrupted, from any state that a trip cuts (log entry 20); where it ends the
run, the takedown ends the hold-off. -/
def tripTaken (now : Word32) (k : Kind) (sub : Nat) (details : List Word) (x y : Socket) : Prop :=
  y.gate = x.gate ∧ y.sensor.tf = x.sensor.tf ∧
  y.rail.trips = x.rail.trips + 1 ∧ y.rail.dac = 0 ∧ y.rail.window = [] ∧ y.rail.dropCount = 0 ∧
  y.rail.settleCount = 0 ∧ y.rail.openArmed = false ∧ conditionTaken k sub details x.acct.dwellSec x y ∧
  (¬conditionEnds k x → y.rail.st = .holdOff ∧
    y.rail.holdOff = some (.socket, now + BitVec.ofNat 32 x.gate.shadow.num.tripHoldOff) ∧
    (x.acct.phase = .soaking ∨ x.acct.phase = .stressing → y.acct.phase = .powering) ∧
    (x.acct.phase ≠ .soaking → x.acct.phase ≠ .stressing → y.acct.phase = x.acct.phase) ∧
    (x.acct.phase = .held → y.acct.resume =
      if x.acct.resume = .soaking ∨ x.acct.resume = .stressing then .powering
      else x.acct.resume)) ∧
  (conditionEnds k x → y.rail.st = .off ∧ y.rail.holdOff = none)

/-- The voltage of the counted sample farthest from the setpoint, the earliest of those that tie (R72, R74), once
the sample `v` is counted too. -/
def farther (setpoint count worst : Nat) (v : Word) : Nat :=
  if count = 0 ∨ distance worst setpoint < distance v.toNat setpoint then v.toNat else worst

/-- What the open-contact check of the 1,000th sample leaves, where no other check of ON takes the sample's rail
down (R75): it is disarmed, and OPEN_CONTACT is raised exactly when Minimum Current is not 0 and the mean is
less. -/
def openContactChecked (c : Word) (x y : Socket) : Prop :=
  let low := x.gate.shadow.num.minCurrent
  let mean := (x.rail.openSum + c.toNat) / 16
  let k := Kind.openContact
  y.rail.openArmed = false ∧
  (low ≠ 0 → mean < low → conditionTaken k 0 [BitVec.ofNat 16 mean] x.acct.dwellSec x y ∧
    (conditionEnds k x → y.rail.st = .rampDown) ∧
    (¬conditionEnds k x → y.rail.st = .on ∧ y.acct.phase = x.acct.phase)) ∧
  (low = 0 ∨ low ≤ mean → y.acct = x.acct ∧ y.rail.st = .on)

/-- R67, R71, R72, R73, R74, R75: a rail link sample becomes the latest; the sample of the tick that ended
RAMP_UP is no settle sample; a settle sample within tolerance enters ON, which after a ramp-up starts the soak of
a POWERING socket and has a HELD one that would resume POWERING resume SOAKING, both with their timers at 0 (R161,
R162), and one out of tolerance below Settle Timeout is counted; a sample in ON that fails no check and
ends no open-contact count joins the window of the latest 16, counts or clears the dropout count, and counts
toward the open-contact check, whose sum takes the samples from the 985th; a mean of 16 ON samples above the
Slow Current Limit trips, also where the sample fails another check of ON: this row makes the slow-trip
check first, then the dropout check and the open-contact check, which is the model's choice (log entry 11).
The settle sample that reaches Settle Timeout and the eighth dropout sample trip, and the 1,000th counted
sample makes the open-contact check; that a trip from a SETTLE after a ramp-up interrupts a soak or a stress
is log entry 20. -/
def Obligations.RailSamplesAreRecordedAndChecked : Prop :=
  ∀ (s : State) (i : SocketIx) (v c : Word), s.pins.por = false →
    let x := s.sock i
    let n := x.gate.shadow.num
    let off : Prop := n.regTolerance < distance v.toNat n.railSetpoint
    let w := x.rail.window.drop (x.rail.window.length - 15) ++ [c.toNat]
    ∃ t, exec (.railSample i v c) s = .next t ∧ t = { s with sockets := t.sockets, smc := t.smc } ∧
      (∀ j : SocketIx, j ≠ i → t.sock j = s.sock j) ∧
      (t.sock i).rail.voltage = v ∧ (t.sock i).rail.current = c ∧
      ((x.rail.st ≠ .settle ∨ x.rail.ownSample = true) → x.rail.st ≠ .on →
        (t.sock i).rail = { x.rail with voltage := v, current := c, ownSample := false } ∧
        (t.sock i).acct.phase = x.acct.phase ∧ (t.sock i).acct.kindCount = x.acct.kindCount) ∧
      (x.rail.st = .settle → x.rail.ownSample = false →
        distance v.toNat n.railSetpoint ≤ n.regTolerance →
        (t.sock i).rail.st = .on ∧ (t.sock i).rail.window = [] ∧ (t.sock i).rail.dropCount = 0 ∧
        (x.rail.settleFromSlew = false → (t.sock i).rail.openArmed = true ∧
          (t.sock i).rail.openCount = 0 ∧
          (x.acct.phase = .powering → (t.sock i).acct.phase = .soaking ∧
            (t.sock i).sensor.inWindowMs = 0 ∧ (t.sock i).thermal.soakMs = 0) ∧
          (x.acct.phase = .held → x.acct.resume = .powering → (t.sock i).acct.phase = .held ∧
            (t.sock i).acct.resume = .soaking ∧ (t.sock i).sensor.inWindowMs = 0 ∧
            (t.sock i).thermal.soakMs = 0)) ∧
        (x.rail.settleFromSlew = true ∨ (x.acct.phase ≠ .powering ∧
            (x.acct.phase ≠ .held ∨ x.acct.resume ≠ .powering)) →
          (t.sock i).acct.phase = x.acct.phase ∧ (t.sock i).acct.resume = x.acct.resume ∧
          (t.sock i).sensor = x.sensor ∧ (t.sock i).thermal = x.thermal)) ∧
      (x.rail.st = .settle → x.rail.ownSample = false → off →
        x.rail.settleCount + 1 < n.settleTimeout →
        (t.sock i).rail = { x.rail with
          voltage := v, current := c, ownSample := false, settleCount := x.rail.settleCount + 1
          worstSettle := farther n.railSetpoint x.rail.settleCount x.rail.worstSettle v } ∧
        (t.sock i).acct.phase = x.acct.phase ∧ (t.sock i).acct.kindCount = x.acct.kindCount) ∧
      (x.rail.st = .on → w.length < 16 ∨ w.sum / 16 ≤ n.slowLimit →
        ¬off ∨ x.rail.dropCount + 1 < 8 → x.rail.openArmed = false ∨ x.rail.openCount + 1 < 1000 →
        (t.sock i).rail.st = .on ∧ (t.sock i).rail.window = w ∧
        (off → (t.sock i).rail.dropCount = x.rail.dropCount + 1 ∧
          (t.sock i).rail.worstDrop = farther n.railSetpoint x.rail.dropCount x.rail.worstDrop v) ∧
        (¬off → (t.sock i).rail.dropCount = 0 ∧ (t.sock i).rail.worstDrop = 0) ∧
        (x.rail.openArmed = true → (t.sock i).rail.openCount = x.rail.openCount + 1 ∧
          (t.sock i).rail.openSum = (if 985 ≤ x.rail.openCount + 1
            then x.rail.openSum + c.toNat else x.rail.openSum)) ∧
        (x.rail.openArmed = false → (t.sock i).rail.openCount = x.rail.openCount ∧
          (t.sock i).rail.openSum = x.rail.openSum) ∧
        (t.sock i).rail.trips = x.rail.trips ∧ (t.sock i).rail.openArmed = x.rail.openArmed ∧
        (t.sock i).acct = x.acct ∧ (t.sock i).thermal = x.thermal ∧ (t.sock i).ex = x.ex) ∧
      (x.rail.st = .on → 15 ≤ x.rail.window.length →
        n.slowLimit < w.sum / 16 → tripTaken s.time.runMs .railTrip 2
          [BitVec.ofNat 16 x.rail.trips, BitVec.ofNat 16 (w.sum / 16)] x (t.sock i)) ∧
      (x.rail.st = .settle → x.rail.ownSample = false → off →
        n.settleTimeout ≤ x.rail.settleCount + 1 → tripTaken s.time.runMs .railRegulation 1
          [BitVec.ofNat 16 n.railSetpoint, BitVec.ofNat 16
            (farther n.railSetpoint x.rail.settleCount x.rail.worstSettle v)] x (t.sock i)) ∧
      (x.rail.st = .on → w.length < 16 ∨ w.sum / 16 ≤ n.slowLimit → off → 7 ≤ x.rail.dropCount →
        tripTaken s.time.runMs .railRegulation 2
          [BitVec.ofNat 16 n.railSetpoint, BitVec.ofNat 16
            (farther n.railSetpoint x.rail.dropCount x.rail.worstDrop v)] x (t.sock i)) ∧
      (x.rail.st = .on → w.length < 16 ∨ w.sum / 16 ≤ n.slowLimit →
        ¬off ∨ x.rail.dropCount + 1 < 8 → x.rail.openArmed = true → 999 ≤ x.rail.openCount →
        openContactChecked c x (t.sock i))

/-- R72, R74: the sample that fails the settle and the sample that brings the dropout count to 8 trip the
rail with kind RAIL_REGULATION. That the DROPOUT row makes its check before the others of ON is the model's
choice (log entry 11), and so is the interruption of a socket that soaks or stresses on a SETTLE that follows
a ramp-up (log entry 20). Their subcodes and details are those of TABLE 11-2. -/
def Obligations.FailedSettlesAndDropoutsTrip : Prop :=
  ∀ (s : State) (i : SocketIx) (v c : Word), s.pins.por = false →
    let x := s.sock i
    let n := x.gate.shadow.num
    n.regTolerance < distance v.toNat n.railSetpoint →
    (x.rail.st = .settle → x.rail.ownSample = false → n.settleTimeout ≤ x.rail.settleCount + 1 →
      ∃ t, exec (.settleTimeout i v c) s = .next t ∧
        t = { s with sockets := t.sockets, smc := t.smc } ∧
        (∀ j : SocketIx, j ≠ i → t.sock j = s.sock j) ∧
        tripTaken s.time.runMs .railRegulation 1
          [BitVec.ofNat 16 n.railSetpoint, BitVec.ofNat 16
            (farther n.railSetpoint x.rail.settleCount x.rail.worstSettle v)] x (t.sock i)) ∧
    (x.rail.st = .on → 7 ≤ x.rail.dropCount →
      ∃ t, exec (.dropout i v c) s = .next t ∧
        t = { s with sockets := t.sockets, smc := t.smc } ∧
        (∀ j : SocketIx, j ≠ i → t.sock j = s.sock j) ∧
        tripTaken s.time.runMs .railRegulation 2
          [BitVec.ofNat 16 n.railSetpoint, BitVec.ofNat 16
            (farther n.railSetpoint x.rail.dropCount x.rail.worstDrop v)] x (t.sock i))

/-- R75: the sample that brings the open-contact count to 1,000 makes the check once; it raises
OPEN_CONTACT exactly when Minimum Current is not 0 and the mean of the last 16 counted samples is less, with
the accounting of R175 and the bin of TABLE 11-6. That this row makes its check before the slow-trip and the
dropout check of the same sample is the model's choice (log entry 11). -/
def Obligations.OpenContactCheckIsMadeOnce : Prop :=
  ∀ (s : State) (i : SocketIx) (v c : Word), s.pins.por = false →
    let x := s.sock i
    let n := x.gate.shadow.num
    let mean := (x.rail.openSum + c.toNat) / 16
    let w := x.rail.window.drop (x.rail.window.length - 15) ++ [c.toNat]
    let k := Kind.openContact.ix
    x.rail.st = .on → x.rail.openArmed = true → 999 ≤ x.rail.openCount →
    ∃ t, exec (.openContact i v c) s = .next t ∧
      t = { s with sockets := t.sockets, smc := t.smc } ∧
      (∀ j : SocketIx, j ≠ i → t.sock j = s.sock j) ∧ (t.sock i).rail.openArmed = false ∧
      (x.gate.shadow.num.minCurrent ≠ 0 → mean < x.gate.shadow.num.minCurrent →
        x.acct.phase.reporting = true →
        (t.sock i).acct.kindCount[k] = min 65535 (x.acct.kindCount[k] + 1) ∧
        (x.gate.shadow.kindActions[k] = .retire → (t.sock i).acct.phase = .retired ∧
          (t.sock i).acct.bin = .noContact ∧ (t.sock i).rail.st = .rampDown)) ∧
      (x.gate.shadow.num.minCurrent = 0 ∨ x.gate.shadow.num.minCurrent ≤ mean →
        (t.sock i).acct.kindCount[k] = x.acct.kindCount[k]) ∧
      (w.length < 16 ∨ w.sum / 16 ≤ n.slowLimit →
        distance v.toNat n.railSetpoint ≤ n.regTolerance ∨ x.rail.dropCount + 1 < 8 →
        openContactChecked c x (t.sock i))

/-- R77, R82, R83: a fast-trip input asserted trips a rail in RAMP_UP, SETTLE, ON or SLEW, cuts a rail in
RAMP_DOWN to OFF with no trip used, which can end a stop, and leaves any other rail; its release only
moves the level. That the row carries the input's level is log entry 15; the trip's hold-off is R78, and that
it interrupts a soak or a stress also from RAMP_UP and SETTLE is log entry 20. -/
def Obligations.FastTripsCutTheRail : Prop :=
  ∀ (s : State) (i : SocketIx), s.pins.por = false →
    let bit := BitVec.twoPow 32 i.val
    let up := { s.pins with fastTrip := s.pins.fastTrip ||| bit }
    let x := s.sock i
    exec (.fastTrip i false) s = .next { s with pins := { s.pins with
      fastTrip := s.pins.fastTrip &&& ~~~bit } } ∧
    (s.brc.state ≠ .stopping → x.rail.st.checked = true →
      ∃ t, exec (.fastTrip i true) s = .next t ∧
        t = { s with pins := up, sockets := t.sockets, smc := t.smc } ∧
        (∀ j : SocketIx, j ≠ i → t.sock j = s.sock j) ∧
        tripTaken s.time.runMs .railTrip 1
          [BitVec.ofNat 16 x.rail.trips, x.rail.current] x (t.sock i)) ∧
    (s.brc.state ≠ .stopping → x.rail.st.checked = false → x.rail.st ≠ .rampDown →
      exec (.fastTrip i true) s = .next { s with pins := up }) ∧
    (x.rail.st = .rampDown → ∃ t, exec (.fastTrip i true) s = .next t ∧
      (∀ j : SocketIx, j ≠ i → t.sock j = s.sock j) ∧ (t.sock i).rail.st = .off ∧
      (t.sock i).rail.dac = 0 ∧ (t.sock i).rail.trips = x.rail.trips ∧
      (t.sock i).acct.phase = x.acct.phase ∧
      ((∃ j : SocketIx, j ≠ i ∧ (s.sock j).rail.st ≠ .off) → t.brc = s.brc) ∧
      (∀ ch, s.brc.state = .stopping → s.brc.channel = some ch →
        (∀ j : SocketIx, j ≠ i → (s.sock j).rail.st = .off) →
        t.brc.state = .stopped ∧ t.brc.completedTag = ch.tag ∧ t.brc.result = .success))

/-- What a chain start or the expiry of a SOCKET hold-off does to a rail (R70, R79): exhausted trips lock
it out and retire a reporting socket; otherwise it ramps from 0, unless its fast-trip input stands
asserted, which trips it at once (R77; log entry 15). -/
def powersOrLocks (now : Word32) (fastInput : Bool) (x y : Socket) : Prop :=
  let n := x.gate.shadow.num
  (n.tripRetryLimit < x.rail.trips → y.rail.st = .off ∧ y.rail.dac = 0 ∧
    (x.acct.phase.reporting = true → y.acct.phase = .retired ∧ y.acct.retireKind = .lockout ∧
      y.acct.bin = .failPower ∧ y.acct.failTotal = x.acct.failTotal)) ∧
  (x.rail.trips ≤ n.tripRetryLimit → fastInput = false → y.rail.st = .rampUp ∧ y.rail.dac = 0 ∧
    y.rail.trips = x.rail.trips ∧ y.acct.phase = x.acct.phase) ∧
  (x.rail.trips ≤ n.tripRetryLimit → fastInput = true →
    tripTaken now .railTrip 1 [BitVec.ofNat 16 x.rail.trips, x.rail.current] x y)

/-- R70, R161, R79: while the board is RUNNING and no rail of the bank ramps or settles, the lowest-numbered
CHAIN_WAIT rail of the bank takes the chain start of the tick, at the moment the sender chooses (log entry
10), and a WAITING socket becomes POWERING by it; a fast-trip input that stands asserted trips it at once
(R77; log entry 15). That such a trip interrupts a soak or a stress is log entry 20. -/
def Obligations.ChainStartsInTurn : Prop :=
  ∀ (s : State) (b : BankIx) (i : SocketIx), s.pins.por = false → bankOf i = b →
    s.banks[b].chainDue = true → s.brc.state = .running →
    (∀ j : SocketIx, bankOf j = b → (s.sock j).rail.st ≠ .rampUp ∧ (s.sock j).rail.st ≠ .settle) →
    (s.sock i).rail.st = .chainWait →
    (∀ j : SocketIx, bankOf j = b → j < i → (s.sock j).rail.st ≠ .chainWait) →
    let x : Socket := { s.sock i with acct := { (s.sock i).acct with
      phase := if (s.sock i).acct.phase = .waiting then .powering else (s.sock i).acct.phase } }
    ∃ t, exec (.chainStart b) s = .next t ∧
      t = { s with sockets := t.sockets, banks := t.banks, smc := t.smc } ∧
      (∀ j : SocketIx, j ≠ i → t.sock j = s.sock j) ∧
      t.banks[b] = { s.banks[b] with chainDue := false } ∧
      (∀ d : BankIx, d ≠ b → t.banks[d] = s.banks[d]) ∧
      powersOrLocks s.time.runMs (s.pins.fastTrip.getLsbD i.val) x (t.sock i)

/-- R79, R90: a SOCKET hold-off whose time has come ends in RAMP_UP or a lockout; a bank hold-off whose time
has come ends, and the bank's rails held by it enter CHAIN_WAIT. When a time has come on the wrapping count
is the model's choice (log entry 9); a fast-trip input that stands asserted trips a rail that ramps at once
(R77; log entry 15). That such a trip interrupts a soak or a stress is log entry 20. -/
def Obligations.HoldOffsExpire : Prop :=
  ∀ s : State, s.pins.por = false →
    (∀ (i : SocketIx) (e : Word32), (s.sock i).rail.st = .holdOff →
      (s.sock i).rail.holdOff = some (.socket, e) → (s.time.runMs - e).toNat < 2147483648 →
      ∃ t, exec (.socketHoldOffExpiry i) s = .next t ∧
        t = { s with sockets := t.sockets, smc := t.smc } ∧
        (∀ j : SocketIx, j ≠ i → t.sock j = s.sock j) ∧
        powersOrLocks s.time.runMs (s.pins.fastTrip.getLsbD i.val) (s.sock i) (t.sock i)) ∧
    (∀ (b : BankIx) (e : Word32), s.banks[b].holdOff = some e →
      (s.time.runMs - e).toNat < 2147483648 →
      ∃ t, exec (.bankHoldOffExpiry b) s = .next t ∧
        t = { s with sockets := t.sockets, banks := t.banks } ∧
        t.banks[b] = { s.banks[b] with holdOff := none } ∧
        (∀ d : BankIx, d ≠ b → t.banks[d] = s.banks[d]) ∧
        ∀ i : SocketIx,
          (bankOf i ≠ b → t.sock i = s.sock i) ∧
          (∀ e', bankOf i = b → (s.sock i).rail.st = .holdOff →
            (s.sock i).rail.holdOff = some (.bank, e') → (t.sock i).rail.st = .chainWait) ∧
          ((s.sock i).rail.st ≠ .holdOff → t.sock i = s.sock i))

/-! ## Bank feeds -/

/-- What a bank trip does to one socket of the bank (R80, R89, R162), with the bank hold-off's expiry. -/
def bankCutTaken (e : Word32) (x y : Socket) : Prop :=
  (x.rail.st.checked = true ∨ x.rail.st = .chainWait ∨ x.rail.st = .holdOff →
    y.rail.st = .holdOff ∧ y.rail.holdOff = some (.bank, e)) ∧
  (x.rail.st = .rampDown ∨ x.rail.st = .off → y.rail.st = .off) ∧
  (x.rail.st.checked = true → x.acct.phase = .soaking ∨ x.acct.phase = .stressing →
    y.acct.phase = .powering ∧ y.acct.resume = .none) ∧
  (x.rail.st.checked = true → x.acct.phase = .held →
    x.acct.resume = .soaking ∨ x.acct.resume = .stressing →
    y.acct.phase = .held ∧ y.acct.resume = .powering) ∧
  (x.rail.st.checked = false ∨ x.acct.phase.asResume = .none ∨ x.acct.phase = .powering →
    y.acct.phase = x.acct.phase) ∧
  y.thermal = { x.thermal with
    grant := 0, ceiling := 0
    u := if 0 < x.thermal.u then 0 else x.thermal.u
    preload := if 0 < x.thermal.u then 0 else x.thermal.preload }

/-- R88, R89, R91, R83, R162: a feed sample is recorded; above the bank's trip threshold, on a board that is
not STOPPED, it trips the bank; the third trip of a run locks it; a locked bank only counts (log entry 23);
on a STOPPING board the cut of the last rail ends the stop. A soak or a stress is interrupted from any state
of the rail that the trip cuts (log entry 20). -/
def Obligations.FeedSamplesTripTheBank : Prop :=
  ∀ (s : State) (b : BankIx) (c : Word32), s.pins.por = false →
    let k := s.banks[b]
    let budget := s.scu.config.budgets[b]
    let e := s.time.runMs + 2000
    let tripped : Bank := { k with feed := c, tripCount := min 65535 (k.tripCount + 1) }
    (s.brc.state = .stopped ∨ c.toNat ≤ budget + budget / 4 →
      exec (.bankFeedSample b c) s = .next { s with banks := s.banks.set b { k with feed := c } }) ∧
    (s.brc.state ≠ .stopped → budget + budget / 4 < c.toNat →
      ∃ t, exec (.bankFeedSample b c) s = .next t ∧
        t = { s with banks := t.banks, sockets := t.sockets, smc := t.smc, brc := t.brc } ∧
        t.smc.attention.getLsbD Cause.bankTrip.bit = true ∧
        (s.brc.state ≠ .stopping → t.brc = s.brc) ∧
        ((∃ i : SocketIx, (t.sock i).rail.st ≠ .off) → t.brc = s.brc) ∧
        (∀ ch, s.brc.state = .stopping → s.brc.channel = some ch →
          (∀ i : SocketIx, (t.sock i).rail.st = .off) →
          t.brc = { s.brc with
            state := .stopped, reason := .none, completedTag := ch.tag, result := .success
            detail := 0, channel := none }) ∧
        (∀ d : BankIx, d ≠ b → t.banks[d] = s.banks[d]) ∧
        (∀ i : SocketIx, bankOf i ≠ b → t.sock i = s.sock i) ∧
        (∀ i : SocketIx, (t.sock i).rail.trips = (s.sock i).rail.trips ∧
          (t.sock i).acct.kindCount = (s.sock i).acct.kindCount) ∧
        (k.locked = true → t.banks[b] = tripped ∧ t.sockets = s.sockets) ∧
        (k.locked = false → k.runTrips < 2 →
          t.banks[b] = { tripped with runTrips := k.runTrips + 1, holdOff := some e } ∧
          ∀ i : SocketIx, bankOf i = b → bankCutTaken e (s.sock i) (t.sock i)) ∧
        (k.locked = false → 2 ≤ k.runTrips →
          t.banks[b] = { tripped with
            runTrips := k.runTrips + 1, locked := true, holdOff := none } ∧
          ∀ i : SocketIx, bankOf i = b →
            ((s.sock i).rail.st ≠ .tripped → (s.sock i).rail.st ≠ .lockout →
              (t.sock i).rail.st = .off) ∧
            ((s.sock i).acct.phase.reporting = true → (t.sock i).acct.phase = .retired ∧
              (t.sock i).acct.retireKind = .bankLock ∧ (t.sock i).acct.bin = .boardFault ∧
              t.smc.attention.getLsbD Cause.socketEnded.bit = true) ∧
            ((s.sock i).acct.phase.reporting = false →
              (t.sock i).acct.phase = (s.sock i).acct.phase ∧
              (t.sock i).acct.bin = (s.sock i).acct.bin)))

/-! ## Temperature -/

/-- The filter step of a valid sample (R98, R99, R100) and its judgement of the window (R104). -/
def sampleFiltered (n : Numbers) (w : Word) (x y : Sensor) : Prop :=
  let raw := w.toInt
  y.raw = w ∧
  (x.st = .noSample ∨ x.st = .lost → y.tf = some raw ∧ y.st = .tracking) ∧
  (∀ f : Int, x.st ≠ .noSample → x.st ≠ .lost → x.tf = some f →
    ((raw - f).natAbs ≤ 256 →
      y.tf = some (f + Int.tdiv (raw - f) (2 ^ n.filterShift)) ∧ y.st = .tracking ∧
      y.suspectCount = 0) ∧
    (256 < (raw - f).natAbs → x.suspectCount < 2 →
      y.tf = some f ∧ y.st = .suspect ∧ y.suspectCount = x.suspectCount + 1) ∧
    (256 < (raw - f).natAbs → 2 ≤ x.suspectCount → y.tf = some raw ∧ y.st = .tracking)) ∧
  y.invalidCount = 0 ∧
  (∀ f : Int, y.tf = some f →
    (y.inWindow = true ↔ (f - n.tempSetpoint).natAbs ≤ n.tempWindow)) ∧
  y.inWindowMs = if y.inWindow = true then min 4294967295 (x.inWindowMs + 25) else 0

/-- R98, R99, R100, R101, R103, R104, R105: one sensor sample. A valid one moves the filter; at or above the
absolute limit it takes the heat from the output and retires a socket in a reporting phase. An invalid one
before the fourth in a row is counted, and one of a LOST sensor leaves it LOST; neither moves T_f. -/
def Obligations.SensorSamplesMoveTheFilter : Prop :=
  ∀ (s : State) (i : SocketIx), s.pins.por = false →
    let x := s.sock i
    let n := x.gate.shadow.num
    (∀ w : Word, -640 ≤ w.toInt → w.toInt ≤ 3200 →
      ∃ t, exec (.sensorSample i (some w)) s = .next t ∧
        t = { s with sockets := t.sockets, smc := t.smc } ∧
        (∀ j : SocketIx, j ≠ i → t.sock j = s.sock j) ∧
        sampleFiltered n w x.sensor (t.sock i).sensor ∧ (t.sock i).gate = x.gate ∧
        (w.toInt < s.scu.config.absLimit →
          t.smc = s.smc ∧ (t.sock i).rail = x.rail ∧ (t.sock i).thermal = x.thermal ∧
          (t.sock i).ex = x.ex) ∧
        (s.scu.config.absLimit ≤ w.toInt → x.acct.phase.reporting = false →
          t.smc = s.smc ∧ (t.sock i).rail = x.rail ∧ (t.sock i).ex = x.ex ∧
          (t.sock i).thermal = { x.thermal with
            u := if 0 < x.thermal.u then 0 else x.thermal.u
            preload := if 0 < x.thermal.u then 0 else x.thermal.preload }) ∧
        (w.toInt < s.scu.config.absLimit ∨ x.acct.phase.reporting = false →
          (t.sock i).acct = { x.acct with
            spoil := x.acct.spoil || !(t.sock i).sensor.inWindow }) ∧
        (s.scu.config.absLimit ≤ w.toInt → x.acct.phase.reporting = true →
          (t.sock i).thermal.u = 0 ∧ (t.sock i).acct.phase = .retired ∧
          (t.sock i).acct.retireKind = .kind .thermal ∧ (t.sock i).acct.bin = .failThermal ∧
          (t.sock i).thermal.heaterOn = false ∧ (t.sock i).thermal.coolerOn = false ∧
          (x.acct.staging.length < 4 → ∃ f : FailRecord,
            (t.sock i).acct.staging = x.acct.staging ++ [f] ∧ f.kind = .thermal ∧
            f.subcode = 2 ∧ f.details = [BitVec.ofInt 16 n.tempSetpoint,
              BitVec.ofInt 16 (if 0 < x.thermal.u then 0 else x.thermal.u)]) ∧
          t.smc.attention.getLsbD Cause.socketEnded.bit = true)) ∧
    ∀ code : Option Word, invalidCode code = true →
      x.sensor.st = .lost ∨ x.sensor.invalidCount < 3 →
      exec (.sensorSample i code) s = .next { s with sockets := s.sockets.set i { x with
        sensor := { x.sensor with
          raw := code.getD 0x7FFF, suspectCount := 0, inWindow := false, inWindowMs := 0
          invalidCount := if x.sensor.st = .lost then x.sensor.invalidCount
            else x.sensor.invalidCount + 1
          st := if x.sensor.st = .lost ∨ x.sensor.st = .noSample then x.sensor.st
            else .invalid }
        acct := { x.acct with spoil := true } } }

/-- R101, R108: the invalid sample after three in a row makes the sensor LOST: the condition SENSOR_LOST, the
integrator and the grant 0, and the output at minus the Cooler Limit in a control phase that the condition does
not end, HELD by a command or a disabled scan and COMPLETE held powered among them, and 0 in any other. A COMPLETE
socket is under control only with Enable 1 (log entry 17). -/
def Obligations.SensorLossTakesTheLossValues : Prop :=
  ∀ (s : State) (i : SocketIx) (code : Option Word), s.pins.por = false →
    (Instr.sensorLost i code).wellFormed = true →
    let x := s.sock i
    x.sensor.st ≠ .lost → 3 ≤ x.sensor.invalidCount →
    ∃ t, exec (.sensorLost i code) s = .next t ∧
      t = { s with sockets := t.sockets, smc := t.smc } ∧
      (∀ j : SocketIx, j ≠ i → t.sock j = s.sock j) ∧
      (t.sock i).sensor.st = .lost ∧ (t.sock i).sensor.tf = x.sensor.tf ∧
      (t.sock i).sensor.inWindow = false ∧ (t.sock i).sensor.inWindowMs = 0 ∧
      (t.sock i).thermal.iAcc = 0 ∧ (t.sock i).thermal.grant = 0 ∧
      (t.sock i).thermal.preload = (t.sock i).thermal.u ∧
      conditionTaken .sensorLost 0 [code.getD 0x7FFF] x.acct.dwellSec x (t.sock i) ∧
      (¬conditionEnds .sensorLost x → (t.sock i).acct.phase = x.acct.phase) ∧
      (controlled (s.ctx i) x → ¬conditionEnds .sensorLost x →
        (t.sock i).thermal.u = -(x.gate.shadow.num.coolerLimit : Int)) ∧
      (¬controlled (s.ctx i) x ∨ conditionEnds .sensorLost x → (t.sock i).thermal.u = 0)

/-- R93, R94, R101, R108, R109, R111 to R113, R118: after any allocation and control update the output lies
between minus the Cooler Limit and H_max, is what the preload takes, and the Heater Grant exceeds neither
the headroom nor Heater Full-Scale Current × Heater Limit / 1,024; and the thermal work of any visit that
ends no phase leaves what the rules give: an update, a hold, a rest or the loss values. What is no update
changes nothing but the thermal state. A COMPLETE socket is under control only with Enable 1 (log entry 17).
-/
def Obligations.ControlUpdatesStayInBounds : Prop :=
  (∀ (b : Bank) (headroom : Nat) (n : Numbers) (tf : Int) (t : Thermal),
    0 < n.heaterFullScale → -261888 ≤ t.iAcc → t.iAcc ≤ 261888 →
    let r := (t.allocate b headroom n).update n tf
    r.u ≤ r.hMax ∧ -(n.coolerLimit : Int) ≤ r.u ∧ r.hMax ≤ r.ceiling ∧ r.ceiling ≤ 1023 ∧
    r.hMax ≤ n.heaterLimit ∧ r.preload = r.u ∧ r.grant ≤ headroom ∧
    r.grant ≤ n.heaterFullScale * n.heaterLimit / 1024 ∧
    -261888 ≤ r.iAcc ∧ r.iAcc ≤ 261888 ∧
    (b.holdOff.isSome = true ∨ b.locked = true ∨ headroom = 0 → r.ceiling = 0)) ∧
  (∀ (s : State) (i : SocketIx),
    (s.share i - (s.sock i).rail.allocCurrent).toNat = headroomOf s i) ∧
  ∀ (c : Ctx) (share : Int) (x : Socket),
    let y := x.thermalVisit c share
    (y.acct.phase = x.acct.phase →
      thermalWorked (controlled c x) c.bank (share - x.rail.allocCurrent).toNat x y.thermal ∧
      y.thermal.duty = x.thermal.duty ∧ y.thermal.pulse = x.thermal.pulse) ∧
    (¬controlled c x ∨ (x.sensor.st ≠ .tracking ∧ x.sensor.st ≠ .suspect) →
      y = { x with thermal := y.thermal } ∧ y.thermal.duty = x.thermal.duty ∧
      y.thermal.pulse = x.thermal.pulse ∧ y.thermal.soakMs = x.thermal.soakMs)

/-- R107, R114, R115, R117: the PWM tick after tick 1,023 starts a period for every socket, which fixes its
pulse from the preload, the previous side and the Dead Time; any other tick moves the outputs along
their pulses. That PWM_PERIOD_START and PWM_TICK are the same event at tick 1,023 is log entry 7. -/
def Obligations.PwmPeriodsFixTheirPulse : Prop :=
  ∀ s : State, s.pins.por = false →
    (1023 ≤ s.time.pwmTick → ∃ t, exec .pwmPeriodStart s = .next t ∧ exec .pwmTick s = .next t ∧
      t = { s with time := { s.time with pwmTick := 0 }, sockets := t.sockets } ∧
      ∀ i : SocketIx,
        let x := (s.sock i).thermal
        let y := (t.sock i).thermal
        let d : Int := if s.pins.interlock then 0 else x.preload
        let dead := s.scu.config.deadTime
        t.sock i = { s.sock i with thermal := y } ∧
        y.duty = d ∧ y.prevSide = x.periodSide ∧ y.u = x.u ∧ y.preload = x.preload ∧
        y.heaterOn = (y.pulse.side == .heater && y.pulse.start == 0 && 0 < y.pulse.stop) ∧
        y.coolerOn = (y.pulse.side == .cooler && y.pulse.start == 0 && 0 < y.pulse.stop) ∧
        y.periodSide = y.pulse.side ∧
        (d = 0 → y.pulse = ⟨.none, 0, 0⟩) ∧
        (0 < d → x.periodSide ≠ .cooler → y.pulse = ⟨.heater, 0, d.natAbs⟩) ∧
        (0 < d → x.periodSide = .cooler → y.pulse =
          if d.natAbs ≤ dead then ⟨.none, 0, 0⟩ else ⟨.heater, dead, d.natAbs⟩) ∧
        (d < 0 → x.periodSide ≠ .heater → y.pulse = ⟨.cooler, 0, d.natAbs⟩) ∧
        (d < 0 → x.periodSide = .heater → y.pulse =
          if d.natAbs ≤ dead then ⟨.none, 0, 0⟩ else ⟨.cooler, dead, d.natAbs⟩)) ∧
    (s.time.pwmTick < 1023 → ∃ t, exec .pwmTick s = .next t ∧
      t = { s with time := { s.time with pwmTick := s.time.pwmTick + 1 }, sockets := t.sockets } ∧
      ∀ i : SocketIx,
        let p := (s.sock i).thermal.pulse
        t.sock i = { s.sock i with thermal := { (s.sock i).thermal with
          heaterOn := p.side == .heater &&
            (p.start ≤ s.time.pwmTick + 1 && s.time.pwmTick + 1 < p.stop)
          coolerOn := p.side == .cooler &&
            (p.start ≤ s.time.pwmTick + 1 && s.time.pwmTick + 1 < p.stop) } })

/-! ## Exercise -/

/-- A self-test cycle at its start (R149, R150), with the settings of the moment. -/
def cycleStarts (n : Numbers) (e : Exercise) : Prop :=
  e.latched = some ⟨n.startLane, n.doneLane, n.passLane, n.startDelay, n.startWidth,
    n.doneTimeout⟩ ∧
  e.vectorCount = 0 ∧ e.heldSpurious = 0 ∧ e.expiry = none ∧
  e.cycle = if n.startDelay = 0 then .startPulse else .startDelay

/-- What the close of a comparison frame hands on (R145, R146, R174): the COMPARE condition at the first
failed frame of a run, with Frame Number, failing lane mask and frame error total as details. -/
def frameCompared (frame : Word32) (x y : Socket) : Prop :=
  let bad : Prop := x.ex.threshold ≤ x.ex.frameTotal
  y.ex.framesRun = min 4294967295 (x.ex.framesRun + 1) ∧
  y.ex.framesFailed = (if x.ex.threshold ≤ x.ex.frameTotal
    then min 4294967295 (x.ex.framesFailed + 1) else x.ex.framesFailed) ∧
  (∀ l : LaneIx, y.ex.laneErr[l] = min 65535 (x.ex.laneErr[l] + x.ex.frameLane[l])) ∧
  (y.ex.onsetArmed = true ↔ ¬bad) ∧
  (¬bad ∨ x.ex.onsetArmed = false ∨ x.acct.phase.reporting = false →
    y.acct.kindCount = x.acct.kindCount ∧ y.acct.staging = x.acct.staging ∧
    y.acct.phase = x.acct.phase) ∧
  (bad → x.ex.onsetArmed = true → x.acct.phase.reporting = true →
    ∃ mask : Word, (∀ l : LaneIx, mask.getLsbD l.val = decide (1 ≤ x.ex.frameLane[l])) ∧
      conditionTaken .compare 0 [frame.extractLsb' 0 16, frame.extractLsb' 16 16, mask,
        BitVec.ofNat 16 x.ex.frameTotal] x.acct.dwellSec x y) ∧
  (bad → x.ex.onsetArmed = true → conditionEnds .compare x →
    x.acct.phase = .stressing → y.ex.st ≠ .running) ∧
  (¬conditionEnds .compare x → y.acct.phase = x.acct.phase)

/-- What a frame boundary makes of the exercise of one socket that it puts in no diagnosis (R124, R133, R134,
R136, R143, R144, R146, R149, R154), with the maps in force before and after it and whether it is a swap. The pending
mode is taken; a socket whose roles do not fit the map of a swap is SUSPENDED; any other ARMED or RUNNING one runs on,
unless the close of its frame ends it (R145); its skip counts take the Delays of the map where the mode becomes
PATTERN, or where an ARMED socket begins, and else those of the entries that the swap changed. -/
def frameBegins (old m : LaneMap) (swap : Bool) (i : SocketIx) (x y : Socket) : Prop :=
  let n := x.gate.shadow.num
  let new := x.ex.pendingMode
  let unfit : Prop := swap = true ∧ x.gate.shadow.mode = .selftest ∧ rolesFit m i n = false
  let ends : Prop := x.ex.mode = .pattern ∧ x.ex.threshold ≤ x.ex.frameTotal ∧
    x.ex.onsetArmed = true ∧ conditionEnds .compare x
  let runs : Prop := x.ex.st = .running ∧ ¬ends
  let skips : Prop := ∀ l : LaneIx, y.ex.skip[l] =
    if swap = true ∧ old[i][l] ≠ m[i][l] then m[i][l].delay else x.ex.skip[l]
  let delays : Prop := ∀ l : LaneIx, y.ex.skip[l] = m[i][l].delay
  y.ex.mode = new ∧
  (new = .pattern → x.ex.mode ≠ .pattern → y.ex.onsetArmed = true) ∧
  (unfit → y.ex.suspendFlag = true ∧
    (x.ex.st = .armed ∨ runs → y.ex.st = .suspended ∧ y.ex.cycle = .noCycle ∧ skips)) ∧
  (¬unfit → y.ex.suspendFlag = x.ex.suspendFlag ∧
    (x.ex.st = .armed → y.ex.st = .running ∧ (new = .selftest → cycleStarts n y.ex) ∧
      (new = .pattern → delays) ∧ (new ≠ .pattern → skips)) ∧
    (runs → y.ex.st = .running ∧
      (new = .pattern → x.ex.mode ≠ .pattern → delays) ∧
      (new ≠ .pattern ∨ x.ex.mode = .pattern → skips) ∧
      (new = .selftest → x.ex.mode ≠ .selftest → cycleStarts n y.ex) ∧
      (x.ex.mode = .selftest →
        (new = .selftest → x.ex.cycle = .cycleEnded → cycleStarts n y.ex) ∧
        (new = .selftest → x.ex.cycle ≠ .cycleEnded →
          y.ex.cycle = x.ex.cycle ∧ y.ex.latched = x.ex.latched ∧
          y.ex.vectorCount = x.ex.vectorCount ∧ y.ex.expiry = x.ex.expiry) ∧
        (new ≠ .selftest → y.ex.cycle = .noCycle ∧ y.ex.latched = none ∧ y.ex.expiry = none)))) ∧
  (x.ex.st ≠ .armed → x.ex.st ≠ .running → x.ex.st ≠ .diag → y.ex.st = x.ex.st)

/-- R124, R126, R131, R133, R134, R136, R137, R143, R145, R146, R149, R156, R57, R60: the frame boundary: the
exerciser's own frame, generators and map, the step of the board command that waits for it, and for every
socket the close of its frame, whatever mode is pending, the suspension at a swap, and the beginning of the next frame
with its mode, its skip counts and its onset. That the
boundary is a row of its own, due after the last vector, is log entry 38. -/
def Obligations.FrameBoundariesStartTheNextFrame : Prop :=
  ∀ s : State, s.pins.por = false → s.pxr.boundaryDue = true →
    ∃ t, exec .frameBoundary s = .next t ∧
      t = { s with pxr := t.pxr, brc := t.brc, sockets := t.sockets, smc := t.smc } ∧
      t.pxr.vectorIndex = 0 ∧ t.pxr.frameNumber = s.pxr.frameNumber + 1 ∧
      t.pxr.frameLength = s.pxr.pendingLength ∧ t.pxr.vectorRate = s.pxr.pendingRate ∧
      t.pxr.boundaryDue = false ∧ t.pxr.swapPending = false ∧ t.pxr.reloadAll = false ∧
      (∀ g : Fin 4,
        (s.pxr.reloadAll = true → t.pxr.gens[g] =
          ⟨s.scu.config.seeds[g], s.scu.config.seeds[g], s.scu.config.restarts[g]⟩) ∧
        (s.pxr.reloadAll = false → s.pxr.gens[g].restart = .restart →
          t.pxr.gens[g] = { s.pxr.gens[g] with state := s.pxr.gens[g].seed }) ∧
        (s.pxr.reloadAll = false → s.pxr.gens[g].restart = .continuous →
          t.pxr.gens[g] = s.pxr.gens[g])) ∧
      (s.pxr.swapPending = false → t.pxr.active = s.pxr.active ∧
        t.brc.mapGeneration = s.brc.mapGeneration) ∧
      (s.pxr.swapPending = true → t.pxr.active = s.pxr.staging ∧
        t.pxr.staging = LaneMap.reset ∧ t.pxr.delivered = 0 ∧
        t.brc.mapGeneration = s.brc.mapGeneration + 1) ∧
      t.brc = { s.brc with channel := t.brc.channel, mapGeneration := t.brc.mapGeneration } ∧
      (∀ ch, s.brc.channel = some ch →
        (s.pxr.swapPending = true → ch.code = .loadLaneMap → ch.step = .swapWait →
          t.brc.channel = some { ch with step := .doneWait }) ∧
        (s.pxr.swapPending = false → ch.code = .diagnose → ch.step = .frameWait →
          t.brc.channel = some { ch with step := .diagFrame }) ∧
        (s.pxr.swapPending = false → ch.code = .diagnose → ch.step = .diagFrame →
          t.brc.channel = some { ch with step := .doneWait }) ∧
        (ch.step ≠ .swapWait → ch.step ≠ .frameWait → ch.step ≠ .diagFrame →
          t.brc.channel = s.brc.channel)) ∧
      (s.brc.channel = none → t.brc.channel = none) ∧
      ∀ i : SocketIx,
        (t.sock i).ex.winStart = (s.sock i).gate.shadow.num.winStart ∧
        (t.sock i).ex.winLength = (s.sock i).gate.shadow.num.winLength ∧
        (t.sock i).ex.threshold = (s.sock i).gate.shadow.num.errThreshold ∧
        (t.sock i).ex.frameLane = Vector.replicate 16 0 ∧ (t.sock i).ex.frameTotal = 0 ∧
        (s.brc.diagnoses i = false →
          frameBegins s.pxr.active (if s.pxr.swapPending then s.pxr.staging else s.pxr.active)
            s.pxr.swapPending i (s.sock i) (t.sock i)) ∧
        ((s.sock i).ex.st = .running → (s.sock i).ex.mode = .pattern →
          frameCompared s.pxr.frameNumber (s.sock i) (t.sock i)) ∧
        ((s.sock i).ex.st = .diag → s.brc.diagnoses i = false →
          (t.sock i).ex.st = .stopped ∧ (t.sock i).ex.diagErrors = (s.sock i).ex.diagCount ∧
          (t.sock i).ex.diagResult =
            (if (s.sock i).ex.diagCount = 0 then DiagResult.pass else .fail) ∧
          ((s.sock i).ex.diagCount ≠ 0 → (s.sock i).acct.phase = .waiting →
            (t.sock i).acct.phase = .retired ∧ (t.sock i).acct.retireKind = .diagnosis ∧
            (t.sock i).acct.bin = .boardFault ∧
            t.smc.attention.getLsbD Cause.socketEnded.bit = true)) ∧
        ((s.sock i).ex.st = .stopped → s.brc.diagnoses i = true →
          (t.sock i).ex.st = .diag ∧ (t.sock i).ex.diagCount = 0)

/-- The level a lane is expected to take at a vector (R141): the source stream of its entry, now or Delay
vectors before. -/
def expectedLevel (p : Pxr) (m : LaneEntry) (line : BitVec 64) : Bool :=
  if m.delay = 0 then m.sourceBit p.gens p.vectorIndex true else line.getLsbD (m.delay - 1)

/-- Whether a lane of a socket has a mismatch at the vector (R142). -/
def misses (s : State) (recv : LaneBits) (i : SocketIx) (l : LaneIx) : Bool :=
  let m := s.pxr.vectorMap[i][l]
  let e := (s.sock i).ex
  decide (e.st = .running ∧ e.mode = .pattern ∧
    ((s.sock i).rail.st = .on ∨ (s.sock i).rail.st = .slew) ∧
    m.direction = .sense ∧ m.compare = true ∧ e.winStart ≤ s.pxr.vectorIndex ∧
    s.pxr.vectorIndex < e.winStart + e.winLength ∧ e.skip[l] = 0 ∧
    recv.getLsbD (16 * i.val + l.val) ≠ expectedLevel s.pxr m e.delayLine[l])

/-- The diagnosis of one socket at a vector (R155): each of the 16 loopback levels that differs from GEN0's
output is counted. -/
def diagnosisCounts (gen0 : Bool) (loop : LaneBits) (i : SocketIx) (x y : Socket) : Prop :=
  (x.ex.st = .diag → y.ex.diagCount = min 65535 (x.ex.diagCount +
    (List.finRange 16).countP fun l => loop.getLsbD (16 * i.val + l.val) != gen0)) ∧
  (x.ex.st ≠ .diag → y.ex.diagCount = x.ex.diagCount)

/-- What a running self-test cycle makes of a vector at which its Done Lane rises (R151, R153, R174), and of
one at which it does not. -/
def doneEdgeTaken (c : CycleSettings) (recv : LaneBits) (i : SocketIx) (x y : Socket) : Prop :=
  let level (l : Nat) : Bool := recv.getLsbD (16 * i.val + l)
  let rises : Prop := level c.doneLane = true ∧ x.ex.prevRecv.getLsbD c.doneLane = false
  let duration := min 4294967295 x.ex.vectorCount
  let kept : Prop := y.acct = x.acct ∧ y.ex.cycles = x.ex.cycles ∧
    y.ex.lastDuration = x.ex.lastDuration
  (¬rises → kept ∧ y.ex.spurious = x.ex.spurious ∧ y.ex.heldSpurious = x.ex.heldSpurious) ∧
  (rises → x.ex.cycle = .startDelay ∨ x.ex.cycle = .startPulse → kept ∧
    y.ex.spurious = x.ex.spurious ∧ y.ex.heldSpurious = min 65535 (x.ex.heldSpurious + 1)) ∧
  (rises → x.ex.cycle = .cycleEnded → kept ∧ y.ex.cycle = .cycleEnded ∧
    y.ex.spurious = min 65535 (x.ex.spurious + 1)) ∧
  (rises → x.ex.cycle = .noCycle → kept ∧ y.ex.cycle = .noCycle ∧
    y.ex.spurious = x.ex.spurious ∧ y.ex.heldSpurious = x.ex.heldSpurious) ∧
  (rises → x.ex.cycle = .awaitingDone →
    y.ex.cycles = min 4294967295 (x.ex.cycles + 1) ∧ y.ex.lastDuration = duration ∧
    y.ex.spurious = min 65535 (x.ex.spurious + x.ex.heldSpurious) ∧ y.ex.expiry = none ∧
    (level c.passLane = true → y.acct = x.acct ∧ y.ex.cycle = .cycleEnded) ∧
    (level c.passLane = false →
      conditionTaken .selftestFail 0 [BitVec.ofNat 16 (duration % 65536),
        BitVec.ofNat 16 (duration / 65536)] x.acct.dwellSec x y ∧
      (¬conditionEnds .selftestFail x → y.ex.cycle = .cycleEnded ∧ y.acct.phase = x.acct.phase)))

/-- R123, R125, R141, R142, R151, R153, R155: one vector. The generators step and never reach 0 from a state
that is not 0; the index advances, or the frame boundary becomes due; every delay line takes the source bit;
a lane counts a mismatch exactly when every condition of R142 holds, and the frame error total counts every
lane's; the skip count of a lane that R142 can compare counts down; a diagnosis counts its errors; and a
running self-test cycle takes its done edge or counts a spurious one. The levels received are kept as those of the
vector before for the next, which the active map governs. That a skip count counts down also while
the socket is not comparing is log entry 28; that the last vector only makes the boundary due, and that the map
in force at a vector's start governs it, is log entry 38. -/
def Obligations.VectorsStepAndCompare : Prop :=
  ∀ (s : State) (recv loop : LaneBits) (k : Bool), s.pins.por = false → s.pxr.boundaryDue = false →
    ∃ t, exec (.laneVectorSample recv loop k) s = .next t ∧
      t = { s with pxr := t.pxr, sockets := t.sockets, smc := t.smc } ∧
      t.pxr.active = s.pxr.active ∧ t.pxr.staging = s.pxr.staging ∧
      t.pxr.vectorMap = s.pxr.active ∧ t.pxr.frameNumber = s.pxr.frameNumber ∧
      (s.pxr.vectorIndex + 1 < s.pxr.frameLength →
        t.pxr.vectorIndex = s.pxr.vectorIndex + 1 ∧ t.pxr.boundaryDue = false) ∧
      (s.pxr.frameLength ≤ s.pxr.vectorIndex + 1 → t.pxr.boundaryDue = true) ∧
      (∀ g : Fin 4, (∀ k : Nat, k < 14 →
          t.pxr.gens[g].state.getLsbD (k + 1) = s.pxr.gens[g].state.getLsbD k) ∧
        t.pxr.gens[g].state.getLsbD 0 =
          (s.pxr.gens[g].state.getLsbD 14 ^^ s.pxr.gens[g].state.getLsbD 13) ∧
        (s.pxr.gens[g].state ≠ 0 → t.pxr.gens[g].state ≠ 0)) ∧
      ∀ (i : SocketIx) (l : LaneIx),
        let m := s.pxr.vectorMap[i][l]
        let e := (s.sock i).ex
        (m.delay < 64 → e.mode ≠ .selftest → (t.sock i).ex.frameLane[l] =
          if misses s recv i l then min 65535 (e.frameLane[l] + 1) else e.frameLane[l]) ∧
        ((∀ k : LaneIx, s.pxr.vectorMap[i][k].delay < 64) → e.mode ≠ .selftest →
          (t.sock i).ex.frameTotal = min 65535 (e.frameTotal +
            (List.finRange 16).countP fun k => misses s recv i k)) ∧
        (m.direction = .sense → m.compare = true → (t.sock i).ex.skip[l] = e.skip[l] - 1) ∧
        (m.direction ≠ .sense ∨ m.compare = false → (t.sock i).ex.skip[l] = e.skip[l]) ∧
        (t.sock i).ex.delayLine[l].getLsbD 0 =
          m.sourceBit s.pxr.gens s.pxr.vectorIndex true ∧
        (∀ k : Nat, k < 63 →
          (t.sock i).ex.delayLine[l].getLsbD (k + 1) = e.delayLine[l].getLsbD k) ∧
        (t.sock i).ex.prevRecv.getLsbD l.val = recv.getLsbD (16 * i.val + l.val) ∧
        (t.sock i).rail.trips = (s.sock i).rail.trips ∧ (t.sock i).gate = (s.sock i).gate ∧
        diagnosisCounts (s.pxr.gens[0].state.getLsbD 14) loop i (s.sock i) (t.sock i) ∧
        ∀ c, e.st = .running → e.mode = .selftest → e.latched = some c →
          c.doneLane < 16 → c.passLane < 16 →
          doneEdgeTaken c recv i (s.sock i) (t.sock i)

/-- R150, R151, R152, R153: a running self-test cycle's start pulse begins at the end of the vector that
completes Start Delay and ends at the end of the vector that completes Start Width; every other vector of the
delay, of the pulse and of the wait for the done edge that brings no done edge adds 1 to the vector count; the
timeout ends the cycle that awaits its done edge, with the condition SELFTEST_TIMEOUT and its Cycle Number,
whatever that reads once Self-Test Cycles is saturated (log entry 45). Its time is the first sense tick at which
Done Timeout ms have elapsed since the end of the pulse: the tick Done Timeout ms on for a pulse that ended at the
moment of a tick, and the tick after that for one that ended between two (log entry 25). When a time has come on the
wrapping count is the model's choice (log entry 9), and that the two START_PULSE rows are the vector's row where
it has that outcome is log entry 7. -/
def Obligations.SelfTestCyclesPulseAndTimeOut : Prop :=
  ∀ (s : State) (i : SocketIx) (recv loop : LaneBits) (k : Bool), s.pins.por = false →
    let e := (s.sock i).ex
    (∀ l, s.pxr.boundaryDue = false → e.latched = some l → e.cycle = .startDelay →
      l.startDelay ≤ e.vectorCount + 1 →
      ∃ t, exec (.startPulseBegin i recv loop k) s = .next t ∧
        exec (.laneVectorSample recv loop k) s = .next t ∧
        t = { s with pxr := t.pxr, sockets := t.sockets, smc := t.smc } ∧
        (t.sock i).ex.cycle = .startPulse ∧ (t.sock i).ex.vectorCount = 0 ∧
        (t.sock i).acct = (s.sock i).acct) ∧
    (∀ l, s.pxr.boundaryDue = false → e.latched = some l → e.cycle = .startPulse →
      l.startWidth ≤ e.vectorCount + 1 →
      ∃ t, exec (.startPulseEnd i recv loop k) s = .next t ∧
        exec (.laneVectorSample recv loop k) s = .next t ∧
        t = { s with pxr := t.pxr, sockets := t.sockets, smc := t.smc } ∧
        (t.sock i).ex.cycle = .awaitingDone ∧
        (t.sock i).ex.vectorCount = e.vectorCount + 1 ∧
        (t.sock i).ex.expiry = some (s.time.runMs +
          BitVec.ofNat 32 (if k = true then l.doneTimeout else l.doneTimeout + 1)) ∧
        (t.sock i).acct = (s.sock i).acct) ∧
    (∀ l, s.pxr.boundaryDue = false → e.latched = some l →
      (e.cycle = .startDelay ∧ e.vectorCount + 1 < l.startDelay) ∨
        (e.cycle = .startPulse ∧ e.vectorCount + 1 < l.startWidth) ∨
        (e.cycle = .awaitingDone ∧ (recv.getLsbD (16 * i.val + l.doneLane) = false ∨
          e.prevRecv.getLsbD l.doneLane = true)) → l.doneLane < 16 →
      ∃ t, exec (.laneVectorSample recv loop k) s = .next t ∧ (t.sock i).ex.cycle = e.cycle ∧
        (t.sock i).ex.vectorCount = e.vectorCount + 1 ∧ (t.sock i).ex.latched = e.latched ∧
        (t.sock i).ex.expiry = e.expiry ∧ (t.sock i).acct = (s.sock i).acct) ∧
    (∀ x, e.cycle = .awaitingDone → e.expiry = some x →
      (s.time.runMs - x).toNat < 2147483648 →
      ∃ t, exec (.selftestTimeout i) s = .next t ∧
        t = { s with sockets := t.sockets, smc := t.smc, freeCount := t.freeCount } ∧
        (e.cycles < 4294967295 → t.freeCount = s.freeCount) ∧
        (∀ j : SocketIx, j ≠ i → t.sock j = s.sock j) ∧
        (t.sock i).ex.expiry = none ∧ (t.sock i).ex.cycles = e.cycles ∧
        (t.sock i).ex.lastDuration = e.lastDuration ∧
        (t.sock i).ex.spurious = min 65535 (e.spurious + e.heldSpurious) ∧
        (∃ d : List Word, d.length = 2 ∧
          (e.cycles < 4294967295 → d = [BitVec.ofNat 16 ((e.cycles + 1) % 65536),
            BitVec.ofNat 16 ((e.cycles + 1) / 65536)]) ∧
          conditionTaken .selftestTimeout 0 d (s.sock i).acct.dwellSec (s.sock i) (t.sock i)) ∧
        (¬conditionEnds .selftestTimeout (s.sock i) →
          (t.sock i).ex.cycle = .cycleEnded ∧ (t.sock i).acct.phase = (s.sock i).acct.phase))

/-! ## The interlock -/

/-- R61, R84, R116, R62: the assertion of INTERLOCK_N and its release. -/
def Obligations.InterlockCutsEverything : Prop :=
  ∀ s : State, s.pins.por = false →
    exec .interlockRelease s = .next { s with pins := { s.pins with interlock := false } } ∧
    (s.pins.interlock = false → ∃ t, exec .interlockAssert s = .next t ∧
      t = { s with pins := { s.pins with interlock := true }, brc := t.brc, smc := t.smc
                   sockets := t.sockets } ∧
      t.smc.attention.getLsbD Cause.interlock.bit = true ∧
      t.brc.interlockCount = min 65535 (s.brc.interlockCount + 1) ∧
      (s.brc.state = .running ∨ s.brc.state = .holding →
        t.brc.state = .holding ∧ t.brc.reason = .interlock ∧ t.brc.channel = s.brc.channel) ∧
      (s.brc.state = .stopped → t.brc.state = .stopped ∧ t.brc.channel = s.brc.channel) ∧
      (∀ ch, s.brc.state = .stopping → s.brc.channel = some ch →
        t.brc.state = .stopped ∧ t.brc.channel = none ∧ t.brc.completedTag = ch.tag ∧
        t.brc.result = .success) ∧
      ∀ i : SocketIx,
        (t.sock i).rail.st = .off ∧ (t.sock i).rail.dac = 0 ∧ (t.sock i).rail.holdOff = none ∧
        (t.sock i).rail.trips = (s.sock i).rail.trips ∧
        (t.sock i).rail.pendingEntry = false ∧ (t.sock i).rail.window = [] ∧
        (t.sock i).thermal.u = 0 ∧ (t.sock i).thermal.preload = 0 ∧
        (t.sock i).thermal.iAcc = 0 ∧ (t.sock i).thermal.grant = 0 ∧
        (t.sock i).thermal.duty = 0 ∧ (t.sock i).thermal.heaterOn = false ∧
        (t.sock i).thermal.coolerOn = false ∧
        (t.sock i).thermal.periodSide = (s.sock i).thermal.periodSide ∧
        ((s.sock i).ex.st = .armed ∨ (s.sock i).ex.st = .running →
          (t.sock i).ex.st = .paused) ∧
        (t.sock i).acct.kindCount = (s.sock i).acct.kindCount ∧
        (t.sock i).acct.spoil = true ∧
        (s.brc.state = .running ∨ s.brc.state = .holding →
          (s.sock i).acct.phase.asResume ≠ .none →
          (t.sock i).acct.phase = .held ∧
          (t.sock i).acct.resume = (s.sock i).acct.phase.asResume))

/-! ## Failure accounting -/

/-- R174, R175, R176, R179, R180, R181: what a condition does to its socket. It is dropped outside the
reporting phases; it counts its kind; LOG, STRIKE and RETIRE build a record, staged while fewer than 4
are and lost otherwise, and the first record sets First Fail Dwell to its Dwell Seconds; a strike at the limit and RETIRE retire the socket. The action is the socket's
Kind Action, but RETIRE for THERMAL ABS_LIMIT, subcode 2, whose retirement has bin FAIL_THERMAL. -/
def Obligations.ConditionsAreAccounted : Prop :=
  ∀ (c : Ctx) (k : Kind) (sub : Nat) (d : List Word) (x : Socket),
    let y := x.takeCondition c k sub d
    let act := x.gate.shadow.actionFor k sub
    (k = .thermal → sub = 2 → act = .retire ∧ (x.acct.phase.reporting = true →
      y.acct.retireKind = .kind .thermal ∧ y.acct.bin = .failThermal)) ∧
    (k ≠ .thermal ∨ sub ≠ 2 → act = x.gate.shadow.kindActions[k.ix]) ∧
    (x.acct.phase.reporting = false → y = x) ∧
    (x.acct.phase.reporting = true →
      y.acct.kindCount[k.ix] = min 65535 (x.acct.kindCount[k.ix] + 1) ∧
      (∀ o : Kind, o ≠ k → y.acct.kindCount[o.ix] = x.acct.kindCount[o.ix]) ∧
      (act = .ignore → y = { x with acct := { x.acct with kindCount := y.acct.kindCount } }) ∧
      (act ≠ .ignore → y.acct.failTotal = x.acct.failTotal + 1 ∧
        y.acct.firstFailDwell = (if x.acct.firstFailDwell = 0xFFFFFFFF
          then BitVec.ofNat 32 x.acct.dwellSec else x.acct.firstFailDwell) ∧
        (x.acct.staging.length < 4 → y.acct.detailLost = x.acct.detailLost ∧
          ∃ f : FailRecord, y.acct.staging = x.acct.staging ++ [f] ∧ f.kind = k ∧
            f.subcode = sub ∧ f.details = d ∧ f.phase = x.acct.phase ∧
            f.sweep = c.sweepNumber ∧ f.dwell = x.acct.dwellSec ∧
            f.voltage = x.rail.voltage ∧ f.current = x.rail.current ∧
            f.temperature = x.sensor.word ∧
            f.sequence = (x.acct.failTotal + 1).extractLsb' 0 16) ∧
        (4 ≤ x.acct.staging.length → y.acct.staging = x.acct.staging ∧
          y.acct.detailLost = x.acct.detailLost + 1)) ∧
      (act = .ignore ∨ act = .log → y.acct.phase = x.acct.phase ∧ y.rail = x.rail ∧
        y.thermal = x.thermal ∧ y.ex = x.ex ∧ y.acct.strikes = x.acct.strikes) ∧
      (act = .strike → y.acct.strikes = x.acct.strikes + 1 ∧
        (x.acct.strikes + 1 < x.gate.shadow.num.strikeLimit → y.acct.phase = x.acct.phase ∧
          y.rail = x.rail)) ∧
      (act = .retire ∨ (act = .strike ∧ x.gate.shadow.num.strikeLimit ≤ x.acct.strikes + 1) →
        y.acct.phase = .retired ∧ y.acct.resume = .none ∧ y.acct.retireKind = .kind k ∧
        y.acct.bin = (RetireKind.kind k).bin ∧ y.thermal.u = 0 ∧ y.thermal.heaterOn = false ∧
        y.thermal.coolerOn = false ∧ (x.rail.st.checked = true → y.rail.st = .rampDown) ∧
        (x.rail.st = .chainWait ∨ x.rail.st = .holdOff → y.rail.st = .off) ∧
        (x.ex.st = .running → x.acct.phase = .stressing → y.ex.st = .stopped)))
end

