-- ==== Sys2Proof/Laws/State.lean ====
section
/-! SUPPORT. What each operation on the state leaves alone: one lemma per field and operation. -/

namespace Sys2Proof.Machine

@[simp] theorem State.raise_mem (s : State) c : (s.raise c).mem = s.mem := rfl
@[simp] theorem State.raise_epoch (s : State) c : (s.raise c).epoch = s.epoch := rfl
@[simp] theorem State.raise_freeCount (s : State) c : (s.raise c).freeCount = s.freeCount := rfl
@[simp] theorem State.raise_pins (s : State) c : (s.raise c).pins = s.pins := rfl
@[simp] theorem State.raise_time (s : State) c : (s.raise c).time = s.time := rfl
@[simp] theorem State.raise_scu (s : State) c : (s.raise c).scu = s.scu := rfl
@[simp] theorem State.raise_brc (s : State) c : (s.raise c).brc = s.brc := rfl
@[simp] theorem State.raise_pxr (s : State) c : (s.raise c).pxr = s.pxr := rfl
@[simp] theorem State.raise_banks (s : State) c : (s.raise c).banks = s.banks := rfl
@[simp] theorem State.raise_sockets (s : State) c : (s.raise c).sockets = s.sockets := rfl
@[simp] theorem State.raise_pending (s : State) c : (s.raise c).pending = s.pending := rfl
@[simp] theorem State.raiseIf_mem (s : State) b c : (s.raiseIf b c).mem = s.mem := by
  unfold State.raiseIf; split <;> rfl
@[simp] theorem State.raiseIf_epoch (s : State) b c : (s.raiseIf b c).epoch = s.epoch := by
  unfold State.raiseIf; split <;> rfl
@[simp] theorem State.raiseIf_freeCount (s : State) b c : (s.raiseIf b c).freeCount = s.freeCount := by
  unfold State.raiseIf; split <;> rfl
@[simp] theorem State.raiseIf_pins (s : State) b c : (s.raiseIf b c).pins = s.pins := by
  unfold State.raiseIf; split <;> rfl
@[simp] theorem State.raiseIf_time (s : State) b c : (s.raiseIf b c).time = s.time := by
  unfold State.raiseIf; split <;> rfl
@[simp] theorem State.raiseIf_scu (s : State) b c : (s.raiseIf b c).scu = s.scu := by
  unfold State.raiseIf; split <;> rfl
@[simp] theorem State.raiseIf_brc (s : State) b c : (s.raiseIf b c).brc = s.brc := by
  unfold State.raiseIf; split <;> rfl
@[simp] theorem State.raiseIf_pxr (s : State) b c : (s.raiseIf b c).pxr = s.pxr := by
  unfold State.raiseIf; split <;> rfl
@[simp] theorem State.raiseIf_banks (s : State) b c : (s.raiseIf b c).banks = s.banks := by
  unfold State.raiseIf; split <;> rfl
@[simp] theorem State.raiseIf_sockets (s : State) b c : (s.raiseIf b c).sockets = s.sockets := by
  unfold State.raiseIf; split <;> rfl
@[simp] theorem State.raiseIf_pending (s : State) b c : (s.raiseIf b c).pending = s.pending := by
  unfold State.raiseIf; split <;> rfl
@[simp] theorem State.updSock_mem (s : State) i f : (s.updSock i f).mem = s.mem := by
  unfold State.updSock
  simp
@[simp] theorem State.updSock_epoch (s : State) i f : (s.updSock i f).epoch = s.epoch := by
  unfold State.updSock
  simp
@[simp] theorem State.updSock_freeCount (s : State) i f : (s.updSock i f).freeCount = s.freeCount := by
  unfold State.updSock
  simp
@[simp] theorem State.updSock_pins (s : State) i f : (s.updSock i f).pins = s.pins := by
  unfold State.updSock
  simp
@[simp] theorem State.updSock_time (s : State) i f : (s.updSock i f).time = s.time := by
  unfold State.updSock
  simp
@[simp] theorem State.updSock_scu (s : State) i f : (s.updSock i f).scu = s.scu := by
  unfold State.updSock
  simp
@[simp] theorem State.updSock_brc (s : State) i f : (s.updSock i f).brc = s.brc := by
  unfold State.updSock
  simp
@[simp] theorem State.updSock_pxr (s : State) i f : (s.updSock i f).pxr = s.pxr := by
  unfold State.updSock
  simp
@[simp] theorem State.updSock_banks (s : State) i f : (s.updSock i f).banks = s.banks := by
  unfold State.updSock
  simp
@[simp] theorem State.updSock_pending (s : State) i f : (s.updSock i f).pending = s.pending := by
  unfold State.updSock
  simp
@[simp] theorem State.updAll_mem (s : State) f : (s.updAll f).mem = s.mem := by
  unfold State.updAll
  simp
@[simp] theorem State.updAll_epoch (s : State) f : (s.updAll f).epoch = s.epoch := by
  unfold State.updAll
  simp
@[simp] theorem State.updAll_freeCount (s : State) f : (s.updAll f).freeCount = s.freeCount := by
  unfold State.updAll
  simp
@[simp] theorem State.updAll_pins (s : State) f : (s.updAll f).pins = s.pins := by
  unfold State.updAll
  simp
@[simp] theorem State.updAll_time (s : State) f : (s.updAll f).time = s.time := by
  unfold State.updAll
  simp
@[simp] theorem State.updAll_scu (s : State) f : (s.updAll f).scu = s.scu := by
  unfold State.updAll
  simp
@[simp] theorem State.updAll_brc (s : State) f : (s.updAll f).brc = s.brc := by
  unfold State.updAll
  simp
@[simp] theorem State.updAll_pxr (s : State) f : (s.updAll f).pxr = s.pxr := by
  unfold State.updAll
  simp
@[simp] theorem State.updAll_banks (s : State) f : (s.updAll f).banks = s.banks := by
  unfold State.updAll
  simp
@[simp] theorem State.updAll_pending (s : State) f : (s.updAll f).pending = s.pending := by
  unfold State.updAll
  simp
@[simp] theorem State.updBankSocks_mem (s : State) b f : (s.updBankSocks b f).mem = s.mem := by
  unfold State.updBankSocks
  simp
@[simp] theorem State.updBankSocks_epoch (s : State) b f : (s.updBankSocks b f).epoch = s.epoch := by
  unfold State.updBankSocks
  simp
@[simp] theorem State.updBankSocks_freeCount (s : State) b f : (s.updBankSocks b f).freeCount = s.freeCount := by
  unfold State.updBankSocks
  simp
@[simp] theorem State.updBankSocks_pins (s : State) b f : (s.updBankSocks b f).pins = s.pins := by
  unfold State.updBankSocks
  simp
@[simp] theorem State.updBankSocks_time (s : State) b f : (s.updBankSocks b f).time = s.time := by
  unfold State.updBankSocks
  simp
@[simp] theorem State.updBankSocks_scu (s : State) b f : (s.updBankSocks b f).scu = s.scu := by
  unfold State.updBankSocks
  simp
@[simp] theorem State.updBankSocks_brc (s : State) b f : (s.updBankSocks b f).brc = s.brc := by
  unfold State.updBankSocks
  simp
@[simp] theorem State.updBankSocks_pxr (s : State) b f : (s.updBankSocks b f).pxr = s.pxr := by
  unfold State.updBankSocks
  simp
@[simp] theorem State.updBankSocks_banks (s : State) b f : (s.updBankSocks b f).banks = s.banks := by
  unfold State.updBankSocks
  simp
@[simp] theorem State.updBankSocks_pending (s : State) b f : (s.updBankSocks b f).pending = s.pending := by
  unfold State.updBankSocks
  simp
@[simp] theorem State.updBank_mem (s : State) b f : (s.updBank b f).mem = s.mem := rfl
@[simp] theorem State.updBank_epoch (s : State) b f : (s.updBank b f).epoch = s.epoch := rfl
@[simp] theorem State.updBank_freeCount (s : State) b f : (s.updBank b f).freeCount = s.freeCount := rfl
@[simp] theorem State.updBank_pins (s : State) b f : (s.updBank b f).pins = s.pins := rfl
@[simp] theorem State.updBank_time (s : State) b f : (s.updBank b f).time = s.time := rfl
@[simp] theorem State.updBank_smc (s : State) b f : (s.updBank b f).smc = s.smc := rfl
@[simp] theorem State.updBank_scu (s : State) b f : (s.updBank b f).scu = s.scu := rfl
@[simp] theorem State.updBank_brc (s : State) b f : (s.updBank b f).brc = s.brc := rfl
@[simp] theorem State.updBank_pxr (s : State) b f : (s.updBank b f).pxr = s.pxr := rfl
@[simp] theorem State.updBank_sockets (s : State) b f : (s.updBank b f).sockets = s.sockets := rfl
@[simp] theorem State.updBank_pending (s : State) b f : (s.updBank b f).pending = s.pending := rfl
@[simp] theorem State.releasePort_mem (s : State) : (s.releasePort).mem = s.mem := rfl
@[simp] theorem State.releasePort_epoch (s : State) : (s.releasePort).epoch = s.epoch := rfl
@[simp] theorem State.releasePort_freeCount (s : State) : (s.releasePort).freeCount = s.freeCount := rfl
@[simp] theorem State.releasePort_pins (s : State) : (s.releasePort).pins = s.pins := rfl
@[simp] theorem State.releasePort_time (s : State) : (s.releasePort).time = s.time := rfl
@[simp] theorem State.releasePort_scu (s : State) : (s.releasePort).scu = s.scu := rfl
@[simp] theorem State.releasePort_brc (s : State) : (s.releasePort).brc = s.brc := rfl
@[simp] theorem State.releasePort_pxr (s : State) : (s.releasePort).pxr = s.pxr := rfl
@[simp] theorem State.releasePort_banks (s : State) : (s.releasePort).banks = s.banks := rfl
@[simp] theorem State.releasePort_sockets (s : State) : (s.releasePort).sockets = s.sockets := rfl
@[simp] theorem State.releasePort_pending (s : State) : (s.releasePort).pending = s.pending := rfl
@[simp] theorem State.requestScan_mem (s : State) t : (s.requestScan t).mem = s.mem := rfl
@[simp] theorem State.requestScan_epoch (s : State) t : (s.requestScan t).epoch = s.epoch := rfl
@[simp] theorem State.requestScan_freeCount (s : State) t : (s.requestScan t).freeCount = s.freeCount := rfl
@[simp] theorem State.requestScan_pins (s : State) t : (s.requestScan t).pins = s.pins := rfl
@[simp] theorem State.requestScan_time (s : State) t : (s.requestScan t).time = s.time := rfl
@[simp] theorem State.requestScan_scu (s : State) t : (s.requestScan t).scu = s.scu := rfl
@[simp] theorem State.requestScan_brc (s : State) t : (s.requestScan t).brc = s.brc := rfl
@[simp] theorem State.requestScan_pxr (s : State) t : (s.requestScan t).pxr = s.pxr := rfl
@[simp] theorem State.requestScan_banks (s : State) t : (s.requestScan t).banks = s.banks := rfl
@[simp] theorem State.requestScan_sockets (s : State) t : (s.requestScan t).sockets = s.sockets := rfl
@[simp] theorem State.requestScan_pending (s : State) t : (s.requestScan t).pending = s.pending := rfl
@[simp] theorem State.writeWord_epoch (s : State) a d : (s.writeWord a d).epoch = s.epoch := rfl
@[simp] theorem State.writeWord_freeCount (s : State) a d : (s.writeWord a d).freeCount = s.freeCount := rfl
@[simp] theorem State.writeWord_pins (s : State) a d : (s.writeWord a d).pins = s.pins := rfl
@[simp] theorem State.writeWord_time (s : State) a d : (s.writeWord a d).time = s.time := rfl
@[simp] theorem State.writeWord_smc (s : State) a d : (s.writeWord a d).smc = s.smc := rfl
@[simp] theorem State.writeWord_scu (s : State) a d : (s.writeWord a d).scu = s.scu := rfl
@[simp] theorem State.writeWord_brc (s : State) a d : (s.writeWord a d).brc = s.brc := rfl
@[simp] theorem State.writeWord_pxr (s : State) a d : (s.writeWord a d).pxr = s.pxr := rfl
@[simp] theorem State.writeWord_banks (s : State) a d : (s.writeWord a d).banks = s.banks := rfl
@[simp] theorem State.writeWord_sockets (s : State) a d : (s.writeWord a d).sockets = s.sockets := rfl
@[simp] theorem State.writeWord_pending (s : State) a d : (s.writeWord a d).pending = s.pending := rfl
@[simp] theorem State.completeWith_mem (s : State) tag res d : (s.completeWith tag res d).mem = s.mem := by
  unfold State.completeWith
  simp
@[simp] theorem State.completeWith_epoch (s : State) tag res d : (s.completeWith tag res d).epoch = s.epoch := by
  unfold State.completeWith
  simp
@[simp] theorem State.completeWith_freeCount (s : State) tag res d : (s.completeWith tag res d).freeCount = s.freeCount := by
  unfold State.completeWith
  simp
@[simp] theorem State.completeWith_pins (s : State) tag res d : (s.completeWith tag res d).pins = s.pins := by
  unfold State.completeWith
  simp
@[simp] theorem State.completeWith_time (s : State) tag res d : (s.completeWith tag res d).time = s.time := by
  unfold State.completeWith
  simp
@[simp] theorem State.completeWith_scu (s : State) tag res d : (s.completeWith tag res d).scu = s.scu := by
  unfold State.completeWith
  simp
@[simp] theorem State.completeWith_pxr (s : State) tag res d : (s.completeWith tag res d).pxr = s.pxr := by
  unfold State.completeWith
  simp
@[simp] theorem State.completeWith_banks (s : State) tag res d : (s.completeWith tag res d).banks = s.banks := by
  unfold State.completeWith
  simp
@[simp] theorem State.completeWith_sockets (s : State) tag res d : (s.completeWith tag res d).sockets = s.sockets := by
  unfold State.completeWith
  simp
@[simp] theorem State.completeWith_pending (s : State) tag res d : (s.completeWith tag res d).pending = s.pending := by
  unfold State.completeWith
  simp
@[simp] theorem State.completeChannel_mem (s : State) res d : (s.completeChannel res d).mem = s.mem := by
  unfold State.completeChannel
  (repeat' split) <;> simp
@[simp] theorem State.completeChannel_epoch (s : State) res d : (s.completeChannel res d).epoch = s.epoch := by
  unfold State.completeChannel
  (repeat' split) <;> simp
@[simp] theorem State.completeChannel_freeCount (s : State) res d : (s.completeChannel res d).freeCount = s.freeCount := by
  unfold State.completeChannel
  (repeat' split) <;> simp
@[simp] theorem State.completeChannel_pins (s : State) res d : (s.completeChannel res d).pins = s.pins := by
  unfold State.completeChannel
  (repeat' split) <;> simp
@[simp] theorem State.completeChannel_time (s : State) res d : (s.completeChannel res d).time = s.time := by
  unfold State.completeChannel
  (repeat' split) <;> simp
@[simp] theorem State.completeChannel_scu (s : State) res d : (s.completeChannel res d).scu = s.scu := by
  unfold State.completeChannel
  (repeat' split) <;> simp
@[simp] theorem State.completeChannel_pxr (s : State) res d : (s.completeChannel res d).pxr = s.pxr := by
  unfold State.completeChannel
  (repeat' split) <;> simp
@[simp] theorem State.completeChannel_banks (s : State) res d : (s.completeChannel res d).banks = s.banks := by
  unfold State.completeChannel
  (repeat' split) <;> simp
@[simp] theorem State.completeChannel_sockets (s : State) res d : (s.completeChannel res d).sockets = s.sockets := by
  unfold State.completeChannel
  (repeat' split) <;> simp
@[simp] theorem State.completeChannel_pending (s : State) res d : (s.completeChannel res d).pending = s.pending := by
  unfold State.completeChannel
  (repeat' split) <;> simp
@[simp] theorem State.refuse_mem (s : State) tag why : (s.refuse tag why).mem = s.mem := by
  unfold State.refuse
  simp
@[simp] theorem State.refuse_epoch (s : State) tag why : (s.refuse tag why).epoch = s.epoch := by
  unfold State.refuse
  simp
@[simp] theorem State.refuse_freeCount (s : State) tag why : (s.refuse tag why).freeCount = s.freeCount := by
  unfold State.refuse
  simp
@[simp] theorem State.refuse_pins (s : State) tag why : (s.refuse tag why).pins = s.pins := by
  unfold State.refuse
  simp
@[simp] theorem State.refuse_time (s : State) tag why : (s.refuse tag why).time = s.time := by
  unfold State.refuse
  simp
@[simp] theorem State.refuse_scu (s : State) tag why : (s.refuse tag why).scu = s.scu := by
  unfold State.refuse
  simp
@[simp] theorem State.refuse_pxr (s : State) tag why : (s.refuse tag why).pxr = s.pxr := by
  unfold State.refuse
  simp
@[simp] theorem State.refuse_banks (s : State) tag why : (s.refuse tag why).banks = s.banks := by
  unfold State.refuse
  simp
@[simp] theorem State.refuse_sockets (s : State) tag why : (s.refuse tag why).sockets = s.sockets := by
  unfold State.refuse
  simp
@[simp] theorem State.refuse_pending (s : State) tag why : (s.refuse tag why).pending = s.pending := by
  unfold State.refuse
  simp
@[simp] theorem State.accept_mem (s : State) c : (s.accept c).mem = s.mem := rfl
@[simp] theorem State.accept_epoch (s : State) c : (s.accept c).epoch = s.epoch := rfl
@[simp] theorem State.accept_freeCount (s : State) c : (s.accept c).freeCount = s.freeCount := rfl
@[simp] theorem State.accept_pins (s : State) c : (s.accept c).pins = s.pins := rfl
@[simp] theorem State.accept_time (s : State) c : (s.accept c).time = s.time := rfl
@[simp] theorem State.accept_smc (s : State) c : (s.accept c).smc = s.smc := rfl
@[simp] theorem State.accept_scu (s : State) c : (s.accept c).scu = s.scu := rfl
@[simp] theorem State.accept_pxr (s : State) c : (s.accept c).pxr = s.pxr := rfl
@[simp] theorem State.accept_banks (s : State) c : (s.accept c).banks = s.banks := rfl
@[simp] theorem State.accept_sockets (s : State) c : (s.accept c).sockets = s.sockets := rfl
@[simp] theorem State.accept_pending (s : State) c : (s.accept c).pending = s.pending := rfl
@[simp] theorem State.holdChannel_mem (s : State) c code st : (s.holdChannel c code st).mem = s.mem := rfl
@[simp] theorem State.holdChannel_epoch (s : State) c code st : (s.holdChannel c code st).epoch = s.epoch := rfl
@[simp] theorem State.holdChannel_freeCount (s : State) c code st : (s.holdChannel c code st).freeCount = s.freeCount := rfl
@[simp] theorem State.holdChannel_pins (s : State) c code st : (s.holdChannel c code st).pins = s.pins := rfl
@[simp] theorem State.holdChannel_time (s : State) c code st : (s.holdChannel c code st).time = s.time := rfl
@[simp] theorem State.holdChannel_smc (s : State) c code st : (s.holdChannel c code st).smc = s.smc := rfl
@[simp] theorem State.holdChannel_scu (s : State) c code st : (s.holdChannel c code st).scu = s.scu := rfl
@[simp] theorem State.holdChannel_pxr (s : State) c code st : (s.holdChannel c code st).pxr = s.pxr := rfl
@[simp] theorem State.holdChannel_banks (s : State) c code st : (s.holdChannel c code st).banks = s.banks := rfl
@[simp] theorem State.holdChannel_sockets (s : State) c code st : (s.holdChannel c code st).sockets = s.sockets := rfl
@[simp] theorem State.holdChannel_pending (s : State) c code st : (s.holdChannel c code st).pending = s.pending := rfl
@[simp] theorem State.setBoard_mem (s : State) b r : (s.setBoard b r).mem = s.mem := rfl
@[simp] theorem State.setBoard_epoch (s : State) b r : (s.setBoard b r).epoch = s.epoch := rfl
@[simp] theorem State.setBoard_freeCount (s : State) b r : (s.setBoard b r).freeCount = s.freeCount := rfl
@[simp] theorem State.setBoard_pins (s : State) b r : (s.setBoard b r).pins = s.pins := rfl
@[simp] theorem State.setBoard_time (s : State) b r : (s.setBoard b r).time = s.time := rfl
@[simp] theorem State.setBoard_smc (s : State) b r : (s.setBoard b r).smc = s.smc := rfl
@[simp] theorem State.setBoard_scu (s : State) b r : (s.setBoard b r).scu = s.scu := rfl
@[simp] theorem State.setBoard_pxr (s : State) b r : (s.setBoard b r).pxr = s.pxr := rfl
@[simp] theorem State.setBoard_banks (s : State) b r : (s.setBoard b r).banks = s.banks := rfl
@[simp] theorem State.setBoard_sockets (s : State) b r : (s.setBoard b r).sockets = s.sockets := rfl
@[simp] theorem State.setBoard_pending (s : State) b r : (s.setBoard b r).pending = s.pending := rfl
@[simp] theorem State.enterHold_mem (s : State) r : (s.enterHold r).mem = s.mem := by
  unfold State.enterHold
  simp
@[simp] theorem State.enterHold_epoch (s : State) r : (s.enterHold r).epoch = s.epoch := by
  unfold State.enterHold
  simp
@[simp] theorem State.enterHold_freeCount (s : State) r : (s.enterHold r).freeCount = s.freeCount := by
  unfold State.enterHold
  simp
@[simp] theorem State.enterHold_pins (s : State) r : (s.enterHold r).pins = s.pins := by
  unfold State.enterHold
  simp
@[simp] theorem State.enterHold_time (s : State) r : (s.enterHold r).time = s.time := by
  unfold State.enterHold
  simp
@[simp] theorem State.enterHold_scu (s : State) r : (s.enterHold r).scu = s.scu := by
  unfold State.enterHold
  simp
@[simp] theorem State.enterHold_pxr (s : State) r : (s.enterHold r).pxr = s.pxr := by
  unfold State.enterHold
  simp
@[simp] theorem State.enterHold_banks (s : State) r : (s.enterHold r).banks = s.banks := by
  unfold State.enterHold
  simp
@[simp] theorem State.enterHold_pending (s : State) r : (s.enterHold r).pending = s.pending := by
  unfold State.enterHold
  simp
@[simp] theorem State.checkStopped_mem (s : State) : (s.checkStopped).mem = s.mem := by
  unfold State.checkStopped
  (repeat' split) <;> simp
@[simp] theorem State.checkStopped_epoch (s : State) : (s.checkStopped).epoch = s.epoch := by
  unfold State.checkStopped
  (repeat' split) <;> simp
@[simp] theorem State.checkStopped_freeCount (s : State) : (s.checkStopped).freeCount = s.freeCount := by
  unfold State.checkStopped
  (repeat' split) <;> simp
@[simp] theorem State.checkStopped_pins (s : State) : (s.checkStopped).pins = s.pins := by
  unfold State.checkStopped
  (repeat' split) <;> simp
@[simp] theorem State.checkStopped_time (s : State) : (s.checkStopped).time = s.time := by
  unfold State.checkStopped
  (repeat' split) <;> simp
@[simp] theorem State.checkStopped_scu (s : State) : (s.checkStopped).scu = s.scu := by
  unfold State.checkStopped
  (repeat' split) <;> simp
@[simp] theorem State.checkStopped_pxr (s : State) : (s.checkStopped).pxr = s.pxr := by
  unfold State.checkStopped
  (repeat' split) <;> simp
@[simp] theorem State.checkStopped_banks (s : State) : (s.checkStopped).banks = s.banks := by
  unfold State.checkStopped
  (repeat' split) <;> simp
@[simp] theorem State.checkStopped_sockets (s : State) : (s.checkStopped).sockets = s.sockets := by
  unfold State.checkStopped
  (repeat' split) <;> simp
@[simp] theorem State.checkStopped_pending (s : State) : (s.checkStopped).pending = s.pending := by
  unfold State.checkStopped
  (repeat' split) <;> simp
@[simp] theorem State.interlockEvent_mem (s : State) : (s.interlockEvent).mem = s.mem := by
  unfold State.interlockEvent
  (repeat' split) <;> simp
@[simp] theorem State.interlockEvent_epoch (s : State) : (s.interlockEvent).epoch = s.epoch := by
  unfold State.interlockEvent
  (repeat' split) <;> simp
@[simp] theorem State.interlockEvent_freeCount (s : State) : (s.interlockEvent).freeCount = s.freeCount := by
  unfold State.interlockEvent
  (repeat' split) <;> simp
@[simp] theorem State.interlockEvent_pins (s : State) : (s.interlockEvent).pins = s.pins := by
  unfold State.interlockEvent
  (repeat' split) <;> simp
@[simp] theorem State.interlockEvent_time (s : State) : (s.interlockEvent).time = s.time := by
  unfold State.interlockEvent
  (repeat' split) <;> simp
@[simp] theorem State.interlockEvent_scu (s : State) : (s.interlockEvent).scu = s.scu := by
  unfold State.interlockEvent
  (repeat' split) <;> simp
@[simp] theorem State.interlockEvent_pxr (s : State) : (s.interlockEvent).pxr = s.pxr := by
  unfold State.interlockEvent
  (repeat' split) <;> simp
@[simp] theorem State.interlockEvent_banks (s : State) : (s.interlockEvent).banks = s.banks := by
  unfold State.interlockEvent
  (repeat' split) <;> simp
@[simp] theorem State.interlockEvent_pending (s : State) : (s.interlockEvent).pending = s.pending := by
  unfold State.interlockEvent
  (repeat' split) <;> simp

@[simp] theorem State.writeRecordIf_epoch (keep s base ws n) :
    (State.writeRecordIf keep s base ws n).epoch = s.epoch := by
  induction ws generalizing s n with
  | nil => rfl
  | cons d rest ih => unfold State.writeRecordIf; rw [ih]; split <;> rfl
@[simp] theorem State.writeRecord_epoch (s : State) (base ws) : (s.writeRecord base ws).epoch = s.epoch := by
  simp [State.writeRecord]

@[simp] theorem State.writeRecordIf_freeCount (keep s base ws n) :
    (State.writeRecordIf keep s base ws n).freeCount = s.freeCount := by
  induction ws generalizing s n with
  | nil => rfl
  | cons d rest ih => unfold State.writeRecordIf; rw [ih]; split <;> rfl
@[simp] theorem State.writeRecord_freeCount (s : State) (base ws) : (s.writeRecord base ws).freeCount = s.freeCount := by
  simp [State.writeRecord]

@[simp] theorem State.writeRecordIf_pins (keep s base ws n) :
    (State.writeRecordIf keep s base ws n).pins = s.pins := by
  induction ws generalizing s n with
  | nil => rfl
  | cons d rest ih => unfold State.writeRecordIf; rw [ih]; split <;> rfl
@[simp] theorem State.writeRecord_pins (s : State) (base ws) : (s.writeRecord base ws).pins = s.pins := by
  simp [State.writeRecord]

@[simp] theorem State.writeRecordIf_time (keep s base ws n) :
    (State.writeRecordIf keep s base ws n).time = s.time := by
  induction ws generalizing s n with
  | nil => rfl
  | cons d rest ih => unfold State.writeRecordIf; rw [ih]; split <;> rfl
@[simp] theorem State.writeRecord_time (s : State) (base ws) : (s.writeRecord base ws).time = s.time := by
  simp [State.writeRecord]

@[simp] theorem State.writeRecordIf_smc (keep s base ws n) :
    (State.writeRecordIf keep s base ws n).smc = s.smc := by
  induction ws generalizing s n with
  | nil => rfl
  | cons d rest ih => unfold State.writeRecordIf; rw [ih]; split <;> rfl
@[simp] theorem State.writeRecord_smc (s : State) (base ws) : (s.writeRecord base ws).smc = s.smc := by
  simp [State.writeRecord]

@[simp] theorem State.writeRecordIf_scu (keep s base ws n) :
    (State.writeRecordIf keep s base ws n).scu = s.scu := by
  induction ws generalizing s n with
  | nil => rfl
  | cons d rest ih => unfold State.writeRecordIf; rw [ih]; split <;> rfl
@[simp] theorem State.writeRecord_scu (s : State) (base ws) : (s.writeRecord base ws).scu = s.scu := by
  simp [State.writeRecord]

@[simp] theorem State.writeRecordIf_brc (keep s base ws n) :
    (State.writeRecordIf keep s base ws n).brc = s.brc := by
  induction ws generalizing s n with
  | nil => rfl
  | cons d rest ih => unfold State.writeRecordIf; rw [ih]; split <;> rfl
@[simp] theorem State.writeRecord_brc (s : State) (base ws) : (s.writeRecord base ws).brc = s.brc := by
  simp [State.writeRecord]

@[simp] theorem State.writeRecordIf_pxr (keep s base ws n) :
    (State.writeRecordIf keep s base ws n).pxr = s.pxr := by
  induction ws generalizing s n with
  | nil => rfl
  | cons d rest ih => unfold State.writeRecordIf; rw [ih]; split <;> rfl
@[simp] theorem State.writeRecord_pxr (s : State) (base ws) : (s.writeRecord base ws).pxr = s.pxr := by
  simp [State.writeRecord]

@[simp] theorem State.writeRecordIf_banks (keep s base ws n) :
    (State.writeRecordIf keep s base ws n).banks = s.banks := by
  induction ws generalizing s n with
  | nil => rfl
  | cons d rest ih => unfold State.writeRecordIf; rw [ih]; split <;> rfl
@[simp] theorem State.writeRecord_banks (s : State) (base ws) : (s.writeRecord base ws).banks = s.banks := by
  simp [State.writeRecord]

@[simp] theorem State.writeRecordIf_sockets (keep s base ws n) :
    (State.writeRecordIf keep s base ws n).sockets = s.sockets := by
  induction ws generalizing s n with
  | nil => rfl
  | cons d rest ih => unfold State.writeRecordIf; rw [ih]; split <;> rfl
@[simp] theorem State.writeRecord_sockets (s : State) (base ws) : (s.writeRecord base ws).sockets = s.sockets := by
  simp [State.writeRecord]

@[simp] theorem State.writeRecordIf_pending (keep s base ws n) :
    (State.writeRecordIf keep s base ws n).pending = s.pending := by
  induction ws generalizing s n with
  | nil => rfl
  | cons d rest ih => unfold State.writeRecordIf; rw [ih]; split <;> rfl
@[simp] theorem State.writeRecord_pending (s : State) (base ws) : (s.writeRecord base ws).pending = s.pending := by
  simp [State.writeRecord]
@[simp] theorem State.abandonTransfer_pins (s : State) : s.abandonTransfer.pins = s.pins := by
  unfold State.abandonTransfer; split <;> simp
@[simp] theorem State.abandonTransfer_time (s : State) : s.abandonTransfer.time = s.time := by
  unfold State.abandonTransfer; split <;> simp
@[simp] theorem State.abandonTransfer_smc (s : State) : s.abandonTransfer.smc = s.smc := by
  unfold State.abandonTransfer; split <;> simp
@[simp] theorem State.abandonTransfer_scu (s : State) : s.abandonTransfer.scu = s.scu := by
  unfold State.abandonTransfer; split <;> simp
@[simp] theorem State.abandonTransfer_brc (s : State) : s.abandonTransfer.brc = s.brc := by
  unfold State.abandonTransfer; split <;> simp
@[simp] theorem State.abandonTransfer_pxr (s : State) : s.abandonTransfer.pxr = s.pxr := by
  unfold State.abandonTransfer; split <;> simp
@[simp] theorem State.abandonTransfer_banks (s : State) : s.abandonTransfer.banks = s.banks := by
  unfold State.abandonTransfer; split <;> simp
@[simp] theorem State.abandonTransfer_sockets (s : State) : s.abandonTransfer.sockets = s.sockets := by
  unfold State.abandonTransfer; split <;> simp
@[simp] theorem State.abandonTransfer_pending (s : State) : s.abandonTransfer.pending = s.pending := by
  unfold State.abandonTransfer; split <;> simp
@[simp] theorem State.abandonTransfer_epoch (s : State) : s.abandonTransfer.epoch = s.epoch := by
  unfold State.abandonTransfer; split <;> simp

/-! ## The events of a gap -/

@[simp] theorem State.visitEvents_nil (s : State) : s.visitEvents [] = s := rfl
@[simp] theorem State.visitEvents_cons (s : State) (e : VisitEvent) (es : List VisitEvent) :
    s.visitEvents (e :: es) = (s.visitEvent e).visitEvents es := rfl
theorem State.visitEvents_append (s : State) (es fs : List VisitEvent) :
    s.visitEvents (es ++ fs) = (s.visitEvents es).visitEvents fs := by
  simp [State.visitEvents]

end Sys2Proof.Machine
end

