-- ==== Sys2Proof/Laws/Sockets.lean ====
section
/-! SUPPORT. What each operation on one socket leaves alone, and what the updates of the state do to a
socket. -/

namespace Sys2Proof.Machine

@[simp] theorem Socket.setRail_gate (x : Socket) (r : Rail) : (x.setRail r).gate = x.gate := rfl
@[simp] theorem Socket.setRail_sensor (x : Socket) (r : Rail) : (x.setRail r).sensor = x.sensor := rfl
@[simp] theorem Socket.setRail_thermal (x : Socket) (r : Rail) : (x.setRail r).thermal = x.thermal := rfl
@[simp] theorem Socket.setRail_ex (x : Socket) (r : Rail) : (x.setRail r).ex = x.ex := rfl
@[simp] theorem Socket.setEx_gate (x : Socket) (e : Exercise) : (x.setEx e).gate = x.gate := rfl
@[simp] theorem Socket.setEx_rail (x : Socket) (e : Exercise) : (x.setEx e).rail = x.rail := rfl
@[simp] theorem Socket.setEx_sensor (x : Socket) (e : Exercise) : (x.setEx e).sensor = x.sensor := rfl
@[simp] theorem Socket.setEx_thermal (x : Socket) (e : Exercise) : (x.setEx e).thermal = x.thermal := rfl
@[simp] theorem Socket.reportSpoil_gate (x : Socket) (b : Bool) : (x.reportSpoil b).gate = x.gate := rfl
@[simp] theorem Socket.reportSpoil_rail (x : Socket) (b : Bool) : (x.reportSpoil b).rail = x.rail := rfl
@[simp] theorem Socket.reportSpoil_sensor (x : Socket) (b : Bool) : (x.reportSpoil b).sensor = x.sensor := rfl
@[simp] theorem Socket.reportSpoil_thermal (x : Socket) (b : Bool) : (x.reportSpoil b).thermal = x.thermal := rfl
@[simp] theorem Socket.reportSpoil_ex (x : Socket) (b : Bool) : (x.reportSpoil b).ex = x.ex := rfl
@[simp] theorem Socket.takedown_gate (x : Socket) : (x.takedown).gate = x.gate := rfl
@[simp] theorem Socket.takedown_sensor (x : Socket) : (x.takedown).sensor = x.sensor := rfl
@[simp] theorem Socket.takedown_thermal (x : Socket) : (x.takedown).thermal = x.thermal := rfl
@[simp] theorem Socket.takedown_ex (x : Socket) : (x.takedown).ex = x.ex := rfl
@[simp] theorem Socket.beginSoak_gate (x : Socket) : (x.beginSoak).gate = x.gate := rfl
@[simp] theorem Socket.beginSoak_rail (x : Socket) : (x.beginSoak).rail = x.rail := rfl
@[simp] theorem Socket.beginSoak_ex (x : Socket) : (x.beginSoak).ex = x.ex := rfl
@[simp] theorem Socket.beginSoak_acct (x : Socket) : (x.beginSoak).acct = x.acct := rfl
@[simp] theorem Socket.changePhase_gate (x : Socket) (p : Phase) (r : ResumePhase) : (x.changePhase p r).gate = x.gate := by
  unfold Socket.changePhase
  dsimp only
  (repeat' split) <;> simp
@[simp] theorem Socket.changePhase_rail (x : Socket) (p : Phase) (r : ResumePhase) : (x.changePhase p r).rail = x.rail := by
  unfold Socket.changePhase
  dsimp only
  (repeat' split) <;> simp
@[simp] theorem Socket.retire_gate (x : Socket) (k : RetireKind) : (x.retire k).gate = x.gate := by
  unfold Socket.retire
  simp
@[simp] theorem Socket.report_gate (x : Socket) (k : RetireKind) : (x.report k).gate = x.gate := by
  unfold Socket.report
  (repeat' split) <;> simp
@[simp] theorem Socket.record_gate (x : Socket) (c : Ctx) (k : Kind) (n : Nat) (d : List Word) : (x.record c k n d).gate = x.gate := rfl
@[simp] theorem Socket.record_rail (x : Socket) (c : Ctx) (k : Kind) (n : Nat) (d : List Word) : (x.record c k n d).rail = x.rail := rfl
@[simp] theorem Socket.record_sensor (x : Socket) (c : Ctx) (k : Kind) (n : Nat) (d : List Word) : (x.record c k n d).sensor = x.sensor := rfl
@[simp] theorem Socket.record_thermal (x : Socket) (c : Ctx) (k : Kind) (n : Nat) (d : List Word) : (x.record c k n d).thermal = x.thermal := rfl
@[simp] theorem Socket.record_ex (x : Socket) (c : Ctx) (k : Kind) (n : Nat) (d : List Word) : (x.record c k n d).ex = x.ex := rfl
@[simp] theorem Socket.strike_gate (x : Socket) (k : Kind) : (x.strike k).gate = x.gate := by
  unfold Socket.strike
  dsimp only
  (repeat' split) <;> simp
@[simp] theorem Socket.takeCondition_gate (x : Socket) (c : Ctx) (k : Kind) (n : Nat) (d : List Word) : (x.takeCondition c k n d).gate = x.gate := by
  unfold Socket.takeCondition
  (repeat' split) <;> simp
@[simp] theorem Socket.chainEntry_gate (x : Socket) (c : Ctx) : (x.chainEntry c).gate = x.gate := by
  unfold Socket.chainEntry
  (repeat' split) <;> simp
@[simp] theorem Socket.reportLoss_gate (x : Socket) (c : Ctx) : (x.reportLoss c).gate = x.gate := by
  unfold Socket.reportLoss
  (repeat' split) <;> simp
@[simp] theorem Socket.interruptPower_gate (x : Socket) : (x.interruptPower).gate = x.gate := by
  unfold Socket.interruptPower
  dsimp only
  (repeat' split) <;> simp
@[simp] theorem Socket.interruptPower_rail (x : Socket) : (x.interruptPower).rail = x.rail := by
  unfold Socket.interruptPower
  dsimp only
  (repeat' split) <;> simp
@[simp] theorem Socket.trip_gate (x : Socket) (c : Ctx) (k : Kind) (n : Nat) (d : List Word) : (x.trip c k n d).gate = x.gate := by
  unfold Socket.trip
  simp
@[simp] theorem Socket.fastTrip_gate (x : Socket) (c : Ctx) : (x.fastTrip c).gate = x.gate := by
  unfold Socket.fastTrip
  (repeat' split) <;> simp
@[simp] theorem Socket.enterOn_gate (x : Socket) : (x.enterOn).gate = x.gate := by
  unfold Socket.enterOn
  dsimp only
  (repeat' split) <;> simp
@[simp] theorem Socket.settleCheck_gate (x : Socket) (c : Ctx) : (x.settleCheck c).gate = x.gate := by
  unfold Socket.settleCheck
  dsimp only
  (repeat' split) <;> simp
@[simp] theorem Socket.slowCheck_gate (x : Socket) (c : Ctx) : (x.slowCheck c).gate = x.gate := by
  unfold Socket.slowCheck
  dsimp only
  (repeat' split) <;> simp
@[simp] theorem Socket.dropCheck_gate (x : Socket) (c : Ctx) : (x.dropCheck c).gate = x.gate := by
  unfold Socket.dropCheck
  dsimp only
  (repeat' split) <;> simp
@[simp] theorem Socket.openCheck_gate (x : Socket) (c : Ctx) : (x.openCheck c).gate = x.gate := by
  unfold Socket.openCheck
  dsimp only
  (repeat' split) <;> simp
@[simp] theorem Socket.onChecks_gate (x : Socket) (c : Ctx) (o : CheckOrder) : (x.onChecks c o).gate = x.gate := by
  cases o <;> simp [Socket.onChecks]
@[simp] theorem Socket.railSample_gate (x : Socket) (c : Ctx) (o : CheckOrder) (v i : Word) : (x.railSample c o v i).gate = x.gate := by
  unfold Socket.railSample
  (repeat' split) <;> simp
@[simp] theorem Socket.powerOrLock_gate (x : Socket) (c : Ctx) : (x.powerOrLock c).gate = x.gate := by
  unfold Socket.powerOrLock
  (repeat' split) <;> simp
@[simp] theorem Socket.chainStart_gate (x : Socket) (c : Ctx) : (x.chainStart c).gate = x.gate := by
  unfold Socket.chainStart
  (repeat' split) <;> simp
@[simp] theorem Socket.bankExpiry_gate (x : Socket) : (x.bankExpiry).gate = x.gate := by
  unfold Socket.bankExpiry
  (repeat' split) <;> simp
@[simp] theorem Socket.bankExpiry_sensor (x : Socket) : (x.bankExpiry).sensor = x.sensor := by
  unfold Socket.bankExpiry
  (repeat' split) <;> simp
@[simp] theorem Socket.bankExpiry_thermal (x : Socket) : (x.bankExpiry).thermal = x.thermal := by
  unfold Socket.bankExpiry
  (repeat' split) <;> simp
@[simp] theorem Socket.bankExpiry_ex (x : Socket) : (x.bankExpiry).ex = x.ex := by
  unfold Socket.bankExpiry
  (repeat' split) <;> simp
@[simp] theorem Socket.bankTrip_gate (x : Socket) (e : Word32) : (x.bankTrip e).gate = x.gate := by
  unfold Socket.bankTrip
  (repeat' split) <;> simp
@[simp] theorem Socket.bankLock_gate (x : Socket) : (x.bankLock).gate = x.gate := by
  unfold Socket.bankLock
  dsimp only
  (repeat' split) <;> simp
@[simp] theorem Socket.soakTick_gate (x : Socket) : (x.soakTick).gate = x.gate := by
  unfold Socket.soakTick
  (repeat' split) <;> simp
@[simp] theorem Socket.soakTick_rail (x : Socket) : (x.soakTick).rail = x.rail := by
  unfold Socket.soakTick
  (repeat' split) <;> simp
@[simp] theorem Socket.soakTick_sensor (x : Socket) : (x.soakTick).sensor = x.sensor := by
  unfold Socket.soakTick
  (repeat' split) <;> simp
@[simp] theorem Socket.soakTick_ex (x : Socket) : (x.soakTick).ex = x.ex := by
  unfold Socket.soakTick
  (repeat' split) <;> simp
@[simp] theorem Socket.soakTick_acct (x : Socket) : (x.soakTick).acct = x.acct := by
  unfold Socket.soakTick
  (repeat' split) <;> simp
@[simp] theorem Socket.senseTick_gate (x : Socket) (c : Ctx) : (x.senseTick c).gate = x.gate := by
  unfold Socket.senseTick
  simp
@[simp] theorem Socket.senseTick_sensor (x : Socket) (c : Ctx) : (x.senseTick c).sensor = x.sensor := by
  unfold Socket.senseTick
  simp
@[simp] theorem Socket.senseTick_ex (x : Socket) (c : Ctx) : (x.senseTick c).ex = x.ex := by
  unfold Socket.senseTick
  simp
@[simp] theorem Socket.enterLost_gate (x : Socket) (c : Ctx) : (x.enterLost c).gate = x.gate := by
  unfold Socket.enterLost
  simp
@[simp] theorem Socket.limitCheck_gate (x : Socket) (c : Ctx) (n : Int) : (x.limitCheck c n).gate = x.gate := by
  unfold Socket.limitCheck
  dsimp only
  (repeat' split) <;> simp
@[simp] theorem Socket.sensorSample_gate (x : Socket) (c : Ctx) (w : Option Word) : (x.sensorSample c w).gate = x.gate := by
  unfold Socket.sensorSample
  dsimp only
  (repeat' split) <;> simp
@[simp] theorem Socket.hold_gate (x : Socket) : (x.hold).gate = x.gate := by
  unfold Socket.hold
  (repeat' split) <;> simp
@[simp] theorem Socket.hold_rail (x : Socket) : (x.hold).rail = x.rail := by
  unfold Socket.hold
  (repeat' split) <;> simp
@[simp] theorem Socket.stop_gate (x : Socket) : (x.stop).gate = x.gate := by
  unfold Socket.stop
  dsimp only
  (repeat' split) <;> simp
@[simp] theorem Socket.interlockCut_gate (x : Socket) : (x.interlockCut).gate = x.gate := by
  unfold Socket.interlockCut
  simp
@[simp] theorem Socket.interlockCut_sensor (x : Socket) : (x.interlockCut).sensor = x.sensor := by
  unfold Socket.interlockCut
  simp
@[simp] theorem Socket.resume_gate (x : Socket) (c : Ctx) (r : HoldReason) : (x.resume c r).gate = x.gate := by
  unfold Socket.resume
  (repeat' split) <;> simp
@[simp] theorem Socket.runStart_gate (x : Socket) (c : Ctx) : (x.runStart c).gate = x.gate := by
  unfold Socket.runStart
  (repeat' split) <;> simp
@[simp] theorem Socket.setRail_rail (x : Socket) (r : Rail) : (x.setRail r).rail = r := rfl
@[simp] theorem Socket.setEx_ex (x : Socket) (e : Exercise) : (x.setEx e).ex = e := rfl
@[simp] theorem Socket.setRail_phase (x : Socket) (r : Rail) :
    (x.setRail r).acct.phase = x.acct.phase := rfl
@[simp] theorem Socket.setEx_phase (x : Socket) (e : Exercise) :
    (x.setEx e).acct.phase = x.acct.phase := rfl
@[simp] theorem Socket.reportSpoil_phase (x : Socket) (b : Bool) :
    (x.reportSpoil b).acct.phase = x.acct.phase := rfl
@[simp] theorem Socket.changePhase_phase (x : Socket) (p : Phase) (r : ResumePhase) :
    (x.changePhase p r).acct.phase = p := rfl
@[simp] theorem Socket.changePhase_resume (x : Socket) (p : Phase) (r : ResumePhase) :
    (x.changePhase p r).acct.resume = r := rfl
@[simp] theorem Socket.changePhase_ex (x : Socket) (p : Phase) (r : ResumePhase) :
    (x.changePhase p r).ex = x.ex.followPhase x.acct.phase p := by
  unfold Socket.changePhase
  dsimp only
  split <;> rfl

/-! ## Sockets of an updated state -/

/-- The socket an event is applied to. -/
@[simp] theorem State.sock_updSock_same (s : State) (i : SocketIx) (f : Socket → Socket) :
    (s.updSock i f).sock i = f (s.sock i) := by
  unfold State.updSock State.raiseIf
  split <;> simp [State.sock, State.raise]

/-- Every other socket is unchanged. -/
theorem State.sock_updSock_other (s : State) (i j : SocketIx) (f : Socket → Socket) (h : j ≠ i) :
    (s.updSock i f).sock j = s.sock j := by
  have h' : i.val ≠ j.val := fun e => h (Fin.ext e.symm)
  unfold State.updSock State.raiseIf
  split <;> simp [State.sock, State.raise, h']

/-- An event of every socket. -/
@[simp] theorem State.sock_updAll (s : State) (f : SocketIx → Socket → Socket) (i : SocketIx) :
    (s.updAll f).sock i = f i (s.sock i) := by
  unfold State.updAll State.raiseIf
  split <;> simp [State.sock, State.raise]

/-- An event of the four sockets of a bank. -/
theorem State.sock_updBankSocks (s : State) (b : BankIx) (f : SocketIx → Socket → Socket)
    (i : SocketIx) :
    (s.updBankSocks b f).sock i = if bankOf i = b then f i (s.sock i) else s.sock i := by
  simp [State.updBankSocks]

/-- The bank an update is applied to. -/
@[simp] theorem State.bank_updBank_same (s : State) (b : BankIx) (f : Bank → Bank) :
    (s.updBank b f).banks[b.val] = f s.banks[b.val] := by
  simp [State.updBank]

/-- Every other bank is unchanged. -/
theorem State.bank_updBank_other (s : State) (b c : BankIx) (f : Bank → Bank) (h : c ≠ b) :
    (s.updBank b f).banks[c.val] = s.banks[c.val] := by
  have h' : b.val ≠ c.val := fun e => h (Fin.ext e.symm)
  simp [State.updBank, h']

/-! ## Updates spelled out -/

/-- What an event of every socket changes: the sockets, and ATTENTION.SOCKET_ENDED. -/
theorem State.updAll_eq (s : State) (f : SocketIx → Socket → Socket) :
    s.updAll f = { s with
      sockets := Vector.ofFn fun i => f i s.sockets[i]
      smc := { s.smc with attention :=
        if (List.finRange 32).any fun i => s.sockets[i].ends (f i s.sockets[i]) then
          s.smc.attention ||| Cause.socketEnded.mask
        else s.smc.attention } } := by
  unfold State.updAll State.raiseIf
  split <;> simp_all [State.raise]

/-- An event that ends no socket. -/
theorem State.updAll_quiet (s : State) (f : SocketIx → Socket → Socket)
    (h : ∀ i : SocketIx, s.sockets[i].ends (f i s.sockets[i]) = false) :
    s.updAll f = { s with sockets := Vector.ofFn fun i => f i s.sockets[i] } := by
  rw [State.updAll_eq]
  have e : ((List.finRange 32).any fun i => s.sockets[i].ends (f i s.sockets[i])) = false := by
    simp only [List.any_eq_false]
    intro i _
    simpa using h i
  rw [e]
  rfl

/-- What an event of one socket changes. -/
theorem State.updSock_eq (s : State) (i : SocketIx) (f : Socket → Socket) :
    s.updSock i f = { s with
      sockets := s.sockets.set i (f s.sockets[i])
      smc := { s.smc with attention :=
        if s.sockets[i].ends (f s.sockets[i]) then s.smc.attention ||| Cause.socketEnded.mask
        else s.smc.attention } } := by
  unfold State.updSock State.raiseIf
  split <;> simp_all [State.raise]

/-- An event that does not end its socket. -/
theorem State.updSock_quiet (s : State) (i : SocketIx) (f : Socket → Socket)
    (h : s.sockets[i].ends (f s.sockets[i]) = false) :
    s.updSock i f = { s with sockets := s.sockets.set i (f s.sockets[i]) } := by
  rw [State.updSock_eq, h]
  rfl

/-- A socket that keeps its phase does not end. -/
theorem Socket.ends_of_phase (x y : Socket) (h : y.acct.phase = x.acct.phase) :
    x.ends y = false := by
  simp [Socket.ends, h]

/-- Whether every rail is OFF, socket by socket (R83). -/
theorem State.allOff_iff (s : State) :
    s.allOff = true ↔ ∀ i : SocketIx, (s.sock i).rail.st = .off := by
  simp [State.allOff, State.sock]

/-- A board that is not STOPPING is left by the all-rails-OFF report (R83). -/
theorem State.checkStopped_of_state (s : State) (h : s.brc.state ≠ .stopping) :
    s.checkStopped = s := by
  simp [State.checkStopped, h]

/-- The all-rails-OFF report leaves the board while some rail is not OFF (R83). -/
theorem State.checkStopped_of_rail (s : State) (i : SocketIx) (h : (s.sock i).rail.st ≠ .off) :
    s.checkStopped = s := by
  have e : s.allOff = false := by
    cases q : s.allOff with
    | false => rfl
    | true => exact absurd ((State.allOff_iff s).mp q i) h
  simp [State.checkStopped, e]

/-- The all-rails-OFF report of a STOPPING board completes its STOP_RUN (R83, R56). -/
theorem State.checkStopped_done (s : State) (ch : Channel) (h : s.brc.state = .stopping)
    (hc : s.brc.channel = some ch) (ho : ∀ i : SocketIx, (s.sock i).rail.st = .off) :
    s.checkStopped = (s.setBoard .stopped .none).completeWith ch.tag .success 0 := by
  have e : s.allOff = true := (State.allOff_iff s).mpr ho
  simp [State.checkStopped, h, e, State.completeChannel, State.setBoard, hc]

/-! ## The arbiter (R12) -/

/-- A Scan Unit request to a free port is granted at once. -/
theorem Smc.requestScan_free (m : Smc) (t : Transfer) (h : m.owner = .none) :
    m.requestScan t = m.grantScan t := by
  simp [Smc.requestScan, h]

/-- A Scan Unit request to a busy port waits. -/
theorem Smc.requestScan_busy (m : Smc) (t : Transfer) (h : m.owner ≠ .none) :
    m.requestScan t = { m with scanWaiting := some t } := by
  simp [Smc.requestScan, h]

/-- A host request to a free port is granted at once. -/
theorem Smc.requestHost_free (m : Smc) (h : m.owner = .none) : m.requestHost = m.grantHost := by
  simp [Smc.requestHost, h]

/-- A host request to an owned port waits (R12). -/
theorem Smc.requestHost_busy (m : Smc) (h : m.owner ≠ .none) :
    m.requestHost = { m with hostWaiting := true } := by
  simp [Smc.requestHost, h]

/-- A released port has no owner exactly when nothing waited. -/
theorem Smc.release_owner (m : Smc) :
    m.release.owner = .none ↔ m.hostWaiting = false ∧ m.scanWaiting = none := by
  unfold Smc.release
  cases h1 : m.hostWaiting <;> cases h2 : m.scanWaiting <;>
    simp [Smc.grantHost, Smc.grantScan]
  split <;> simp

/-! ## A visit without events -/

/-- Step 2 of a visit touches its own socket only. -/
theorem State.takeRecord_sock_other (s : State) (i j : SocketIx) (rec : Option (List Word)) (h : j ≠ i) :
    (s.takeRecord i rec).1.sock j = s.sock j := by
  unfold State.takeRecord State.sock
  simpa [State.sock] using State.sock_updSock_other s i j _ h

/-- The thermal work of a visit touches its own socket only. -/
theorem State.thermalWork_sock_other (s : State) (i j : SocketIx) (h : j ≠ i) :
    (s.thermalWork i).sock j = s.sock j :=
  State.sock_updSock_other s i j _ h

/-- So does each work of the accounting. -/
theorem State.accountWork_sock_other (s : State) (i j : SocketIx) (a : Option Bool) (w : AccountWork)
    (h : j ≠ i) : (s.accountWork i a w).sock j = s.sock j := by
  cases w <;> exact State.sock_updSock_other s i j _ h

/-- The gaps of a visit without events. -/
theorem gaps_of_quiet (o : VisitOrder) (q : o.quiet = true) :
    o.gap0 = [] ∧ o.gap1 = [] ∧ o.gap2 = [] ∧ o.gap3 = [] ∧ o.gap4 = [] := by
  simpa [VisitOrder.events, VisitOrder.quiet, and_assoc] using q

/-- A visit without events touches its own socket only. -/
theorem State.visitSocket_sock_other (s : State) (i j : SocketIx) (rec : Option (List Word))
    (o : VisitOrder) (q : o.quiet = true) (h : j ≠ i) :
    (s.visitSocket i rec o).sock j = s.sock j := by
  obtain ⟨h0, h1, h2, h3, h4⟩ := gaps_of_quiet o q
  unfold State.visitSocket State.atThermal State.beforeThermal State.afterThermal State.workThen
  cases o.thermal <;>
    simp [h0, h1, h2, h3, h4, State.takeRecord_sock_other s i j rec h,
      State.thermalWork_sock_other _ i j h, State.accountWork_sock_other _ i j _ _ h]

end Sys2Proof.Machine
end

