-- ==== Sys2Proof/Laws/Account.lean ====
section
/-! SUPPORT. What conditions, records, strikes and retirements do to a socket (Chapter 11). -/

namespace Sys2Proof.Machine

/-- The eight kinds have eight positions. -/
theorem Kind.ix_ne {a b : Kind} (h : a ≠ b) : a.ix.val ≠ b.ix.val := by
  cases a <;> cases b <;> first | exact absurd rfl h | decide

/-- A counted kind advances its count, saturating. -/
@[simp] theorem Account.countKind_same (k : Kind) (a : Account) :
    (a.countKind k).kindCount[k.ix.val] = satAdd max16 a.kindCount[k.ix.val] 1 := by
  simp [Account.countKind]

/-- A counted kind leaves the other counts. -/
theorem Account.countKind_other (k o : Kind) (a : Account) (h : o ≠ k) :
    (a.countKind k).kindCount[o.ix.val] = a.kindCount[o.ix.val] := by
  have e : k.ix.val ≠ o.ix.val := Kind.ix_ne (Ne.symm h)
  simp [Account.countKind, e]

/-! ## Retirement -/

@[simp] theorem Socket.retire_phase (x : Socket) (k : RetireKind) :
    (x.retire k).acct.phase = .retired := rfl
@[simp] theorem Socket.retire_resume (x : Socket) (k : RetireKind) :
    (x.retire k).acct.resume = .none := rfl
@[simp] theorem Socket.retire_retireKind (x : Socket) (k : RetireKind) :
    (x.retire k).acct.retireKind = k := rfl
@[simp] theorem Socket.retire_bin (x : Socket) (k : RetireKind) :
    (x.retire k).acct.bin = k.bin := rfl
@[simp] theorem Socket.retire_rail (x : Socket) (k : RetireKind) :
    (x.retire k).rail = x.rail.takedown := by
  simp [Socket.retire]
@[simp] theorem Socket.retire_ex (x : Socket) (k : RetireKind) :
    (x.retire k).ex = x.ex.followPhase x.acct.phase .retired := by
  simp [Socket.retire]
@[simp] theorem Socket.retire_sensor (x : Socket) (k : RetireKind) :
    (x.retire k).sensor = x.sensor := by
  simp [Socket.retire, Socket.changePhase]
@[simp] theorem Socket.retire_thermal (x : Socket) (k : RetireKind) :
    (x.retire k).thermal = x.thermal.retire := by
  simp [Socket.retire, Socket.changePhase]
@[simp] theorem Socket.retire_kindCount (x : Socket) (k : RetireKind) :
    (x.retire k).acct.kindCount = x.acct.kindCount := by
  simp [Socket.retire, Socket.setRail, Socket.changePhase, Socket.setEx]
@[simp] theorem Socket.retire_failTotal (x : Socket) (k : RetireKind) :
    (x.retire k).acct.failTotal = x.acct.failTotal := by
  simp [Socket.retire, Socket.setRail, Socket.changePhase, Socket.setEx]
@[simp] theorem Socket.retire_detailLost (x : Socket) (k : RetireKind) :
    (x.retire k).acct.detailLost = x.acct.detailLost := by
  simp [Socket.retire, Socket.setRail, Socket.changePhase, Socket.setEx]
@[simp] theorem Socket.retire_staging (x : Socket) (k : RetireKind) :
    (x.retire k).acct.staging = x.acct.staging := by
  simp [Socket.retire, Socket.setRail, Socket.changePhase, Socket.setEx]
@[simp] theorem Socket.retire_strikes (x : Socket) (k : RetireKind) :
    (x.retire k).acct.strikes = x.acct.strikes := by
  simp [Socket.retire, Socket.setRail, Socket.changePhase, Socket.setEx]
@[simp] theorem Socket.retire_dwellSec (x : Socket) (k : RetireKind) :
    (x.retire k).acct.dwellSec = x.acct.dwellSec := by
  simp [Socket.retire, Socket.setRail, Socket.changePhase, Socket.setEx]
@[simp] theorem Socket.retire_dwellMs (x : Socket) (k : RetireKind) :
    (x.retire k).acct.dwellMs = x.acct.dwellMs := by
  simp [Socket.retire, Socket.setRail, Socket.changePhase, Socket.setEx]

/-- A report outside the reporting phases does nothing (R182). -/
theorem Socket.report_dropped (x : Socket) (k : RetireKind) (h : x.acct.phase.reporting = false) :
    x.report k = x := by
  simp [Socket.report, h]

/-- A report in a reporting phase retires (R182). -/
theorem Socket.report_taken (x : Socket) (k : RetireKind) (h : x.acct.phase.reporting = true) :
    x.report k = x.retire k := by
  simp [Socket.report, h]

/-! ## Conditions -/

/-- A condition outside the reporting phases is dropped (R174). -/
theorem Socket.takeCondition_dropped (c : Ctx) (k : Kind) (sub : Nat) (d : List Word) (x : Socket)
    (h : x.acct.phase.reporting = false) : x.takeCondition c k sub d = x := by
  simp [Socket.takeCondition, h]

/-- The four actions of a taken condition (R175). -/
theorem Socket.takeCondition_taken (c : Ctx) (k : Kind) (sub : Nat) (d : List Word) (x : Socket)
    (h : x.acct.phase.reporting = true) :
    let y : Socket := { x with acct := x.acct.countKind k }
    (x.gate.shadow.actionFor k sub = .ignore ∧ x.takeCondition c k sub d = y) ∨
    (x.gate.shadow.actionFor k sub = .log ∧ x.takeCondition c k sub d = y.record c k sub d) ∨
    (x.gate.shadow.actionFor k sub = .strike ∧
      x.takeCondition c k sub d = (y.record c k sub d).strike k) ∨
    (x.gate.shadow.actionFor k sub = .retire ∧
      x.takeCondition c k sub d = (y.record c k sub d).retire (.kind k)) := by
  cases e : x.gate.shadow.actionFor k sub <;> simp [Socket.takeCondition, h, e]

/-- A strike below the limit only counts (R180). -/
theorem Socket.strike_below (k : Kind) (x : Socket)
    (h : x.acct.strikes + 1 < x.gate.shadow.num.strikeLimit) :
    x.strike k = { x with acct := { x.acct with strikes := x.acct.strikes + 1 } } := by
  simp [Socket.strike, Nat.not_le.mpr h]

/-- A strike at the limit retires (R180). -/
theorem Socket.strike_limit (k : Kind) (x : Socket)
    (h : x.gate.shadow.num.strikeLimit ≤ x.acct.strikes + 1) :
    x.strike k = Socket.retire (.kind k)
      { x with acct := { x.acct with strikes := x.acct.strikes + 1 } } := by
  simp [Socket.strike, h]

@[simp] theorem Socket.record_phase (c : Ctx) (k : Kind) (sub : Nat) (d : List Word) (x : Socket) :
    (x.record c k sub d).acct.phase = x.acct.phase := by
  simp only [Socket.record, Account.stage]
  split <;> rfl
@[simp] theorem Socket.record_kindCount (c : Ctx) (k : Kind) (sub : Nat) (d : List Word)
    (x : Socket) : (x.record c k sub d).acct.kindCount = x.acct.kindCount := by
  simp only [Socket.record, Account.stage]
  split <;> rfl
@[simp] theorem Socket.record_strikes (c : Ctx) (k : Kind) (sub : Nat) (d : List Word)
    (x : Socket) : (x.record c k sub d).acct.strikes = x.acct.strikes := by
  simp only [Socket.record, Account.stage]
  split <;> rfl
@[simp] theorem Socket.record_failTotal (c : Ctx) (k : Kind) (sub : Nat) (d : List Word)
    (x : Socket) : (x.record c k sub d).acct.failTotal = x.acct.failTotal + 1 := by
  simp only [Socket.record, Account.stage]
  split <;> rfl

/-- A record joins a FIFO with room (R179). -/
theorem Socket.record_staged (c : Ctx) (k : Kind) (sub : Nat) (d : List Word) (x : Socket)
    (h : x.acct.staging.length < 4) :
    (x.record c k sub d).acct.staging =
        x.acct.staging ++ [x.buildRecord c k sub d (x.acct.failTotal + 1)] ∧
      (x.record c k sub d).acct.detailLost = x.acct.detailLost := by
  simp [Socket.record, Account.stage, Account.countRecord, h]

/-- A record that finds the FIFO full is lost (R179). -/
theorem Socket.record_lost (c : Ctx) (k : Kind) (sub : Nat) (d : List Word) (x : Socket)
    (h : 4 ≤ x.acct.staging.length) :
    (x.record c k sub d).acct.staging = x.acct.staging ∧
      (x.record c k sub d).acct.detailLost = x.acct.detailLost + 1 := by
  simp [Socket.record, Account.stage, Account.countRecord, Nat.not_lt.mpr h]

end Sys2Proof.Machine
end

