-- ==== Sys2Proof/Laws/Events.lean ====
section
/-! SUPPORT. The events that leave the memory, the pins or the queue alone. -/

namespace Sys2Proof.Machine

@[simp] theorem State.beginRun_mem (s : State) : (s.beginRun).mem = s.mem := by
  unfold State.beginRun
  simp
@[simp] theorem State.beginRun_pins (s : State) : (s.beginRun).pins = s.pins := by
  unfold State.beginRun
  simp
@[simp] theorem State.beginRun_pending (s : State) : (s.beginRun).pending = s.pending := by
  unfold State.beginRun
  simp
@[simp] theorem State.resumeRun_mem (s : State) : (s.resumeRun).mem = s.mem := by
  unfold State.resumeRun
  simp
@[simp] theorem State.resumeRun_pins (s : State) : (s.resumeRun).pins = s.pins := by
  unfold State.resumeRun
  simp
@[simp] theorem State.resumeRun_pending (s : State) : (s.resumeRun).pending = s.pending := by
  unfold State.resumeRun
  simp
@[simp] theorem State.stopRunning_mem (s : State) : (s.stopRunning).mem = s.mem := by
  unfold State.stopRunning
  simp
@[simp] theorem State.stopRunning_pins (s : State) : (s.stopRunning).pins = s.pins := by
  unfold State.stopRunning
  simp
@[simp] theorem State.stopRunning_pending (s : State) : (s.stopRunning).pending = s.pending := by
  unfold State.stopRunning
  simp
@[simp] theorem State.clearAccounts_mem (s : State) m : (s.clearAccounts m).mem = s.mem := by
  unfold State.clearAccounts
  simp
@[simp] theorem State.clearAccounts_pins (s : State) m : (s.clearAccounts m).pins = s.pins := by
  unfold State.clearAccounts
  simp
@[simp] theorem State.clearAccounts_pending (s : State) m : (s.clearAccounts m).pending = s.pending := by
  unfold State.clearAccounts
  simp
@[simp] theorem State.fillDone_mem (s : State) : (s.fillDone).mem = s.mem := by
  unfold State.fillDone
  simp
@[simp] theorem State.fillDone_pins (s : State) : (s.fillDone).pins = s.pins := by
  unfold State.fillDone
  simp
@[simp] theorem State.fillDone_pending (s : State) : (s.fillDone).pending = s.pending := by
  unfold State.fillDone
  simp
@[simp] theorem State.judgeStart_mem (s : State) c : (s.judgeStart c).mem = s.mem := by
  unfold State.judgeStart
  (repeat' split) <;> simp
@[simp] theorem State.judgeStart_pins (s : State) c : (s.judgeStart c).pins = s.pins := by
  unfold State.judgeStart
  (repeat' split) <;> simp
@[simp] theorem State.judgeStart_pending (s : State) c : (s.judgeStart c).pending = s.pending := by
  unfold State.judgeStart
  (repeat' split) <;> simp
@[simp] theorem State.judgeHold_mem (s : State) c : (s.judgeHold c).mem = s.mem := by
  unfold State.judgeHold
  (repeat' split) <;> simp
@[simp] theorem State.judgeHold_pins (s : State) c : (s.judgeHold c).pins = s.pins := by
  unfold State.judgeHold
  (repeat' split) <;> simp
@[simp] theorem State.judgeHold_pending (s : State) c : (s.judgeHold c).pending = s.pending := by
  unfold State.judgeHold
  (repeat' split) <;> simp
@[simp] theorem State.judgeResume_mem (s : State) c : (s.judgeResume c).mem = s.mem := by
  unfold State.judgeResume
  (repeat' split) <;> simp
@[simp] theorem State.judgeResume_pins (s : State) c : (s.judgeResume c).pins = s.pins := by
  unfold State.judgeResume
  (repeat' split) <;> simp
@[simp] theorem State.judgeResume_pending (s : State) c : (s.judgeResume c).pending = s.pending := by
  unfold State.judgeResume
  (repeat' split) <;> simp
@[simp] theorem State.judgeStop_mem (s : State) c : (s.judgeStop c).mem = s.mem := by
  unfold State.judgeStop
  (repeat' split) <;> simp
@[simp] theorem State.judgeStop_pins (s : State) c : (s.judgeStop c).pins = s.pins := by
  unfold State.judgeStop
  (repeat' split) <;> simp
@[simp] theorem State.judgeStop_pending (s : State) c : (s.judgeStop c).pending = s.pending := by
  unfold State.judgeStop
  (repeat' split) <;> simp
@[simp] theorem State.judgeLoad_mem (s : State) c : (s.judgeLoad c).mem = s.mem := by
  unfold State.judgeLoad
  simp
@[simp] theorem State.judgeLoad_pins (s : State) c : (s.judgeLoad c).pins = s.pins := by
  unfold State.judgeLoad
  simp
@[simp] theorem State.judgeLoad_pending (s : State) c : (s.judgeLoad c).pending = s.pending := by
  unfold State.judgeLoad
  simp
@[simp] theorem State.judgeFill_mem (s : State) c : (s.judgeFill c).mem = s.mem := by
  unfold State.judgeFill
  (repeat' split) <;> simp
@[simp] theorem State.judgeFill_pins (s : State) c : (s.judgeFill c).pins = s.pins := by
  unfold State.judgeFill
  (repeat' split) <;> simp
@[simp] theorem State.judgeFill_pending (s : State) c : (s.judgeFill c).pending = s.pending := by
  unfold State.judgeFill
  (repeat' split) <;> simp
@[simp] theorem State.judgeClear_mem (s : State) c : (s.judgeClear c).mem = s.mem := by
  unfold State.judgeClear
  (repeat' split) <;> simp
@[simp] theorem State.judgeClear_pins (s : State) c : (s.judgeClear c).pins = s.pins := by
  unfold State.judgeClear
  (repeat' split) <;> simp
@[simp] theorem State.judgeClear_pending (s : State) c : (s.judgeClear c).pending = s.pending := by
  unfold State.judgeClear
  (repeat' split) <;> simp
@[simp] theorem State.judgeDiagnose_mem (s : State) c : (s.judgeDiagnose c).mem = s.mem := by
  unfold State.judgeDiagnose
  (repeat' split) <;> simp
@[simp] theorem State.judgeDiagnose_pins (s : State) c : (s.judgeDiagnose c).pins = s.pins := by
  unfold State.judgeDiagnose
  (repeat' split) <;> simp
@[simp] theorem State.judgeDiagnose_pending (s : State) c : (s.judgeDiagnose c).pending = s.pending := by
  unfold State.judgeDiagnose
  (repeat' split) <;> simp
@[simp] theorem State.judge_mem (s : State) c : (s.judge c).mem = s.mem := by
  unfold State.judge
  (repeat' split) <;> simp
@[simp] theorem State.judge_pins (s : State) c : (s.judge c).pins = s.pins := by
  unfold State.judge
  (repeat' split) <;> simp
@[simp] theorem State.judge_pending (s : State) c : (s.judge c).pending = s.pending := by
  unfold State.judge
  (repeat' split) <;> simp
@[simp] theorem State.displace_mem (s : State) : (s.displace).mem = s.mem := by
  unfold State.displace
  (repeat' split) <;> simp
@[simp] theorem State.displace_pins (s : State) : (s.displace).pins = s.pins := by
  unfold State.displace
  (repeat' split) <;> simp
@[simp] theorem State.displace_pending (s : State) : (s.displace).pending = s.pending := by
  unfold State.displace
  (repeat' split) <;> simp
@[simp] theorem State.takeCommand_mem (s : State) c : (s.takeCommand c).mem = s.mem := by
  unfold State.takeCommand
  (repeat' split) <;> simp
@[simp] theorem State.takeCommand_pins (s : State) c : (s.takeCommand c).pins = s.pins := by
  unfold State.takeCommand
  (repeat' split) <;> simp
@[simp] theorem State.takeCommand_pending (s : State) c : (s.takeCommand c).pending = s.pending := by
  unfold State.takeCommand
  (repeat' split) <;> simp
@[simp] theorem State.handOff_mem (s : State) c : (s.handOff c).mem = s.mem := by
  unfold State.handOff
  simp
@[simp] theorem State.handOff_pins (s : State) c : (s.handOff c).pins = s.pins := by
  unfold State.handOff
  simp
@[simp] theorem State.handOff_pending (s : State) c : (s.handOff c).pending = s.pending := by
  unfold State.handOff
  simp
@[simp] theorem State.dueCompletion_mem (s : State) : (s.dueCompletion).mem = s.mem := by
  unfold State.dueCompletion
  (repeat' split) <;> simp
@[simp] theorem State.dueCompletion_pins (s : State) : (s.dueCompletion).pins = s.pins := by
  unfold State.dueCompletion
  (repeat' split) <;> simp
@[simp] theorem State.dueCompletion_pending (s : State) : (s.dueCompletion).pending = s.pending := by
  unfold State.dueCompletion
  (repeat' split) <;> simp
@[simp] theorem State.finishCheck_mem (s : State) : (s.finishCheck).mem = s.mem := by
  unfold State.finishCheck
  (repeat' split) <;> simp
@[simp] theorem State.finishCheck_pins (s : State) : (s.finishCheck).pins = s.pins := by
  unfold State.finishCheck
  (repeat' split) <;> simp
@[simp] theorem State.finishCheck_pending (s : State) : (s.finishCheck).pending = s.pending := by
  unfold State.finishCheck
  (repeat' split) <;> simp
@[simp] theorem State.headerWork_mem (s : State) : (s.headerWork).mem = s.mem := by
  unfold State.headerWork
  simp
@[simp] theorem State.headerWork_pins (s : State) : (s.headerWork).pins = s.pins := by
  unfold State.headerWork
  simp
@[simp] theorem State.headerWork_pending (s : State) : (s.headerWork).pending = s.pending := by
  unfold State.headerWork
  simp
@[simp] theorem State.enterSweep_mem (s : State) : s.enterSweep.mem = s.mem := rfl
@[simp] theorem State.enterSweep_pins (s : State) : s.enterSweep.pins = s.pins := rfl
@[simp] theorem State.enterSweep_pending (s : State) : s.enterSweep.pending = s.pending := rfl
@[simp] theorem State.enterSweep_smc (s : State) : s.enterSweep.smc = s.smc := rfl
@[simp] theorem State.enterSweep_sockets (s : State) : s.enterSweep.sockets = s.sockets := rfl
@[simp] theorem State.beginSweep_mem (s : State) : (s.beginSweep).mem = s.mem := by
  unfold State.beginSweep
  simp
@[simp] theorem State.beginSweep_pins (s : State) : (s.beginSweep).pins = s.pins := by
  unfold State.beginSweep
  simp
@[simp] theorem State.beginSweep_pending (s : State) : (s.beginSweep).pending = s.pending := by
  unfold State.beginSweep
  simp
@[simp] theorem State.sweepStartEvent_mem (s : State) n : (s.sweepStartEvent n).mem = s.mem := by
  unfold State.sweepStartEvent
  (repeat' split) <;> simp
@[simp] theorem State.sweepStartEvent_pins (s : State) n : (s.sweepStartEvent n).pins = s.pins := by
  unfold State.sweepStartEvent
  (repeat' split) <;> simp
@[simp] theorem State.sweepStartEvent_pending (s : State) n : (s.sweepStartEvent n).pending = s.pending := by
  unfold State.sweepStartEvent
  (repeat' split) <;> simp
@[simp] theorem State.setScanEnable_mem (s : State) b : (s.setScanEnable b).mem = s.mem := by
  unfold State.setScanEnable
  (repeat' split) <;> simp
@[simp] theorem State.setScanEnable_pins (s : State) b : (s.setScanEnable b).pins = s.pins := by
  unfold State.setScanEnable
  (repeat' split) <;> simp
@[simp] theorem State.setScanEnable_pending (s : State) b : (s.setScanEnable b).pending = s.pending := by
  unfold State.setScanEnable
  (repeat' split) <;> simp
@[simp] theorem State.fillAtEnd_mem (s : State) : (s.fillAtEnd).mem = s.mem := by
  unfold State.fillAtEnd
  (repeat' split) <;> simp
@[simp] theorem State.fillAtEnd_pins (s : State) : (s.fillAtEnd).pins = s.pins := by
  unfold State.fillAtEnd
  (repeat' split) <;> simp
@[simp] theorem State.fillAtEnd_pending (s : State) : (s.fillAtEnd).pending = s.pending := by
  unfold State.fillAtEnd
  (repeat' split) <;> simp
@[simp] theorem State.beginVisit_mem (s : State) i : (s.beginVisit i).mem = s.mem := by
  unfold State.beginVisit
  simp
@[simp] theorem State.beginVisit_pins (s : State) i : (s.beginVisit i).pins = s.pins := by
  unfold State.beginVisit
  simp
@[simp] theorem State.beginVisit_pending (s : State) i : (s.beginVisit i).pending = s.pending := by
  unfold State.beginVisit
  simp
@[simp] theorem State.beginChunk_mem (s : State) : (s.beginChunk).mem = s.mem := by
  unfold State.beginChunk
  simp
@[simp] theorem State.beginChunk_pins (s : State) : (s.beginChunk).pins = s.pins := by
  unfold State.beginChunk
  simp
@[simp] theorem State.beginChunk_pending (s : State) : (s.beginChunk).pending = s.pending := by
  unfold State.beginChunk
  simp
@[simp] theorem State.staleHeader_mem (s : State) : (s.staleHeader).mem = s.mem := by
  unfold State.staleHeader
  simp
@[simp] theorem State.staleHeader_pins (s : State) : (s.staleHeader).pins = s.pins := by
  unfold State.staleHeader
  simp
@[simp] theorem State.staleHeader_pending (s : State) : (s.staleHeader).pending = s.pending := by
  unfold State.staleHeader
  simp
@[simp] theorem State.syncHeader_mem (s : State) r : (s.syncHeader r).mem = s.mem := by
  unfold State.syncHeader
  simp
@[simp] theorem State.syncHeader_pins (s : State) r : (s.syncHeader r).pins = s.pins := by
  unfold State.syncHeader
  simp
@[simp] theorem State.syncHeader_pending (s : State) r : (s.syncHeader r).pending = s.pending := by
  unfold State.syncHeader
  simp
@[simp] theorem State.adoptConfig_mem (s : State) rev res c : (s.adoptConfig rev res c).mem = s.mem := by
  unfold State.adoptConfig
  simp
@[simp] theorem State.adoptConfig_pins (s : State) rev res c : (s.adoptConfig rev res c).pins = s.pins := by
  unfold State.adoptConfig
  simp
@[simp] theorem State.adoptConfig_pending (s : State) rev res c : (s.adoptConfig rev res c).pending = s.pending := by
  unfold State.adoptConfig
  simp
@[simp] theorem State.takeConfig_mem (s : State) r : (s.takeConfig r).mem = s.mem := by
  unfold State.takeConfig
  dsimp only
  (repeat' split) <;> simp
@[simp] theorem State.takeConfig_pins (s : State) r : (s.takeConfig r).pins = s.pins := by
  unfold State.takeConfig
  dsimp only
  (repeat' split) <;> simp
@[simp] theorem State.takeConfig_pending (s : State) r : (s.takeConfig r).pending = s.pending := by
  unfold State.takeConfig
  dsimp only
  (repeat' split) <;> simp
@[simp] theorem State.takeTag_mem (s : State) r : (s.takeTag r).mem = s.mem := by
  unfold State.takeTag
  (repeat' split) <;> simp
@[simp] theorem State.takeTag_pins (s : State) r : (s.takeTag r).pins = s.pins := by
  unfold State.takeTag
  (repeat' split) <;> simp
@[simp] theorem State.takeTag_pending (s : State) r : (s.takeTag r).pending = s.pending := by
  unfold State.takeTag
  (repeat' split) <;> simp
@[simp] theorem State.headerRead_mem (s : State) rec : (s.headerRead rec).mem = s.mem := by
  unfold State.headerRead
  (repeat' split) <;> simp
@[simp] theorem State.headerRead_pins (s : State) rec : (s.headerRead rec).pins = s.pins := by
  unfold State.headerRead
  (repeat' split) <;> simp
@[simp] theorem State.headerRead_pending (s : State) rec : (s.headerRead rec).pending = s.pending := by
  unfold State.headerRead
  (repeat' split) <;> simp
@[simp] theorem State.writeHeader_mem (s : State) : (s.writeHeader).mem = s.mem := by
  unfold State.writeHeader
  simp
@[simp] theorem State.writeHeader_pins (s : State) : (s.writeHeader).pins = s.pins := by
  unfold State.writeHeader
  simp
@[simp] theorem State.writeHeader_pending (s : State) : (s.writeHeader).pending = s.pending := by
  unfold State.writeHeader
  simp
@[simp] theorem State.writeStatus_mem (s : State) i : (s.writeStatus i).mem = s.mem := by
  unfold State.writeStatus
  simp
@[simp] theorem State.writeStatus_pins (s : State) i : (s.writeStatus i).pins = s.pins := by
  unfold State.writeStatus
  simp
@[simp] theorem State.writeStatus_pending (s : State) i : (s.writeStatus i).pending = s.pending := by
  unfold State.writeStatus
  simp
@[simp] theorem State.nextMove_mem (s : State) i n m : (s.nextMove i n m).mem = s.mem := by
  unfold State.nextMove
  (repeat' split) <;> simp
@[simp] theorem State.nextMove_pins (s : State) i n m : (s.nextMove i n m).pins = s.pins := by
  unfold State.nextMove
  (repeat' split) <;> simp
@[simp] theorem State.nextMove_pending (s : State) i n m : (s.nextMove i n m).pending = s.pending := by
  unfold State.nextMove
  (repeat' split) <;> simp
@[simp] theorem State.deliverChunk_mem (s : State) c es : (s.deliverChunk c es).mem = s.mem := by
  unfold State.deliverChunk
  (repeat' split) <;> simp
@[simp] theorem State.deliverChunk_pins (s : State) c es : (s.deliverChunk c es).pins = s.pins := by
  unfold State.deliverChunk
  (repeat' split) <;> simp
@[simp] theorem State.deliverChunk_pending (s : State) c es : (s.deliverChunk c es).pending = s.pending := by
  unfold State.deliverChunk
  (repeat' split) <;> simp
@[simp] theorem State.failLoad_mem (s : State) res d : (s.failLoad res d).mem = s.mem := by
  unfold State.failLoad
  simp
@[simp] theorem State.failLoad_pins (s : State) res d : (s.failLoad res d).pins = s.pins := by
  unfold State.failLoad
  simp
@[simp] theorem State.failLoad_pending (s : State) res d : (s.failLoad res d).pending = s.pending := by
  unfold State.failLoad
  simp
@[simp] theorem State.takeChunk_mem (s : State) c rec : (s.takeChunk c rec).mem = s.mem := by
  unfold State.takeChunk
  (repeat' split) <;> simp
@[simp] theorem State.takeChunk_pins (s : State) c rec : (s.takeChunk c rec).pins = s.pins := by
  unfold State.takeChunk
  (repeat' split) <;> simp
@[simp] theorem State.takeChunk_pending (s : State) c rec : (s.takeChunk c rec).pending = s.pending := by
  unfold State.takeChunk
  (repeat' split) <;> simp
@[simp] theorem State.resetBlocks_mem (s : State) : (s.resetBlocks).mem = s.mem := by
  unfold State.resetBlocks
  simp
@[simp] theorem State.resetBlocks_pins (s : State) : (s.resetBlocks).pins = s.pins := by
  unfold State.resetBlocks
  simp
@[simp] theorem State.resetBlocks_pending (s : State) : (s.resetBlocks).pending = s.pending := by
  unfold State.resetBlocks
  simp
@[simp] theorem State.interlockAtReset_mem (s : State) : (s.interlockAtReset).mem = s.mem := by
  unfold State.interlockAtReset
  (repeat' split) <;> simp
@[simp] theorem State.interlockAtReset_pins (s : State) : (s.interlockAtReset).pins = s.pins := by
  unfold State.interlockAtReset
  (repeat' split) <;> simp
@[simp] theorem State.interlockAtReset_pending (s : State) : (s.interlockAtReset).pending = s.pending := by
  unfold State.interlockAtReset
  (repeat' split) <;> simp
@[simp] theorem State.softReset_pins (s : State) : (s.softReset).pins = s.pins := by
  unfold State.softReset
  simp
@[simp] theorem State.softReset_pending (s : State) : (s.softReset).pending = s.pending := by
  unfold State.softReset
  simp
@[simp] theorem State.powerOnReset_pending (s : State) : (s.powerOnReset).pending = s.pending := by
  unfold State.powerOnReset
  simp
@[simp] theorem State.porRelease_mem (s : State) : (s.porRelease).mem = s.mem := by
  unfold State.porRelease
  simp
@[simp] theorem State.porRelease_pending (s : State) : (s.porRelease).pending = s.pending := by
  unfold State.porRelease
  simp
@[simp] theorem State.hostFault_mem (s : State) c a k : (s.hostFault c a k).mem = s.mem := by
  unfold State.hostFault
  simp
@[simp] theorem State.hostFault_pins (s : State) c a k : (s.hostFault c a k).pins = s.pins := by
  unfold State.hostFault
  simp
@[simp] theorem State.hostFault_pending (s : State) c a k : (s.hostFault c a k).pending = s.pending := by
  unfold State.hostFault
  simp
@[simp] theorem State.cycleDone_mem (s : State) k o : (s.cycleDone k o).mem = s.mem := by
  unfold State.cycleDone
  simp
@[simp] theorem State.cycleDone_pins (s : State) k o : (s.cycleDone k o).pins = s.pins := by
  unfold State.cycleDone
  simp
@[simp] theorem State.cycleDone_pending (s : State) k o : (s.cycleDone k o).pending = s.pending := by
  unfold State.cycleDone
  simp
@[simp] theorem State.noAccess_mem (s : State) n : (s.noAccess n).mem = s.mem := by
  unfold State.noAccess
  (repeat' split) <;> simp
@[simp] theorem State.noAccess_pins (s : State) n : (s.noAccess n).pins = s.pins := by
  unfold State.noAccess
  (repeat' split) <;> simp
@[simp] theorem State.noAccess_pending (s : State) n : (s.noAccess n).pending = s.pending := by
  unfold State.noAccess
  (repeat' split) <;> simp
@[simp] theorem State.strobeRelease_mem (s : State) : (s.strobeRelease).mem = s.mem := by
  unfold State.strobeRelease
  (repeat' split) <;> simp
@[simp] theorem State.strobeRelease_pins (s : State) : (s.strobeRelease).pins = s.pins := by
  unfold State.strobeRelease
  (repeat' split) <;> simp
@[simp] theorem State.strobeRelease_pending (s : State) : (s.strobeRelease).pending = s.pending := by
  unfold State.strobeRelease
  (repeat' split) <;> simp
@[simp] theorem State.finishCycle_mem (s : State) c o : (s.finishCycle c o).mem = s.mem := by
  unfold State.finishCycle
  (repeat' split) <;> simp
@[simp] theorem State.finishCycle_pins (s : State) c o : (s.finishCycle c o).pins = s.pins := by
  unfold State.finishCycle
  (repeat' split) <;> simp
@[simp] theorem State.finishCycle_pending (s : State) c o : (s.finishCycle c o).pending = s.pending := by
  unfold State.finishCycle
  (repeat' split) <;> simp
@[simp] theorem State.accessDone_pins (s : State) : (s.accessDone).pins = s.pins := by
  unfold State.accessDone
  (repeat' split) <;> simp
  split <;> simp
@[simp] theorem State.accessDone_pending (s : State) : (s.accessDone).pending = s.pending := by
  unfold State.accessDone
  (repeat' split) <;> simp
  split <;> simp
@[simp] theorem State.writeControl_pins (s : State) d : (s.writeControl d).pins = s.pins := by
  unfold State.writeControl
  (repeat' split) <;> simp
@[simp] theorem State.writeControl_pending (s : State) d : (s.writeControl d).pending = s.pending := by
  unfold State.writeControl
  (repeat' split) <;> simp
@[simp] theorem State.writeRegister_pins (s : State) a d : (s.writeRegister a d).pins = s.pins := by
  unfold State.writeRegister
  (repeat' split) <;> simp
@[simp] theorem State.writeRegister_pending (s : State) a d : (s.writeRegister a d).pending = s.pending := by
  unfold State.writeRegister
  (repeat' split) <;> simp
@[simp] theorem State.registerWrite_pins (s : State) a d : (s.registerWrite a d).pins = s.pins := by
  unfold State.registerWrite
  (repeat' split) <;> simp
@[simp] theorem State.registerWrite_pending (s : State) a d : (s.registerWrite a d).pending = s.pending := by
  unfold State.registerWrite
  (repeat' split) <;> simp
@[simp] theorem State.senseTick_mem (s : State) : (s.senseTick).mem = s.mem := by
  unfold State.senseTick
  simp
@[simp] theorem State.senseTick_pins (s : State) : (s.senseTick).pins = s.pins := by
  unfold State.senseTick
  simp
@[simp] theorem State.senseTick_pending (s : State) : (s.senseTick).pending = s.pending := by
  unfold State.senseTick
  simp
@[simp] theorem State.railSample_mem (s : State) i o v a : (s.railSample i o v a).mem = s.mem := by
  unfold State.railSample
  simp
@[simp] theorem State.railSample_pins (s : State) i o v a : (s.railSample i o v a).pins = s.pins := by
  unfold State.railSample
  simp
@[simp] theorem State.railSample_pending (s : State) i o v a : (s.railSample i o v a).pending = s.pending := by
  unfold State.railSample
  simp
@[simp] theorem State.fastTrip_mem (s : State) i l : (s.fastTrip i l).mem = s.mem := by
  unfold State.fastTrip
  (repeat' split) <;> simp
@[simp] theorem State.fastTrip_pending (s : State) i l : (s.fastTrip i l).pending = s.pending := by
  unfold State.fastTrip
  (repeat' split) <;> simp
@[simp] theorem State.chainStart_mem (s : State) b : (s.chainStart b).mem = s.mem := by
  unfold State.chainStart
  (repeat' split) <;> simp
@[simp] theorem State.chainStart_pins (s : State) b : (s.chainStart b).pins = s.pins := by
  unfold State.chainStart
  (repeat' split) <;> simp
@[simp] theorem State.chainStart_pending (s : State) b : (s.chainStart b).pending = s.pending := by
  unfold State.chainStart
  (repeat' split) <;> simp
@[simp] theorem State.socketExpiry_mem (s : State) i : (s.socketExpiry i).mem = s.mem := by
  unfold State.socketExpiry
  (repeat' split) <;> simp
@[simp] theorem State.socketExpiry_pins (s : State) i : (s.socketExpiry i).pins = s.pins := by
  unfold State.socketExpiry
  (repeat' split) <;> simp
@[simp] theorem State.socketExpiry_pending (s : State) i : (s.socketExpiry i).pending = s.pending := by
  unfold State.socketExpiry
  (repeat' split) <;> simp
@[simp] theorem State.cutBank_mem (s : State) b : (s.cutBank b).mem = s.mem := by
  unfold State.cutBank
  simp
@[simp] theorem State.cutBank_pins (s : State) b : (s.cutBank b).pins = s.pins := by
  unfold State.cutBank
  simp
@[simp] theorem State.cutBank_pending (s : State) b : (s.cutBank b).pending = s.pending := by
  unfold State.cutBank
  simp
@[simp] theorem State.lockBank_mem (s : State) b : (s.lockBank b).mem = s.mem := by
  unfold State.lockBank
  simp
@[simp] theorem State.lockBank_pins (s : State) b : (s.lockBank b).pins = s.pins := by
  unfold State.lockBank
  simp
@[simp] theorem State.lockBank_pending (s : State) b : (s.lockBank b).pending = s.pending := by
  unfold State.lockBank
  simp
@[simp] theorem State.bankTrip_mem (s : State) b : (s.bankTrip b).mem = s.mem := by
  unfold State.bankTrip
  (repeat' split) <;> simp
@[simp] theorem State.bankTrip_pins (s : State) b : (s.bankTrip b).pins = s.pins := by
  unfold State.bankTrip
  (repeat' split) <;> simp
@[simp] theorem State.bankTrip_pending (s : State) b : (s.bankTrip b).pending = s.pending := by
  unfold State.bankTrip
  (repeat' split) <;> simp
@[simp] theorem State.feedSample_mem (s : State) b c : (s.feedSample b c).mem = s.mem := by
  unfold State.feedSample
  (repeat' split) <;> simp
@[simp] theorem State.feedSample_pins (s : State) b c : (s.feedSample b c).pins = s.pins := by
  unfold State.feedSample
  (repeat' split) <;> simp
@[simp] theorem State.feedSample_pending (s : State) b c : (s.feedSample b c).pending = s.pending := by
  unfold State.feedSample
  (repeat' split) <;> simp
@[simp] theorem State.bankExpiry_mem (s : State) b : (s.bankExpiry b).mem = s.mem := by
  unfold State.bankExpiry
  (repeat' split) <;> simp
@[simp] theorem State.bankExpiry_pins (s : State) b : (s.bankExpiry b).pins = s.pins := by
  unfold State.bankExpiry
  (repeat' split) <;> simp
@[simp] theorem State.bankExpiry_pending (s : State) b : (s.bankExpiry b).pending = s.pending := by
  unfold State.bankExpiry
  (repeat' split) <;> simp
@[simp] theorem State.sensorSample_mem (s : State) i c : (s.sensorSample i c).mem = s.mem := by
  unfold State.sensorSample
  simp
@[simp] theorem State.sensorSample_pins (s : State) i c : (s.sensorSample i c).pins = s.pins := by
  unfold State.sensorSample
  simp
@[simp] theorem State.sensorSample_pending (s : State) i c : (s.sensorSample i c).pending = s.pending := by
  unfold State.sensorSample
  simp
@[simp] theorem State.periodStart_mem (s : State) : (s.periodStart).mem = s.mem := by
  unfold State.periodStart
  simp
@[simp] theorem State.periodStart_pins (s : State) : (s.periodStart).pins = s.pins := by
  unfold State.periodStart
  simp
@[simp] theorem State.periodStart_pending (s : State) : (s.periodStart).pending = s.pending := by
  unfold State.periodStart
  simp
@[simp] theorem State.pwmTick_mem (s : State) : (s.pwmTick).mem = s.mem := by
  unfold State.pwmTick
  (repeat' split) <;> simp
@[simp] theorem State.pwmTick_pins (s : State) : (s.pwmTick).pins = s.pins := by
  unfold State.pwmTick
  (repeat' split) <;> simp
@[simp] theorem State.pwmTick_pending (s : State) : (s.pwmTick).pending = s.pending := by
  unfold State.pwmTick
  (repeat' split) <;> simp
@[simp] theorem State.interlockAssert_mem (s : State) : (s.interlockAssert).mem = s.mem := by
  unfold State.interlockAssert
  (repeat' split) <;> simp
@[simp] theorem State.interlockAssert_pending (s : State) : (s.interlockAssert).pending = s.pending := by
  unfold State.interlockAssert
  (repeat' split) <;> simp
@[simp] theorem State.interlockRelease_mem (s : State) : (s.interlockRelease).mem = s.mem := by
  unfold State.interlockRelease
  simp
@[simp] theorem State.interlockRelease_pending (s : State) : (s.interlockRelease).pending = s.pending := by
  unfold State.interlockRelease
  simp
@[simp] theorem State.vectorEvent_mem (s : State) r l k : (s.vectorEvent r l k).mem = s.mem := by
  unfold State.vectorEvent
  simp
@[simp] theorem State.vectorEvent_pins (s : State) r l k : (s.vectorEvent r l k).pins = s.pins := by
  unfold State.vectorEvent
  simp
@[simp] theorem State.vectorEvent_pending (s : State) r l k : (s.vectorEvent r l k).pending = s.pending := by
  unfold State.vectorEvent
  simp
@[simp] theorem State.laneVector_mem (s : State) r l k : (s.laneVector r l k).mem = s.mem := by
  unfold State.laneVector
  (repeat' split) <;> simp
@[simp] theorem State.laneVector_pins (s : State) r l k : (s.laneVector r l k).pins = s.pins := by
  unfold State.laneVector
  (repeat' split) <;> simp
@[simp] theorem State.laneVector_pending (s : State) r l k : (s.laneVector r l k).pending = s.pending := by
  unfold State.laneVector
  (repeat' split) <;> simp
@[simp] theorem State.boundaryEvent_mem (s : State) : (s.boundaryEvent).mem = s.mem := by
  unfold State.boundaryEvent
  simp
@[simp] theorem State.boundaryEvent_pins (s : State) : (s.boundaryEvent).pins = s.pins := by
  unfold State.boundaryEvent
  simp
@[simp] theorem State.boundaryEvent_pending (s : State) : (s.boundaryEvent).pending = s.pending := by
  unfold State.boundaryEvent
  simp

/-! ## Host cycles that may come with a sweep start -/

@[simp] theorem State.sweepStart_mem (s : State) : (s.sweepStart).mem = s.mem := by
  unfold State.sweepStart
  (repeat' split) <;> simp
@[simp] theorem State.sweepStart_pins (s : State) : (s.sweepStart).pins = s.pins := by
  unfold State.sweepStart
  (repeat' split) <;> simp
@[simp] theorem State.sweepStart_pending (s : State) : (s.sweepStart).pending = s.pending := by
  unfold State.sweepStart
  (repeat' split) <;> simp
@[simp] theorem State.beginAccess_mem (s : State) k : (s.beginAccess k).mem = s.mem := by
  unfold State.beginAccess
  simp
@[simp] theorem State.beginAccess_pins (s : State) k : (s.beginAccess k).pins = s.pins := by
  unfold State.beginAccess
  simp
@[simp] theorem State.beginAccess_pending (s : State) k : (s.beginAccess k).pending = s.pending := by
  unfold State.beginAccess
  simp
/-- A host event that keeps it keeps it also where it comes with the sweep start event. -/
theorem State.arriving_mem (s : State) (b : Bool) (f : State → State) (h : ∀ t, (f t).mem = t.mem) :
    (s.arriving b f).mem = s.mem := by
  unfold State.arriving
  (repeat' split) <;> simp [h]
/-- A host event that keeps it keeps it also where it comes with the sweep start event. -/
theorem State.arriving_pins (s : State) (b : Bool) (f : State → State) (h : ∀ t, (f t).pins = t.pins) :
    (s.arriving b f).pins = s.pins := by
  unfold State.arriving
  (repeat' split) <;> simp [h]
/-- A host event that keeps it keeps it also where it comes with the sweep start event. -/
theorem State.arriving_pending (s : State) (b : Bool) (f : State → State) (h : ∀ t, (f t).pending = t.pending) :
    (s.arriving b f).pending = s.pending := by
  unfold State.arriving
  (repeat' split) <;> simp [h]
@[simp] theorem State.hostRead_mem (s : State) r : (s.hostRead r).mem = s.mem := by
  unfold State.hostRead
  split
  · exact State.arriving_mem s _ _ fun t => by simp
  · rfl
@[simp] theorem State.hostWrite_mem (s : State) r d : (s.hostWrite r d).mem = s.mem := by
  unfold State.hostWrite
  dsimp only
  split
  · exact State.arriving_mem s _ _ fun t => by split <;> simp
  · rfl
@[simp] theorem State.hostRead_pins (s : State) r : (s.hostRead r).pins = s.pins := by
  unfold State.hostRead
  split
  · exact State.arriving_pins s _ _ fun t => by simp
  · rfl
@[simp] theorem State.hostWrite_pins (s : State) r d : (s.hostWrite r d).pins = s.pins := by
  unfold State.hostWrite
  dsimp only
  split
  · exact State.arriving_pins s _ _ fun t => by split <;> simp
  · rfl
@[simp] theorem State.hostRead_pending (s : State) r : (s.hostRead r).pending = s.pending := by
  unfold State.hostRead
  split
  · exact State.arriving_pending s _ _ fun t => by simp
  · rfl
@[simp] theorem State.hostWrite_pending (s : State) r d : (s.hostWrite r d).pending = s.pending := by
  unfold State.hostWrite
  dsimp only
  split
  · exact State.arriving_pending s _ _ fun t => by split <;> simp
  · rfl

/-! ## The socket visit and the events that fall at it -/

@[simp] theorem State.dropoutSample_mem (s : State) i v a : (s.dropoutSample i v a).mem = s.mem := by
  unfold State.dropoutSample
  (repeat' split) <;> simp
@[simp] theorem State.dropoutSample_pins (s : State) i v a : (s.dropoutSample i v a).pins = s.pins := by
  unfold State.dropoutSample
  (repeat' split) <;> simp
@[simp] theorem State.dropoutSample_pending (s : State) i v a : (s.dropoutSample i v a).pending = s.pending := by
  unfold State.dropoutSample
  (repeat' split) <;> simp
@[simp] theorem State.openSample_mem (s : State) i v a : (s.openSample i v a).mem = s.mem := by
  unfold State.openSample
  (repeat' split) <;> simp
@[simp] theorem State.openSample_pins (s : State) i v a : (s.openSample i v a).pins = s.pins := by
  unfold State.openSample
  (repeat' split) <;> simp
@[simp] theorem State.openSample_pending (s : State) i v a : (s.openSample i v a).pending = s.pending := by
  unfold State.openSample
  (repeat' split) <;> simp
@[simp] theorem State.frameBoundary_mem (s : State) : (s.frameBoundary).mem = s.mem := by
  unfold State.frameBoundary
  (repeat' split) <;> simp
@[simp] theorem State.frameBoundary_pins (s : State) : (s.frameBoundary).pins = s.pins := by
  unfold State.frameBoundary
  (repeat' split) <;> simp
@[simp] theorem State.frameBoundary_pending (s : State) : (s.frameBoundary).pending = s.pending := by
  unfold State.frameBoundary
  (repeat' split) <;> simp
@[simp] theorem State.selftestTimeout_mem (s : State) i : (s.selftestTimeout i).mem = s.mem := by
  unfold State.selftestTimeout
  simp
@[simp] theorem State.selftestTimeout_pins (s : State) i : (s.selftestTimeout i).pins = s.pins := by
  unfold State.selftestTimeout
  simp
@[simp] theorem State.selftestTimeout_pending (s : State) i : (s.selftestTimeout i).pending = s.pending := by
  unfold State.selftestTimeout
  simp
@[simp] theorem State.selftestExpiry_mem (s : State) i : (s.selftestExpiry i).mem = s.mem := by
  unfold State.selftestExpiry
  (repeat' split) <;> simp
@[simp] theorem State.selftestExpiry_pins (s : State) i : (s.selftestExpiry i).pins = s.pins := by
  unfold State.selftestExpiry
  (repeat' split) <;> simp
@[simp] theorem State.selftestExpiry_pending (s : State) i : (s.selftestExpiry i).pending = s.pending := by
  unfold State.selftestExpiry
  (repeat' split) <;> simp
/-- A register write without the soft reset writes no memory. -/
theorem State.registerWrite_mem (s : State) (addr data : Word)
    (h : (addr.extractLsb' 0 4).toNat ≠ 0 ∨ data.getLsbD 1 = false) :
    (s.registerWrite addr data).mem = s.mem := by
  unfold State.registerWrite State.writeRegister State.writeControl
  rcases h with h | h
  · split
    · split <;> simp_all
    · rfl
  · simp only [h]
    (repeat' split) <;> simp_all
/-- An event of a visit or of a gap writes no memory, but for the host's access. -/
theorem State.visitEvent_mem (s : State) (e : VisitEvent) (h : e ≠ .hostAccessComplete) :
    (s.visitEvent e).mem = s.mem := by
  cases e <;>
    first
      | exact absurd rfl h
      | exact s.registerWrite_mem _ _ (Or.inr (by decide))
      | exact s.registerWrite_mem _ _ (Or.inl (by decide))
      | simp [State.visitEvent]
@[simp] theorem State.visitEvent_pending (s : State) (e : VisitEvent) :
    (s.visitEvent e).pending = s.pending := by
  cases e <;> simp [State.visitEvent]
/-- The events of a gap write no memory, but for the host's access. -/
theorem State.visitEvents_mem (s : State) (es : List VisitEvent) (h : .hostAccessComplete ∉ es) :
    (s.visitEvents es).mem = s.mem := by
  induction es generalizing s with
  | nil => rfl
  | cons e es ih =>
    simp only [List.mem_cons, not_or] at h
    exact (ih (s.visitEvent e) h.2).trans (s.visitEvent_mem e (Ne.symm h.1))
@[simp] theorem State.visitEvents_pending (s : State) (es : List VisitEvent) :
    (s.visitEvents es).pending = s.pending := by
  induction es generalizing s with
  | nil => rfl
  | cons e es ih => exact (ih (s.visitEvent e)).trans (s.visitEvent_pending e)
@[simp] theorem State.thermalWork_mem (s : State) i : (s.thermalWork i).mem = s.mem := by
  unfold State.thermalWork
  simp
@[simp] theorem State.thermalWork_pins (s : State) i : (s.thermalWork i).pins = s.pins := by
  unfold State.thermalWork
  simp
@[simp] theorem State.thermalWork_pending (s : State) i : (s.thermalWork i).pending = s.pending := by
  unfold State.thermalWork
  simp
@[simp] theorem State.accountWork_mem (s : State) i a w : (s.accountWork i a w).mem = s.mem := by
  cases w <;> simp [State.accountWork]
@[simp] theorem State.accountWork_pins (s : State) i a w : (s.accountWork i a w).pins = s.pins := by
  cases w <;> simp [State.accountWork]
@[simp] theorem State.accountWork_pending (s : State) i a w : (s.accountWork i a w).pending = s.pending := by
  cases w <;> simp [State.accountWork]
theorem State.workThen_mem (s : State) i a w es (h : .hostAccessComplete ∉ es) :
    (s.workThen i a w es).mem = s.mem := by
  unfold State.workThen
  simp [State.visitEvents_mem _ _ h]
@[simp] theorem State.workThen_pending (s : State) i a w es : (s.workThen i a w es).pending = s.pending := by
  unfold State.workThen
  simp
/-- What an order without a host access says of its five gaps. -/
theorem gaps_without_access (o : VisitOrder) (h : .hostAccessComplete ∉ o.events) :
    .hostAccessComplete ∉ o.gap0 ∧ .hostAccessComplete ∉ o.gap1 ∧ .hostAccessComplete ∉ o.gap2 ∧
      .hostAccessComplete ∉ o.gap3 ∧ .hostAccessComplete ∉ o.gap4 := by
  simpa [VisitOrder.events, and_assoc] using h
theorem State.beforeThermal_mem (s : State) i a o (h : .hostAccessComplete ∉ o.events) :
    (s.beforeThermal i a o).mem = s.mem := by
  obtain ⟨h0, h1, h2, h3, -⟩ := gaps_without_access o h
  unfold State.beforeThermal
  dsimp only
  split <;> simp [State.workThen_mem, State.visitEvents_mem, h0, h1, h2, h3]
@[simp] theorem State.beforeThermal_pending (s : State) i a o : (s.beforeThermal i a o).pending = s.pending := by
  unfold State.beforeThermal
  dsimp only
  (repeat' split) <;> simp
theorem State.afterThermal_mem (s : State) i a o (h : .hostAccessComplete ∉ o.events) :
    (s.afterThermal i a o).mem = s.mem := by
  obtain ⟨-, h1, h2, h3, h4⟩ := gaps_without_access o h
  unfold State.afterThermal
  split <;> simp [State.workThen_mem, State.visitEvents_mem, h1, h2, h3, h4]
@[simp] theorem State.afterThermal_pending (s : State) i a o : (s.afterThermal i a o).pending = s.pending := by
  unfold State.afterThermal
  (repeat' split) <;> simp
@[simp] theorem State.takeRecord_mem (s : State) i rec : (s.takeRecord i rec).1.mem = s.mem := by
  unfold State.takeRecord
  simp
@[simp] theorem State.takeRecord_pins (s : State) i rec : (s.takeRecord i rec).1.pins = s.pins := by
  unfold State.takeRecord
  simp
@[simp] theorem State.takeRecord_pending (s : State) i rec : (s.takeRecord i rec).1.pending = s.pending := by
  unfold State.takeRecord
  simp
theorem State.atThermal_mem (s : State) i rec o (h : .hostAccessComplete ∉ o.events) :
    (s.atThermal i rec o).mem = s.mem := by
  unfold State.atThermal
  simp [State.beforeThermal_mem _ _ _ _ h]
@[simp] theorem State.atThermal_pending (s : State) i rec o : (s.atThermal i rec o).pending = s.pending := by
  unfold State.atThermal
  simp
theorem State.visitSocket_mem (s : State) i rec o (h : .hostAccessComplete ∉ o.events) :
    (s.visitSocket i rec o).mem = s.mem := by
  unfold State.visitSocket
  simp [State.atThermal_mem _ _ _ _ h, State.afterThermal_mem _ _ _ _ h]
@[simp] theorem State.visitSocket_pending (s : State) i rec o : (s.visitSocket i rec o).pending = s.pending := by
  unfold State.visitSocket
  simp

/-! ## The ends of the transfers -/

/-- An SCR read ends with no word of the memory changed, but by a host's access within the visit. -/
theorem State.scrDone_mem (s : State) u o (h : .hostAccessComplete ∉ o.events) :
    (s.scrDone u o).mem = s.mem := by
  unfold State.scrDone
  split
  · simp [State.visitSocket_mem _ _ _ _ h]
  · rfl
@[simp] theorem State.scrDone_pending (s : State) u o : (s.scrDone u o).pending = s.pending := by
  unfold State.scrDone
  (repeat' split) <;> simp
@[simp] theorem State.closeSweep_mem (s : State) : s.closeSweep.mem = s.mem := by
  unfold State.closeSweep
  simp
@[simp] theorem State.closeSweep_pins (s : State) : s.closeSweep.pins = s.pins := by
  unfold State.closeSweep
  simp
@[simp] theorem State.closeSweep_pending (s : State) : s.closeSweep.pending = s.pending := by
  unfold State.closeSweep
  simp
theorem State.endSweep_mem (s : State) gap (h : .hostAccessComplete ∉ gap) :
    (s.endSweep gap).mem = s.mem := by
  unfold State.endSweep
  split <;> simp [State.visitEvents_mem _ _ h]
@[simp] theorem State.endSweep_pending (s : State) gap : (s.endSweep gap).pending = s.pending := by
  unfold State.endSweep
  split <;> simp
@[simp] theorem State.nextVisit_pending (s : State) i gap : (s.nextVisit i gap).pending = s.pending := by
  unfold State.nextVisit
  (repeat' split) <;> simp
/-- A BCR read ends with no word of the memory changed, but by a host's access in the gap. -/
theorem State.bcrDone_mem (s : State) u gap (h : .hostAccessComplete ∉ gap) :
    (s.bcrDone u gap).mem = s.mem := by
  unfold State.bcrDone
  split
  · simp [State.visitEvents_mem _ _ h]
  · rfl
@[simp] theorem State.bcrDone_pending (s : State) u gap : (s.bcrDone u gap).pending = s.pending := by
  unfold State.bcrDone
  split <;> simp
@[simp] theorem State.failDone_pending (s : State) gap : (s.failDone gap).pending = s.pending := by
  unfold State.failDone
  split <;> simp
@[simp] theorem State.ssrDone_pending (s : State) gap : (s.ssrDone gap).pending = s.pending := by
  unfold State.ssrDone
  split <;> simp
@[simp] theorem State.bsrDone_pending (s : State) gap : (s.bsrDone gap).pending = s.pending := by
  unfold State.bsrDone
  split <;> simp
/-- A chunk read ends with no word of the memory changed, but by a host's access in the gap. -/
theorem State.chunkDone_mem (s : State) u gap (h : .hostAccessComplete ∉ gap) :
    (s.chunkDone u gap).mem = s.mem := by
  unfold State.chunkDone
  split
  · simp [State.endSweep_mem _ _ h]
  · rfl
@[simp] theorem State.chunkDone_pending (s : State) u gap : (s.chunkDone u gap).pending = s.pending := by
  unfold State.chunkDone
  split <;> simp

end Sys2Proof.Machine
end

