-- ==== Sys2Proof/Laws/Memory.lean ====
section
/-! SUPPORT. The laws of the shared memory: read after write, and that every operation on it keeps its
canonical form. -/

namespace Sys2Proof.Machine

/-- The word written is the word found. -/
theorem Mem.find_write_same (m : Mem) (a : Nat) (v : StoredWord) :
    Mem.find (Mem.write m a v) a = some v := by
  induction m with
  | nil => simp [Mem.write, Mem.find]
  | cons p rest ih =>
    obtain ⟨b, w⟩ := p
    simp only [Mem.write]
    split
    · simp [Mem.find]
    · split
      · simp [Mem.find]
      · next h1 h2 => simp [Mem.find, h1, h2, ih]

/-- A write leaves every other address as it was. -/
theorem Mem.find_write_other (m : Mem) (a a' : Nat) (v : StoredWord) (h : a' ≠ a) :
    Mem.find (Mem.write m a v) a' = Mem.find m a' := by
  induction m with
  | nil =>
    simp only [Mem.write, Mem.find, if_neg h]
    split <;> rfl
  | cons p rest ih =>
    obtain ⟨b, w⟩ := p
    simp only [Mem.write]
    split
    · next h1 => subst h1; simp [Mem.find, h]
    · split
      · next h1 h2 =>
        rw [Mem.find, if_neg h]
        split
        · next h3 =>
          rw [Mem.find, if_neg (by omega), if_pos (by omega)]
        · rfl
      · simp only [Mem.find, ih]

/-- Every address of a written memory is the address written or was there before. -/
theorem Mem.mem_write (m : Mem) (a : Nat) (v : StoredWord) (p : Nat × StoredWord)
    (h : p ∈ Mem.write m a v) : p.1 = a ∨ p ∈ m := by
  induction m with
  | nil => simp only [Mem.write, List.mem_singleton] at h; subst h; exact .inl rfl
  | cons q rest ih =>
    obtain ⟨b, w⟩ := q
    simp only [Mem.write] at h
    split at h
    · rcases List.mem_cons.mp h with h | h
      · subst h; exact .inl rfl
      · exact .inr (List.mem_cons_of_mem _ h)
    · split at h
      · rcases List.mem_cons.mp h with h | h
        · subst h; exact .inl rfl
        · exact .inr h
      · rcases List.mem_cons.mp h with h | h
        · subst h; exact .inr (List.mem_cons_self ..)
        · rcases ih h with h | h
          · exact .inl h
          · exact .inr (List.mem_cons_of_mem _ h)

/-- A write keeps the addresses strictly rising. -/
theorem Mem.sorted_write (m : Mem) (a : Nat) (v : StoredWord)
    (h : List.Pairwise (fun p q => p.1 < q.1) m) :
    List.Pairwise (fun p q => p.1 < q.1) (Mem.write m a v) := by
  induction m with
  | nil => simp [Mem.write]
  | cons q rest ih =>
    obtain ⟨b, w⟩ := q
    rw [List.pairwise_cons] at h
    simp only [Mem.write]
    split
    · next h1 => subst h1; exact List.pairwise_cons.mpr ⟨h.1, h.2⟩
    · split
      · next h2 =>
        refine List.pairwise_cons.mpr ⟨fun p hp => ?_, List.pairwise_cons.mpr h⟩
        rcases List.mem_cons.mp hp with hp | hp
        · subst hp; exact h2
        · exact Nat.lt_trans h2 (h.1 p hp)
      · next h1 h2 =>
        refine List.pairwise_cons.mpr ⟨fun p hp => ?_, ih h.2⟩
        rcases Mem.mem_write rest a v p hp with hp | hp
        · show b < p.1; omega
        · exact h.1 p hp

/-- A write inside the memory keeps the canonical form. -/
theorem Mem.wf_write (m : Mem) (a : Nat) (v : StoredWord) (ha : a < 65536) (h : Mem.wf m) :
    Mem.wf (Mem.write m a v) := by
  refine ⟨Mem.sorted_write m a v h.1, fun p hp => ?_⟩
  rcases Mem.mem_write m a v p hp with hp | hp
  · omega
  · exact h.2 p hp

/-- One written word keeps the canonical form. -/
theorem State.memOk_writeWord (s : State) (a : Nat) (d : Word) (h : s.memOk) :
    (s.writeWord a d).memOk :=
  Mem.wf_write s.mem (a % 65536) (withParity d) (Nat.mod_lt _ (by omega)) h

/-- The words of a record, or some of them, keep the canonical form. -/
theorem State.memOk_writeRecordIf (keep : Nat → Bool) (s : State) (base : Nat) (ws : List Word)
    (n : Nat) (h : s.memOk) : (State.writeRecordIf keep s base ws n).memOk := by
  induction ws generalizing s n with
  | nil => exact h
  | cons d rest ih =>
    unfold State.writeRecordIf
    split
    · exact ih _ _ (State.memOk_writeWord s _ d h)
    · exact ih _ _ h

/-- A write transfer keeps the canonical form. -/
theorem State.memOk_writeRecord (s : State) (base : Nat) (ws : List Word) (h : s.memOk) :
    (s.writeRecord base ws).memOk := State.memOk_writeRecordIf _ s base ws 0 h

/-- An abandoned transfer keeps the canonical form. -/
theorem State.memOk_abandonTransfer (s : State) (h : s.memOk) : s.abandonTransfer.memOk := by
  unfold State.abandonTransfer
  split
  · exact State.memOk_writeRecordIf _ s _ _ 0 h
  · exact h

/-- The memory after reset has the canonical form. -/
theorem reset_memOk : State.reset.memOk := by decide

/-- A host access keeps the memory's canonical form. -/
theorem State.memOk_accessDone (s : State) (h : s.memOk) : s.accessDone.memOk := by
  unfold State.accessDone
  split
  · split
    · simp only [State.memOk, State.finishCycle_mem]
      split <;> simpa using h
    · have := s.memOk_writeWord
      simp only [State.memOk, State.finishCycle_mem, State.releasePort_mem] at this ⊢
      exact this _ _ h
    · exact h
  · exact h

/-- An event of a visit or of a gap keeps the memory's canonical form. -/
theorem State.memOk_visitEvent (s : State) (e : VisitEvent) (h : s.memOk) : (s.visitEvent e).memOk := by
  by_cases he : e = .hostAccessComplete
  · subst he
    exact s.memOk_accessDone h
  · simpa [State.memOk, s.visitEvent_mem e he] using h

/-- So do the events of a gap. -/
theorem State.memOk_visitEvents (s : State) (es : List VisitEvent) (h : s.memOk) :
    (s.visitEvents es).memOk := by
  induction es generalizing s with
  | nil => exact h
  | cons e es ih => exact ih (s.visitEvent e) (s.memOk_visitEvent e h)

/-- A word written reads back as it was written, with its generated parity. -/
theorem State.readWord_writeWord_same (s : State) (a : Nat) (d : Word) (ha : a < 65536) :
    (s.writeWord a d).readWord a = withParity d := by
  simp [State.readWord, State.writeWord, Nat.mod_eq_of_lt ha, Mem.find_write_same]

/-- A word written leaves every other word as it was. -/
theorem State.readWord_writeWord_other (s : State) (a b : Nat) (d : Word) (ha : a < 65536)
    (h : b ≠ a) : (s.writeWord a d).readWord b = s.readWord b := by
  simp [State.readWord, State.writeWord, Nat.mod_eq_of_lt ha, Mem.find_write_other _ _ _ _ h]

/-- A record that lies inside the memory leaves every word outside it as it was. -/
theorem State.readWord_writeRecordIf_outside (keep : Nat → Bool) (s : State) (base : Nat)
    (ws : List Word) (n b : Nat) (hi : base + n + ws.length ≤ 65536)
    (hb : b < base + n ∨ base + n + ws.length ≤ b) :
    (State.writeRecordIf keep s base ws n).readWord b = s.readWord b := by
  induction ws generalizing s n with
  | nil => rfl
  | cons d rest ih =>
    simp only [List.length_cons] at hi hb
    unfold State.writeRecordIf
    rw [ih _ (n + 1) (by omega) (by omega)]
    split
    · exact State.readWord_writeWord_other s _ b d (by omega) (by omega)
    · rfl

/-- The data bits of a word written. -/
theorem data_withParity (d : Word) : StoredWord.data (withParity d) = d := by
  apply BitVec.eq_of_getLsbD_eq
  intro i hi
  simp only [StoredWord.data, withParity, BitVec.getLsbD_extractLsb', BitVec.getLsbD_append]
  simp [hi]
  omega

/-- A word written through the part has good parity (R14). -/
theorem goodParity_withParity (d : Word) : goodParity (withParity d) = true := by
  simp [goodParity, data_withParity]

end Sys2Proof.Machine
end

