-- ==== Sys2Proof/Tests/Slice0.lean ====
section
/-! SUPPORT. Tests: the smoke test of `Instr.wellFormed`, the spec's worked examples, one step each, and
for every statement a witness of its hypotheses. -/

namespace Sys2Proof.Tests

open Sys2Proof Sys2Proof.Machine

set_option Elab.async false

/-! ## Helpers -/

/-- The state a command leaves. -/
def after (c : Instr) (s : State) : State :=
  match exec c s with
  | .next t => t
  | _ => s

/-- The reset state with one socket changed. -/
def onSock (i : SocketIx) (f : Socket → Socket) (s : State) : State :=
  { s with sockets := s.sockets.set i (f s.sockets[i]) }

/-- Every socket with its rail in a state. -/
def allRails (st : RailState) (s : State) : State :=
  { s with sockets := Vector.replicate 32 { Socket.reset with rail := { Rail.reset with st := st } } }

/-- A socket in a phase with its rail in a state. -/
def inState (p : Phase) (st : RailState) (x : Socket) : Socket :=
  { x with acct := { x.acct with phase := p }, rail := { x.rail with st := st } }

/-- A socket whose every Kind Action is the same. -/
def acting (a : KindAction) (x : Socket) : Socket :=
  { x with gate := { x.gate with shadow := { x.gate.shadow with
      kindActions := Vector.replicate 8 a } } }

/-- A socket with other numeric settings. -/
def setNum (f : Numbers → Numbers) (x : Socket) : Socket :=
  { x with gate := { x.gate with shadow := { x.gate.shadow with num := f x.gate.shadow.num } } }

/-- A state whose board is in a state. -/
def onBoard (b : BoardState) (s : State) : State := { s with brc := { s.brc with state := b } }

/-- A state with a command in progress. -/
def busy (code : CmdCode) (step : CmdStep) (s : State) : State :=
  { s with brc := { s.brc with channel := some ⟨code, 7, 1, .off, .float, step⟩ } }

/-- A state in which a transfer of the Scan Unit holds the port. -/
def moving (t : Transfer) (v : Visit) (s : State) : State :=
  { s with smc := { s.smc with owner := .scan, lastGranted := .scan, transfer := some t }
           scu := { s.scu with running := true, visit := v } }

/-- A state in which the host owns the port for a cycle. -/
def hosting (k : CycleKind) (strobe : Bool) (s : State) : State :=
  { s with smc := { s.smc with owner := .host, lastGranted := .host, cycle := some ⟨k, strobe, false⟩ } }

/-! ## Well-formedness: each check refuses an ill-formed term -/

theorem test_wf_scanEnableSet_zero : (Instr.scanEnableSet 0 0).wellFormed = false := by decide
theorem test_wf_scanEnableSet_reset : (Instr.scanEnableSet 0 3).wellFormed = false := by decide
theorem test_wf_scanDisable_one : (Instr.scanDisable 0 1).wellFormed = false := by decide
theorem test_wf_softReset_zero : (Instr.softReset 0 1).wellFormed = false := by decide
theorem test_wf_softReset_offset : (Instr.softReset 1 2).wellFormed = false := by decide
theorem test_wf_attentionWrite : (Instr.attentionWrite 3 0).wellFormed = false := by decide
theorem test_wf_attentionMaskWrite : (Instr.attentionMaskWrite 2 0).wellFormed = false := by decide
theorem test_wf_registerWriteIgnored : (Instr.registerWriteIgnored 0x32 0).wellFormed = false := by
  decide
theorem test_wf_sensorLost_valid : (Instr.sensorLost 0 (some 3200)).wellFormed = false := by decide
theorem test_wf_accepts : (Instr.scanEnableSet 0xFFF0 0xFFFD).wellFormed = true ∧
    (Instr.scanDisable 0 0).wellFormed = true ∧ (Instr.softReset 0x10 3).wellFormed = true ∧
    (Instr.attentionWrite 0x12 0).wellFormed = true ∧
    (Instr.attentionMaskWrite 0x13 0).wellFormed = true ∧
    (Instr.registerWriteIgnored 4 0).wellFormed = true ∧
    (Instr.sensorLost 0 (some 3201)).wellFormed = true ∧ (Instr.sensorLost 0 none).wellFormed = true := by
  decide

/-! ## Worked figures of Chapters 1, 5, 8 and 12 -/

/-- Section 1.1: SSR of socket 5, slot 3 of socket 31, and lane map chunk 1 with entry 0x2964. -/
theorem test_addresses : ssrBase 5 = 0x0B80 ∧ failBase 31 3 = 0x28B0 ∧ chunkBase 1 = 0x2940 := by decide
/-- TABLE 1-1: the edges of the part-written regions. -/
theorem test_partWritten : partWritten 0x7F = false ∧ partWritten 0x80 = true ∧
    partWritten 0xFF = true ∧ partWritten 0x100 = false ∧ partWritten 0x8FF = false ∧
    partWritten 0x900 = true ∧ partWritten 0x28FF = true ∧ partWritten 0x2900 = false := by decide
/-- Section 1.4: a byte and its parity bit hold an odd number of ones. -/
theorem test_parity : withParity 0x0000 = 0x30000 ∧ withParity 0x0001 = 0x20001 ∧
    withParity 0x0103 = 0x10103 ∧ goodParity 0x00000 = false := by decide
/-- Section 12.7: the worked entry, the undefined source code 23, and the entry of zeros. -/
theorem test_lane_entry :
    LaneEntry.ofWords 0x0021 0x0001 = some ⟨.drive, .gen 1, false, .low, true, false, 0⟩ ∧
    LaneEntry.ofWords 0x0021 0x0017 = none ∧
    LaneEntry.ofWords 0 0 = some ⟨.off, .gen 0, false, .low, false, false, 0⟩ ∧
    LaneEntry.ofWords 0x0008 0 = some LaneEntry.reset := by decide
/-- TABLE 5-1. -/
theorem test_thresholds : tripThreshold 1000 = 1250 ∧ tripThreshold 12003 = 15003 ∧
    tripThreshold 60000 = 75000 := by decide
/-- TABLE 5-2. -/
theorem test_ceilings : ceilingOf Bank.reset 0 3000 = 0 ∧ ceilingOf Bank.reset 2 3000 = 0 ∧
    ceilingOf Bank.reset 3 3000 = 1 ∧ ceilingOf Bank.reset 1450 3000 = 494 ∧
    ceilingOf Bank.reset 2997 3000 = 1022 ∧ ceilingOf Bank.reset 3000 3000 = 1023 := by decide
/-- Section 8.2: GEN0 from seed 1 at vectors 1, 14 and 15. -/
theorem test_generator : (Gen.step ⟨0x0001, 1, .restart⟩).state = 0x0002 ∧
    (Gen.step ⟨0x2000, 1, .restart⟩).state = 0x4001 ∧
    (Gen.step ⟨0x4001, 1, .restart⟩).state = 0x0003 := by decide
/-- Section 7.4: the five periods of socket 6. -/
theorem test_dead_time : pulseOf 300 .none 4 = ⟨.heater, 0, 300⟩ ∧
    pulseOf (-10) .heater 4 = ⟨.cooler, 4, 10⟩ ∧ pulseOf (-10) .cooler 4 = ⟨.cooler, 0, 10⟩ ∧
    pulseOf 3 .cooler 4 = ⟨.none, 0, 0⟩ ∧ pulseOf 3 .none 4 = ⟨.heater, 0, 3⟩ := by decide
/-- TABLES 12-2, 12-4 and 12-5: the codes that records carry. -/
theorem test_codes :
    [BoardState.stopped, .running, .holding, .stopping].map BoardState.code = [0, 1, 2, 3] ∧
    [HoldReason.none, .command, .interlock, .scanOff].map HoldReason.code = [0, 1, 2, 3] ∧
    [CmdResult.none, .success, .aborted, .badMap, .parity].map CmdResult.code = [0, 1, 2, 3, 4] ∧
    [RefusalReason.none, .busy, .state, .config, .badCode].map RefusalReason.code =
      [0, 1, 2, 3, 4] ∧
    [ResumePhase.none, .powering, .soaking, .stressing].map ResumePhase.code = [255, 2, 3, 4] ∧
    [RailState.off, .chainWait, .rampUp, .settle, .on, .slew, .tripped, .holdOff, .lockout,
      .rampDown].map RailState.code = [0, 1, 2, 3, 4, 5, 6, 7, 8, 9] ∧
    [RetireKind.kind .compare, .kind .sensorLost, .lockout, .diagnosis, .bankLock].map
      RetireKind.code = [1, 8, 9, 10, 11] := by decide

/-! ## Section 7.3: the four updates of socket 1 -/

/-- The settings of the worked case. -/
def caseNumbers : Numbers :=
  { Numbers.reset with tempSetpoint := 2000, kp := 640, ki := 12, heaterFullScale := 3000,
                       heaterLimit := 900, coolerLimit := 400, runawayMargin := 160 }
/-- An allocation and an update from an integrator and a saturation record. -/
def caseUpdate (iAcc : Int) (sat : SatRecord) (headroom : Nat) (tf : Int) : Thermal :=
  ({ Thermal.reset with iAcc := iAcc, sat := sat }.allocate Bank.reset headroom caseNumbers).update
    caseNumbers tf

theorem test_update_A : let t := caseUpdate 80000 .none 1583 1896
    t.iAcc = 81248 ∧ t.hMax = 540 ∧ t.u = 540 ∧ t.grant = 1582 ∧ t.sat = .high := by decide
theorem test_update_B : let t := caseUpdate 81248 .high 1585 1910
    t.iAcc = 81248 ∧ t.hMax = 541 ∧ t.u = 541 ∧ t.grant = 1584 ∧ t.sat = .high := by decide
theorem test_update_C : let t := caseUpdate 81248 .high 1585 1990
    t.iAcc = 81248 ∧ t.u = 342 ∧ t.grant = 1001 ∧ t.sat = .none := by decide
theorem test_update_D : let t := caseUpdate 81248 .none 1567 2007
    t.iAcc = 81164 ∧ t.hMax = 534 ∧ t.u = 300 ∧ t.grant = 878 ∧ t.sat = .none := by decide

/-! ## Sections 6.3, 9.3, 10.9 and 11.9 -/

/-- The filter of section 6.3 with k = 2. -/
theorem test_filter_truncates :
    (({ Sensor.reset with st := .tracking, tf := some 1902 }).validStep 2 1895).tf = some 1901 ∧
    (({ Sensor.reset with st := .tracking, tf := some 1901 }).validStep 2 1898).tf = some 1901 := by
  decide
/-- The third suspect sample of section 6.3. -/
theorem test_filter_third_suspect :
    (({ Sensor.reset with st := .suspect, suspectCount := 2, tf := some 1995 }).validStep 1 2420).tf =
      some 2420 := by decide
/-- Crediting of section 10.9 at 100,021, 100,065 and 100,125. -/
theorem test_crediting :
    let a : Account := { Account.reset with phase := .stressing, stressedAtStart := true,
                                            dwellSec := 3599, dwellMs := 950, lateCount := 2,
                                            prevVisit := some 100000 }
    let b := a.credit 100021 20
    let c := b.credit 100065 20
    let d := ({ c with dwellMs := 990 }).credit 100086 20
    (b.dwellSec, b.dwellMs) = (3599, 971) ∧ (c.dwellMs, c.lateCount) = (971, 3) ∧
    (d.dwellSec, d.dwellMs) = (3600, 11) := by decide
/-- Frame 2,001 of section 9.3: the failing lane mask of lanes 8 and 10. -/
theorem test_fail_mask :
    ({ Exercise.reset with frameLane := (Vector.replicate 16 0).set 8 4 |>.set 10 1 }).failMask =
      0x0500 := by decide
/-- Failure 5 of section 11.9: a full staging FIFO, a lost record and the retiring strike. -/
theorem test_fifth_strike :
    let f : FailRecord := ⟨58, .selftestFail, 0, .stressing, 0, 0, 0, 0, 0, []⟩
    let x : Socket := setNum (fun n => { n with strikeLimit := 5 }) (acting .strike
      { Socket.reset with acct := { Account.reset with
          phase := .stressing, strikes := 4, staging := [f, f, f, f], failTotal := 61 } })
    let y := x.takeCondition (State.reset.ctx 14) .selftestFail 0 []
    y.acct.phase = .retired ∧ y.acct.bin = .failFunctional ∧ y.acct.strikes = 5 ∧
      y.acct.failTotal = 62 ∧ y.acct.detailLost = 1 := by decide +kernel

/-! ## Witnesses: the hypotheses of each statement, met together -/

/-- A state in which the host's write to 0x2D00 completes next. -/
def hostWriteNext : State :=
  { hosting (.memoryWrite 0x2D00 0x1234) true State.reset with pending := [.hostAccessComplete] }

theorem test_witness_StepRunsTheFrontCommand :
    hostWriteNext.pending = Instr.hostAccessComplete :: [] := rfl
theorem test_witness_CommandsKeepTheQueue :
    exec .interlockAssert hostWriteNext = .next (after .interlockAssert hostWriteNext) := rfl
theorem test_witness_StepsKeepMemoryCanonical : hostWriteNext.memOk ∧
    ∃ t, step hostWriteNext = .next t ∧ t.mem.length = 1 :=
  ⟨by decide +kernel, _, rfl, by decide +kernel⟩

/-- A state one PWM tick before a period, with socket 3 to heat. -/
def periodNext : State :=
  { onSock 3 (fun x => { x with thermal := { x.thermal with preload := 5 } }) State.reset with
    time := { runMs := 0, pwmTick := 1023 }, pending := [.pwmTick] }

theorem test_witness_StepsKeepOutputsApart : periodNext.outputsApart ∧
    ∃ t, step periodNext = .next t ∧ (t.sock 3).thermal.heaterOn = true :=
  ⟨by decide +kernel, _, rfl, by decide +kernel⟩

/-- Socket 4, stressing on a live rail with seven samples counted toward a dropout, whose actions are
LOG. -/
def tripNext : State :=
  { onSock 4 (fun x => acting .log { inState .stressing .on x with
      rail := { x.rail with st := .on, dropCount := 7 } }) (onBoard .running State.reset) with
    pending := [.dropout 4 0 0] }

theorem test_witness_StepsKeepStagingShort : tripNext.stagingOk ∧
    ∃ t, step tripNext = .next t ∧ (t.sock 4).acct.staging.length = 1 :=
  ⟨by decide +kernel, _, rfl, by decide +kernel⟩
theorem test_witness_StepsKeepTheArbiter : hostWriteNext.arbiterOk ∧
    ∃ t, step hostWriteNext = .next t ∧ t.smc.owner = .none :=
  ⟨by decide, _, rfl, by decide⟩

/-- A stopping board whose last rail ends its ramp-down at the next tick. -/
def stopNext : State :=
  { onSock 9 (inState .waiting .rampDown) (busy .stopRun .ramping (onBoard .stopping State.reset)) with
    pending := [.senseTick] }

theorem test_witness_StepsKeepStopping : stopNext.stopOk ∧
    ∃ t, step stopNext = .next t ∧ t.brc.state = .stopped ∧ t.brc.result = .success :=
  ⟨⟨by decide, by intro ch h _; cases h; rfl⟩, _, rfl, by decide +kernel, by decide +kernel⟩

/-- Socket 0 stressing and clean since 20 ms before, its SCR read in progress with a word of bad
parity. -/
def staleVisit : State :=
  { moving (.scrRead 0) (.socket 0 0 false) (onSock 0 (fun x =>
      { x with acct := { x.acct with phase := .stressing, stressedAtStart := true,
                                     prevVisit := some 0 } }) State.reset) with
    mem := [(0x100, 0)], time := { runMs := 20, pwmTick := 0 } }

theorem test_witness_DwellChangesOnlyAtVisits :
    ∃ t, exec (.scrReadComplete 0 { thermal := .afterCredit }) staleVisit = .next t ∧
      (t.sock 0).acct.dwellMs ≠ (staleVisit.sock 0).acct.dwellMs :=
  ⟨_, rfl, by decide +kernel⟩
theorem test_witness_DwellChangesOnlyAtVisits_clear :
    ∃ t, exec (.clearAccounts 1 1) (onSock 0 (fun x => { x with
        acct := { x.acct with dwellSec := 9 } }) State.reset) = .next t ∧
      (t.sock 0).acct.dwellSec = 0 := ⟨_, rfl, by decide +kernel⟩

/-- The account of section 10.9 before its first visit. -/
def creditAccount : Account :=
  { Account.reset with phase := .stressing, stressedAtStart := true, dwellSec := 3599, dwellMs := 999,
                       prevVisit := some 100000 }

theorem test_witness_CreditingIsBounded : creditAccount.dwellSec ≤ max32 ∧
    creditAccount.dwellMs < 1000 ∧
    let b := creditAccount.credit 100040 20
    (b.dwellSec, b.dwellMs) ≠ (creditAccount.dwellSec, creditAccount.dwellMs) := by decide
theorem test_witness_CreditingIsBounded_top :
    let a := { creditAccount with dwellSec := max32 }
    a.dwellSec ≤ max32 ∧ a.dwellMs < 1000 ∧ (a.credit 100001 20).dwellSec = max32 := by decide
/-- R171: a fast trip between the phase decisions and the interval start: the interval is credited, and the
next one does not begin stressed. -/
theorem test_witness_CreditingIsBounded_event :
    let s := onSock 0 (fun x => { x with rail := { x.rail with st := .on } }) staleVisit
    let o : VisitOrder := { thermal := .afterCredit, gap3 := [.fastTrip 0 true] }
    let b := ((after (.scrReadComplete 0 o) s).sock 0).acct
    (s.pins.por = false ∧ s.transferring = some (.scrRead 0) ∧ o.thermal ≠ .first ∧
      o.thermal ≠ .last ∧ o.gap0 = [] ∧ o.gap4 = [] ∧ (s.sock 0).rail.st ≠ .settle ∧
      (s.sock 0).acct.prevVisit = some 0) ∧
    b.dwellMs = 20 ∧ b.phase = .powering ∧ b.stressedAtStart = false ∧ b.leftStress = false := by
  decide +kernel
theorem test_witness_OnlyTransfersAndTheHostWriteMemory : writesMemory .senseTick = false ∧
    exec .senseTick hostWriteNext = .next (after .senseTick hostWriteNext) := ⟨rfl, rfl⟩

/-- Socket 2 on a live rail with lane 15 a driving lane that idles high. -/
def drivingLane : State :=
  { onSock 2 (inState .soaking .on) State.reset with pxr := { Pxr.reset with
      vectorMap := LaneMap.reset.set 2 ((Vector.replicate 16 LaneEntry.reset).set 15
        ⟨.drive, .gen 0, false, .high, false, false, 0⟩) } }

theorem test_witness_LanesDriveOnlyOnLiveRails :
    (drivingLane.laneLevel 2 15 true).isSome = true := by decide +kernel
/-- Socket 2 running a mode with its lane 15 driving, and in its self-test cycle at the start pulse. -/
def drivingRun (m : ExMode) (lane : Nat) (src : Source) : State :=
  let d := onSock 2 (fun x => { inState .stressing .on x with ex := { x.ex with
    st := .running, mode := m, cycle := .startPulse
    latched := some ⟨lane, 1, 2, 0, 1, 1⟩ } }) drivingLane
  let lanes := (Vector.replicate 16 LaneEntry.reset).set 15 ⟨.drive, src, true, .low, true, false, 0⟩
  { d with pxr := { d.pxr with vectorMap := LaneMap.reset.set 2 lanes } }

/-- TABLE 8-3: GEN0's first bit inverted, the Start Lane in its pulse, and the Idle Level. -/
theorem test_witness_LanesDriveOnlyOnLiveRails_levels :
    (drivingRun .pattern 0 (.gen 0)).laneLevel 2 15 true = some true ∧
    (drivingRun .pattern 0 .clock).laneLevel 2 15 true = some false ∧
    (drivingRun .selftest 15 .constant).laneLevel 2 15 true = some true ∧
    (drivingRun .selftest 0 .constant).laneLevel 2 15 true = some false ∧
    (drivingRun .idle 0 .constant).laneLevel 2 15 true = some false ∧
    drivingLane.laneLevel 2 15 false = some true := by decide +kernel

/-! ### Host port and registers -/

theorem test_witness_MemoryCyclesAskForTheirWord : State.reset.pins.por = false ∧
    State.reset.smc.cycle = none ∧ State.reset.smc.owner = .none ∧
    partWritten (0x7F : Word).toNat = false ∧ partWritten (0x80 : Word).toNat = true := by decide
theorem test_witness_MemoryCyclesAskForTheirWord_waiting :
    let s := moving .bcrRead .header State.reset
    s.pins.por = false ∧ s.smc.cycle = none ∧ s.smc.owner ≠ .none := by decide
theorem test_witness_CyclesWithoutAccessAndTheirEnd : State.reset.pins.por = false ∧
    State.reset.smc.cycle = none ∧
    (∃ c, (hosting (.memoryRead 0) true State.reset).smc.cycle = some c ∧ c.done = false) ∧
    ∃ c, (after (.hostMemoryWrite ⟨0x80, false⟩ 0) State.reset).smc.cycle = some c ∧ c.done = true :=
  ⟨rfl, rfl, ⟨_, rfl, rfl⟩, _, rfl, rfl⟩
theorem test_witness_HostReadsCheckParity :
    let s := { hosting (.memoryRead 0x2D00) true State.reset with mem := [(0x2D00, 0)] }
    s.pins.por = false ∧ s.smc.owner = .host ∧
    s.smc.cycle = some ⟨.memoryRead 0x2D00, true, false⟩ ∧
    goodParity (s.readWord (0x2D00 : Word).toNat) = false := by decide
theorem test_witness_HostReadsCheckParity_released :
    let s := { hosting (.memoryRead 0xFFFF) false State.reset with mem := [(0xFFFF, 0x30000)] }
    s.pins.por = false ∧ s.smc.owner = .host ∧
    s.smc.cycle = some ⟨.memoryRead 0xFFFF, false, false⟩ ∧
    goodParity (s.readWord (0xFFFF : Word).toNat) = true := by decide
theorem test_witness_HostWritesStoreTheirWord : hostWriteNext.pins.por = false ∧
    hostWriteNext.smc.owner = .host ∧
    hostWriteNext.smc.cycle = some ⟨.memoryWrite 0x2D00 0x1234, true, false⟩ := by decide
/-- R12: the end of the host's word grants the transfer that waits. -/
theorem test_host_access_releases :
    let s := { hosting (.memoryRead 0x2D00) true State.reset with mem := [(0x2D00, 0)] }
    let w := { s with smc := { s.smc with scanWaiting := some .bcrRead } }
    w.smc.hostWaiting = false ∧ (after .hostAccessComplete w).smc.transfer = some .bcrRead ∧
    (after .hostAccessComplete s).smc.owner = .none := by decide
theorem test_witness_TheArbiterAlternates :
    let m (w : Bool) (t : Option Transfer) (g : Requester) : Smc :=
      { Smc.reset with hostWaiting := w, scanWaiting := t, lastGranted := g }
    ((m false none .scan).hostWaiting = false ∧ (m false none .scan).scanWaiting = none) ∧
    ((m true none .scan).hostWaiting = true ∧ (m true none .scan).scanWaiting = none) ∧
    ((m false (some .bcrRead) .scan).hostWaiting = false ∧
      (m false (some .bcrRead) .scan).scanWaiting = some .bcrRead) ∧
    ((m true (some .bcrRead) .host).hostWaiting = true ∧
      (m true (some .bcrRead) .host).scanWaiting = some .bcrRead ∧
      (m true (some .bcrRead) .host).lastGranted = .host) ∧
    (m true (some .bcrRead) .scan).lastGranted = .scan := by decide
/-- A state whose sweep start has come due on a free port, with a last-granted requester. -/
def dueStart (g : Requester) (running : Bool) : State :=
  { State.reset with
    smc := { Smc.reset with lastGranted := g }, time := { runMs := 20, pwmTick := 0 }
    scu := { Scu.reset with scanEnable := true, running := running } }

/-- R12: the host first after SCAN, the transfer first after HOST. -/
theorem test_witness_TheArbiterAlternates_together :
    let first (g : Requester) : PortOwner :=
      (after (.hostMemoryRead ⟨0, true⟩) (dueStart g false)).smc.owner
    (dueStart .scan false).pins.por = false ∧ (dueStart .scan false).smc.cycle = none ∧
    (dueStart .scan true).sweepDue = true ∧ State.reset.sweepDue = false ∧
    (dueStart .host false).smc.owner = .none ∧ partWritten (0x80 : Word).toNat = true ∧
    partWritten (0 : Word).toNat = false ∧ first .scan = .host ∧ first .host = .scan := by decide
theorem test_witness_RegisterWritesTakeTheirBits : State.reset.pins.por = false ∧
    State.reset.smc.cycle = none ∧ (Instr.attentionWrite 2 0x07FF).wellFormed = true ∧
    (Instr.attentionMaskWrite 3 0xFFFF).wellFormed = true ∧
    (Instr.registerWriteIgnored 1 0).wellFormed = true ∧
    (Instr.registerWriteIgnored 15 0).wellFormed = true := by decide
theorem test_witness_AttentionLineFollowsTheRegisters :
    ({ State.reset with smc := { Smc.reset with attention := 0x400, mask := 0x400 } } : State).attn =
      true := by decide
theorem test_witness_ScanEnableBeginsASweep : State.reset.pins.por = false ∧
    State.reset.smc.cycle = none ∧ (Instr.scanEnableSet 0 1).wellFormed = true ∧
    State.reset.scu.scanEnable = false ∧ State.reset.scu.running = false ∧
    State.reset.smc.owner = .none := by decide

/-- The state after the host's first SCAN_ENABLE write, its cycle ended and the sweep begun. -/
def scanning : State := after .hostStrobeRelease (after (.scanEnableSet 0 1) State.reset)

theorem test_witness_ScanEnableBeginsASweep_again : scanning.pins.por = false ∧
    scanning.smc.cycle = none ∧ scanning.scu.scanEnable = true := by decide
theorem test_witness_ScanEnableBeginsASweep_overrun :
    let s := after .hostStrobeRelease (after (.scanDisable 0 0) scanning)
    s.smc.cycle = none ∧ s.scu.scanEnable = false ∧ s.scu.running = true := by decide
theorem test_witness_ScanDisableHoldsARunningBoard : scanning.pins.por = false ∧
    scanning.smc.cycle = none ∧ (Instr.scanDisable 0 0).wellFormed = true ∧
    scanning.scu.scanEnable = true ∧ scanning.brc.state ≠ .running := by decide
/-- R17: storing the 0 that SCAN_ENABLE holds only completes the cycle. -/
theorem test_witness_ScanDisableHoldsARunningBoard_again : State.reset.scu.scanEnable = false ∧
    after (.scanDisable 0 0) State.reset = registerDone State.reset := by decide +kernel
theorem test_witness_ScanDisableHoldsARunningBoard_running :
    let s := onSock 31 (inState .stressing .on) (onBoard .running scanning)
    s.pins.por = false ∧ s.smc.cycle = none ∧ s.scu.scanEnable = true ∧ s.brc.state = .running ∧
    (s.sock 31).acct.phase.asResume ≠ .none ∧ (s.sock 0).acct.phase.asResume = .none := by
  decide +kernel
theorem test_witness_ScanDisableHoldsARunningBoard_exercise :
    let s := onSock 31 (fun x => { inState .stressing .on x with
      ex := { x.ex with st := .running } }) (onBoard .running scanning)
    (s.sock 31).acct.phase = .stressing ∧ (s.sock 31).ex.st = .running ∧
    (s.sock 0).acct.phase ≠ .stressing := by decide +kernel

/-! ### Resets -/

theorem test_witness_SoftResetResetsEveryBlock : scanning.pins.por = false ∧
    scanning.smc.cycle = none ∧ (Instr.softReset 0 2).wellFormed = true ∧
    scanning.pins.interlock = false ∧ scanning.smc.transfer.bind Transfer.payload = none := by decide
theorem test_witness_SoftResetResetsEveryBlock_interlock :
    let s := after .interlockAssert scanning
    s.pins.por = false ∧ s.smc.cycle = none ∧ (Instr.softReset 0xFFF0 0xFFFF).wellFormed = true ∧
    s.pins.interlock = true := by decide +kernel
theorem test_witness_AbandonedWritesLeaveOldOrNewWords :
    let s := moving (.failWrite 31 7 [1, 2]) (.socket 31 1 true) State.reset
    0x28F0 + [(1 : Word), 2].length ≤ 65536 ∧
    s.smc.transfer.bind Transfer.payload = some (0x28F0, [1, 2]) ∧ s.pins.por = false ∧
    s.smc.cycle = none ∧ (Instr.softReset 0 2).wellFormed = true := by decide
theorem test_witness_PowerOnResetAndRelease : scanning.pins.por = false ∧
    (let s := after .powerOnReset scanning
     s.pins.por = true ∧ s.pins.interlock = false) ∧
    let s := after .interlockAssert (after .powerOnReset scanning)
    s.pins.por = true ∧ s.pins.interlock = true := by decide +kernel

/-! ### Sweeps and visits -/

theorem test_witness_SweepStartsBeginOrAreDeferred :
    (let s := { scanning with time := { runMs := 20, pwmTick := 0 } }
     s.pins.por = false ∧ s.sweepDue = true ∧ s.scu.running = true) ∧
    let s := { State.reset with scu := { Scu.reset with scanEnable := true }
                                time := { runMs := 20, pwmTick := 0 } }
    s.pins.por = false ∧ s.sweepDue = true ∧ s.scu.running = false ∧ s.smc.owner = .none ∧
    (hosting (.memoryRead 0) true s).smc.owner = .host := by decide

/-- A BCR read of a record whose first word has bad parity. -/
def staleHeader : State :=
  { moving .bcrRead .header State.reset with
    mem := [(0, 0)], brc := { Brc.reset with runFinished := true } }

theorem test_witness_StaleHeaderVisitsKeepTheConfiguration : staleHeader.pins.por = false ∧
    staleHeader.transferring = some .bcrRead ∧
    staleHeader.smc.scanWaiting = none ∧ (staleHeader.readRecord bcrBase 128 0).isNone = true := by
  decide +kernel
/-- R30, R52, R64: a stale header visit of an unfinished run with every socket ended completes the load that
waits and finishes the run. -/
theorem test_witness_StaleHeaderVisitsKeepTheConfiguration_work :
    let s := busy .loadLaneMap .doneWait (onBoard .running staleHeader)
    let s : State := { s with brc := { s.brc with runFinished := false } }
    s.pins.por = false ∧ s.transferring = some .bcrRead ∧ s.smc.scanWaiting = none ∧
    (s.readRecord bcrBase 128 0).isNone = true ∧
    s.brc.channel.map Channel.step = some .doneWait ∧
    (after (.bcrReadComplete 0) s).brc.result = .success ∧
    (after (.bcrReadComplete 0) s).brc.runFinished = true := by decide +kernel

/-- A Board Control Record: revision 5, tag 9, and otherwise zeros. -/
def boardRecord : List Word := [5] ++ List.replicate 31 0 ++ [9] ++ List.replicate 95 0

/-- A BCR read of that record. -/
def headerNext : State := (moving .bcrRead .header State.reset).writeRecord bcrBase boardRecord

theorem test_witness_HeaderSynchronizingVisit : headerNext.pins.por = false ∧
    headerNext.transferring = some .bcrRead ∧ headerNext.scu.headerSynced = false ∧
    headerNext.smc.scanWaiting = none ∧ headerNext.readRecord bcrBase 128 6 = some boardRecord := by
  decide +kernel
theorem test_witness_ConfigurationRevisionIsHandled :
    field8 boardRecord 0 ≠ State.reset.scu.appliedConfigRev ∧ State.reset.brc.state = .stopped ∧
    restartsListed boardRecord ∧ ¬restartsListed (boardRecord.set 12 2) ∧
    (onBoard .running State.reset).brc.state ≠ .stopped := by unfold restartsListed; decide

/-- A Board Control Record whose every configuration field lies at a limit of its range. -/
def limitRecord : List Word :=
  [5, 4, 255, 1024, 25000, 800, 16, 0, 1, 2, 3, 0x7FFF, 0, 1, 0, 1] ++
    [1000, 60000, 1000, 1000, 1000, 1000, 1000, 1000] ++ List.replicate 104 0
/-- The same with the same fields one beyond them, a seed of 0 in bits 14–0, and the limit −1. -/
def beyondRecord : List Word :=
  [5, 3, 256, 1023, 25001, 0xFFFF, 17, 0, 0x8000, 2, 3, 0x7FFF, 0, 1, 0, 1] ++
    [999, 60001, 1000, 1000, 1000, 1000, 1000, 1000] ++ List.replicate 104 0

/-- R34, R187: both records give one configuration, ADOPTED from the one and CLAMPED from the other. -/
theorem test_witness_ConfigurationRevisionIsHandled_limits :
    let t := State.reset.takeConfig limitRecord
    let u := State.reset.takeConfig beyondRecord
    restartsListed limitRecord ∧ restartsListed beyondRecord ∧
    (configAsRead limitRecord t.scu.config ∧ ¬configAsRead beyondRecord u.scu.config) ∧
    t.scu.configResult = .adopted ∧ u.scu.configResult = .clamped ∧
    u.scu.config = { t.scu.config with
      seeds := #v[1, 2, 3, 0x7FFF], restarts := #v[.restart, .continuous, .restart, .continuous]
      budgets := #v[1000, 60000, 1000, 1000, 1000, 1000, 1000, 1000] } ∧
    (u.scu.config.staleLimit, u.scu.config.vectorRate, u.scu.config.absLimit) = (255, 25000, 800) := by
  unfold restartsListed configAsRead; decide +kernel
/-- The same read with the header synchronized, its tag seen or new, and a command in progress. -/
def headerAgain (seen : Byte8) (ch : Option Channel) (code : Word) : State :=
  let s := (moving .bcrRead .header State.reset).writeRecord bcrBase (boardRecord.set 33 code)
  { s with scu := { s.scu with headerSynced := true, seenTag := seen }
           brc := { s.brc with channel := ch } }

theorem test_witness_ConfigurationRevisionIsHandled_visit :
    let fill : Channel := ⟨.fillLaneMap, 7, 0, .off, .float, .doneWait⟩
    (let s := headerAgain 9 (some fill) 0
     s.transferring = some .bcrRead ∧ s.scu.headerSynced = true ∧ s.smc.scanWaiting = none ∧
     (s.readRecord bcrBase 128 0).map (fun r => field8 r 32) = some s.scu.seenTag ∧
     s.brc.channel = some fill ∧ fill.step = .doneWait) ∧
    let s := headerAgain 8 none 1
    (s.readRecord bcrBase 128 0).map commandRow = some (some (.startRun 9)) ∧
    s.brc.channel = none ∧ s.scu.seenTag ≠ 9 ∧
    commandRow (boardRecord.set 33 9) = none := by decide +kernel
/-- The note of R52: a new command read while one waits is refused with BUSY, and the one that waits then
completes; R55: STOP_RUN completes it first. -/
theorem test_witness_ConfigurationRevisionIsHandled_busy :
    let fill : Channel := ⟨.fillLaneMap, 7, 0, .off, .float, .doneWait⟩
    let s := headerAgain 8 (some fill) 1
    let t := after (.bcrReadComplete 0) s
    s.transferring = some .bcrRead ∧ s.scu.seenTag ≠ 9 ∧ s.brc.channel = some fill ∧
    (s.readRecord bcrBase 128 0).map commandRow = some (some (.startRun 9)) ∧
    t.brc.refusedTag = 9 ∧ t.brc.refusalReason = .busy ∧ t.brc.completedTag = 7 ∧
    ((headerAgain 8 (some fill) 4).readRecord bcrBase 128 0).map commandRow =
      some (some (.stopRun 9)) := by decide +kernel
/-- R52, R58: a fill that waits is completed at the header visit; R36: a START_RUN is handed over. -/
theorem test_header_visit :
    (after (.bcrReadComplete 0) (headerAgain 9
      (some ⟨.fillLaneMap, 7, 0, .off, .float, .doneWait⟩) 0)).brc.completedTag = 7 ∧
    (after (.bcrReadComplete 0) (headerAgain 8 none 1)).brc.acceptedTag = 9 := by decide +kernel
/-- The orders without events. -/
theorem test_witness_quiet (w : ThermalPlace) : ({ thermal := w } : VisitOrder).quiet = true := rfl

theorem test_witness_StaleVisitsKeepTheShadow : staleVisit.pins.por = false ∧
    staleVisit.transferring = some (.scrRead 0) ∧
    (staleVisit.readRecord (scrBase 0) 64 0).isNone = true := by decide +kernel
theorem test_witness_StaleVisitsKeepTheShadow_reported :
    let s := onSock 0 (fun x => { x with gate := { x.gate with staleCount := 49 } }) staleVisit
    s.smc.scanWaiting = none ∧ s.scu.config.staleLimit ≤ (s.sock 0).gate.staleCount + 1 ∧
    (s.sock 0).gate.staleReported = false ∧
    (after (.scrReadComplete 0 { thermal := .afterCredit }) s).smc.attention = Cause.controlStale.mask := by
  decide +kernel

/-- Update A of section 7.3 as a visit of socket 1 in the bank of section 5.4, its other rails drawing
2,400, 2,500 and 0 mA and its mates' grants 1,367 and 1,800 mA. -/
def updateA : State :=
  let draws (c : Word) (g : Nat) (x : Socket) : Socket :=
    { x with rail := { x.rail with st := .on, current := c }, thermal := { x.thermal with grant := g } }
  { moving (.scrRead 1) (.socket 1 0 false) (onSock 0 (draws 2400 1367) (onSock 2 (draws 2500 1800)
      (onSock 1 (fun x => setNum (fun _ => caseNumbers) { inState .stressing .on x with
        rail := { x.rail with st := .on, current := 2350 }
        sensor := { x.sensor with st := .tracking, tf := some 1896 }
        thermal := { x.thermal with iAcc := 80000, runaway := 3 } }) (onBoard .running State.reset)))) with
    mem := [(scrBase 1, 0)]
    scu := { Scu.reset with config := { BoardConfig.reset with
      budgets := Vector.replicate 8 12000 } } }

theorem test_witness_visitWorksThermal : updateA.transferring = some (.scrRead 1) ∧
    (updateA.readRecord (scrBase 1) 64 0).isNone = true ∧ headroomOf updateA 1 = 1583 ∧
    (updateA.sock 1).acct.phase = .stressing ∧ (updateA.sock 1).sensor.st = .tracking ∧
    (updateA.sock 1).sensor.tf = some 1896 ∧
    let t := (after (.scrReadComplete 0 { thermal := .afterDecide }) updateA).sock 1
    (t.acct.phase, t.thermal.iAcc, t.thermal.u, t.thermal.grant, t.thermal.sat, t.thermal.runaway) =
      (Phase.stressing, 81248, 540, 1582, SatRecord.high, 0) := by decide +kernel

/-- A Socket Control Record of zeros with revision 3 and Fail Ack Count 250. -/
def socketRecord : List Word := [3, 250] ++ List.replicate 62 0

/-- Its read for socket 12. -/
def visitNext : State :=
  (moving (.scrRead 12) (.socket 12 0 false) State.reset).writeRecord (scrBase 12) socketRecord

theorem test_witness_GoodVisitsTakeTheirRecord : visitNext.pins.por = false ∧
    visitNext.transferring = some (.scrRead 12) ∧
    visitNext.readRecord (scrBase 12) 64 0 = some socketRecord ∧
    (visitNext.sock 12).gate.synced = false := by decide +kernel
theorem test_witness_GoodVisitsTakeTheirRecord_unchanged :
    let s := onSock 12 (fun x => { x with gate := { x.gate with
      synced := true, appliedRev := 3, failWritten := 2, acked := 250 } }) visitNext
    s.transferring = some (.scrRead 12) ∧ s.readRecord (scrBase 12) 64 0 = some socketRecord ∧
    (s.sock 12).gate.synced = true ∧ field8 socketRecord 0 = (s.sock 12).gate.appliedRev ∧
    ((s.sock 12).gate.failWritten - field8 socketRecord 1).toNat ≤ 8 := by decide +kernel
/-- Socket 12 at the same read, in a phase, 20 ms after its previous visit, with 4,000 ms of Dwell and as
much time in window, Soak Time 4 s and Target Dwell 4 s. -/
def deciding (p : Phase) (st : RailState) : State :=
  { onSock 12 (fun x => setNum (fun n => { n with soakTime := 4, targetDwell := 4 })
      { inState p st x with
        acct := { x.acct with phase := p, dwellSec := 4, stressedAtStart := true
                              prevVisit := some 0 }
        sensor := { x.sensor with inWindowMs := 4000 } }) visitNext with
    time := { runMs := 20, pwmTick := 0 } }

theorem test_witness_GoodVisitsTakeTheirRecord_decides :
    let s := deciding .stressing .on
    s.transferring = some (.scrRead 12) ∧
    s.readRecord (scrBase 12) 64 0 = some socketRecord ∧ s.smc.scanWaiting = none ∧
    (s.sock 12).gate.synced = false ∧
    (s.sock 12).gate.shadow.kindActions[Kind.thermal.ix] = .ignore ∧
    (s.sock 12).acct.prevVisit = some 0 ∧ (s.time.runMs - 0).toNat ≤ 2 * 20 ∧
    (after (.scrReadComplete 0 { thermal := .last }) s).smc.attention = Cause.socketEnded.mask := by
  decide +kernel
/-- R172, R166, R163: 20 ms credited and the stress complete; the soak complete. -/
theorem test_visit_decides :
    (let y := ((after (.scrReadComplete 0 { thermal := .afterCredit }) (deciding .stressing .on)).sock 12).acct
     (y.phase, y.bin, y.dwellMs) = (Phase.complete, Bin.pass, 20)) ∧
    let y := (after (.scrReadComplete 0 { thermal := .afterCredit }) (onSock 12 (fun x =>
      { x with acct := { x.acct with dwellSec := 3 } }) (deciding .soaking .on))).sock 12
    y.acct.phase = .stressing ∧ y.ex.st = .armed := by decide +kernel
/-- Section 2.8: visits A, B and C. -/
theorem test_witness_AcknowledgementsWithinEight :
    let g (w a : Byte8) : Gate := { Gate.reset with failWritten := w, acked := a }
    ((g 254 250).failWritten - 250).toNat ≤ 8 ∧ 8 < ((g 2 250).failWritten - 3).toNat ∧
    (g 2 250).pendingCount ≤ 8 ∧ ((g 2 250).failWritten - 250).toNat = 8 := by decide

/-- A STOPPED board with a configuration, socket 5 WAITING, and bank 7 locked with socket 31 WAITING. -/
def lot : State :=
  { onSock 31 (inState .waiting .off) (onSock 5 (inState .waiting .off) State.reset) with
    scu := { Scu.reset with configAdopted := true, scanEnable := true }
    banks := (Vector.replicate 8 Bank.reset).set 7 { Bank.reset with locked := true } }

/-- A record that passes the code check with every number at 0. -/
def acceptable : List Word := [3] ++ List.replicate 63 0

/-- Whether a decision accepts. -/
def accepts : Decision → Bool
  | .accepted _ _ => true
  | .rejected _ => false

theorem accepts_some (d : Decision) (h : accepts d = true) : ∃ st n, d = .accepted st n := by
  cases d with
  | accepted st n => exact ⟨st, n, rfl⟩
  | rejected why => cases h

theorem test_witness_RevisionGateAdoptsWhole :
    (∃ st n, judgeRecord BoardConfig.reset LaneMap.reset 0 acceptable = .accepted st n) ∧
    judgeRecord BoardConfig.reset LaneMap.reset 0 (acceptable.set 2 2) = .rejected .badCode ∧
    judgeRecord BoardConfig.reset LaneMap.reset 0 (acceptable.set 23 2) = .rejected .laneRole ∧
    field8 acceptable 0 ≠ Socket.reset.gate.appliedRev ∧
    field8 (acceptable.set 0 0) 0 = Socket.reset.gate.appliedRev :=
  ⟨accepts_some _ (by decide +kernel), by decide +kernel, by decide +kernel, by decide, by decide⟩

/-- A synchronized socket 12 in a phase whose record carries a new revision with an Enable. -/
def adopting (en : Word) (p : Phase) (st : RailState) (s : State) : State :=
  (moving (.scrRead 12) (.socket 12 0 false) (onSock 12 (fun x =>
    { inState p st x with gate := { x.gate with synced := true } }) s)).writeRecord (scrBase 12)
    (acceptable.set 2 en)

theorem test_witness_RevisionGateAdoptsWhole_visit :
    let s := adopting 0 .stressing .on lot
    s.pins.por = false ∧ s.transferring = some (.scrRead 12) ∧
    s.readRecord (scrBase 12) 64 0 = some acceptable ∧ (s.sock 12).gate.synced = true ∧
    field8 acceptable 0 ≠ (s.sock 12).gate.appliedRev ∧ s.smc.scanWaiting = none ∧
    (s.sock 12).acct.phase.reporting = true ∧ (s.sock 12).rail.st.checked = true := by
  decide +kernel
/-- R167 and R160: the withdrawal, and the Enable of an EMPTY socket of a RUNNING board. -/
theorem test_enable_taken :
    (let y := (after (.scrReadComplete 0 { thermal := .first }) (adopting 0 .stressing .on lot)).sock 12
     (y.acct.phase, y.acct.bin, y.rail.st) = (Phase.empty, Bin.incomplete, RailState.rampDown)) ∧
    let y := (after (.scrReadComplete 0 { thermal := .first })
      (adopting 1 .empty .off (onBoard .running lot))).sock 12
    y.acct.phase = .waiting ∧ y.rail.st = .chainWait := by decide +kernel
/-- R71, R76, R135: an adopted Rail Setpoint, and the suspension flag cleared. -/
theorem test_witness_RevisionGateAdoptsWhole_rail :
    let s (p : Phase) (st : RailState) := onSock 12 (fun x => setNum (fun n => { n with
      railSetpoint := 900 }) { x with ex := { x.ex with st := .suspended, suspendFlag := true } })
      (adopting 1 p st (onBoard .running lot))
    let y (p : Phase) (st : RailState) := (after (.scrReadComplete 0 { thermal := .first }) (s p st)).sock 12
    ((y .stressing .on).acct.phase, (y .stressing .on).rail.st, (y .stressing .on).ex.st) =
      (Phase.stressing, RailState.slew, ExState.armed) ∧
    ((y .held .settle).acct.phase, (y .held .settle).rail.st, (y .held .settle).ex.st) =
      (Phase.held, RailState.rampUp, ExState.paused) ∧
    (y .stressing .on).ex.suspendFlag = false := by decide +kernel
theorem test_witness_AcceptedSettingsLieInRange : 800 ≤ BoardConfig.reset.absLimit ∧
    1024 ≤ { BoardConfig.reset with frameLength := 1024 }.frameLength ∧
    ∃ st n, judgeRecord { BoardConfig.reset with frameLength := 1024 } LaneMap.reset 0 acceptable =
      .accepted st n := ⟨by decide, by decide, accepts_some _ (by decide +kernel)⟩
theorem test_witness_AcceptedSettingsLieInRange_codes : codesListed acceptable ∧
    ¬codesListed (acceptable.set 45 4) ∧ ¬codesListed (acceptable.set 23 3) :=
  ⟨⟨by decide, by decide, by decide, fun k => by cases k <;> decide⟩,
    fun h => absurd (h.2.2.2 .sensorLost) (by decide), fun h => absurd h.2.1 (by decide)⟩

/-- The record of the example of section 2.7, its other fields within their ranges. -/
def exampleRecord : List Word :=
  [0x13, 0, 1, 1000, 300, 10, 50, 10000, 12000, 0, 0, 100, 2500, 100, 1, 1, 1, 3000, 900, 400, 160, 0, 60,
    1, 100, 5000, 1, 3, 9, 12, 0, 1, 1, 0, 1, 0, 1, 0] ++ List.replicate 26 0
/-- Its active map: lanes 0 to 7 of socket 7 DRIVE, lanes 8 to 15 SENSE. -/
def exampleMap : LaneMap := LaneMap.reset.set 7 (Vector.ofFn fun l =>
  { LaneEntry.reset with direction := if l.val < 8 then .drive else .sense })

/-- R38 to R40: the first and second revision of the example, and the second with Start Lane 10. -/
theorem test_three_revisions :
    let judged (r : List Word) := match judgeRecord BoardConfig.reset exampleMap 7 r with
      | .accepted st n => some (n, [(st.num.rampRate : Int), st.num.fastLimit, st.num.slowLimit,
          st.num.tempSetpoint, st.num.winStart, st.num.winLength])
      | .rejected _ => none
    let second := ((exampleRecord.set 0 0x14).set 4 200).set 23 2
    judged exampleRecord = some (4, [250, 10000, 10000, 2384, 100, 3996]) ∧
    judged second = some (3, [200, 10000, 10000, 2384, 100, 3996]) ∧
    judgeRecord BoardConfig.reset exampleMap 7 (second.set 27 10) = .rejected .laneRole := by
  decide +kernel

/-- Socket 0 in soak with a hot device: the runaway count at nine and the soak timer at its limit. -/
def hotVisit : State :=
  onSock 0 (fun x => { inState .soaking .on x with
    sensor := { x.sensor with st := .tracking, tf := some 2000 }
    thermal := { x.thermal with runaway := 9, soakMs := 60000 } }) staleVisit

theorem test_witness_RunawayAndSoakTimeoutClearTheirCounts : hotVisit.pins.por = false ∧
    hotVisit.transferring = some (.scrRead 0) ∧ hotVisit.reachesRunaway 0 { thermal := .first } = true ∧
    hotVisit.reachesSoakTimeout 7 { thermal := .afterCredit } = true := by decide +kernel
theorem test_witness_RunawayAndSoakTimeoutClearTheirCounts_raised :
    let s := onSock 0 (acting .log) hotVisit
    let cold := onSock 0 (fun x => { x with thermal := { x.thermal with soakMs := 0 } }) s
    let slow := onSock 0 (fun x => { x with thermal := { x.thermal with runaway := 0 } }) s
    (s.sock 0).acct.phase.reporting = true ∧ (s.sock 0).acct.staging.length < 4 ∧
    cold.reachesRunaway 0 { thermal := .first } = true ∧
    cold.reachesSoakTimeout 0 { thermal := .first } = false ∧
    slow.reachesRunaway 0 { thermal := .afterCredit } = false ∧
    slow.reachesSoakTimeout 0 { thermal := .afterCredit } = true ∧
    (s.sock 0).gate.shadow.kindActions[Kind.thermal.ix] = .log := by decide +kernel
/-- R118: an update above Setpoint plus Runaway Margin with u at minus the Cooler Limit counts. -/
theorem test_runaway_counts :
    let s := onSock 0 (fun x => { x with thermal := { x.thermal with runaway := 4 } }) hotVisit
    ((after (.scrReadComplete 0 { thermal := .first }) s).sock 0).thermal.runaway = 5 ∧
    s.reachesRunaway 0 { thermal := .first } = false := by decide +kernel
theorem test_witness_WriteTransfersStoreTheirRecord :
    let w := List.replicate 128 (0xFFFF : Word)
    let b := moving (.bsrWrite w) .header State.reset
    let r := moving (.ssrWrite 31 w) (.socket 31 0 true) State.reset
    let f := moving (.failWrite 31 7 (w.take 16)) (.socket 31 1 false) State.reset
    w.length = 128 ∧ (b.pins.por = false ∧ b.smc.owner = .scan ∧ b.smc.transfer = some (.bsrWrite w)) ∧
    (r.pins.por = false ∧ r.smc.owner = .scan ∧ r.smc.transfer = some (.ssrWrite 31 w)) ∧
    (f.pins.por = false ∧ f.smc.owner = .scan ∧ f.smc.transfer = some (.failWrite 31 7 (w.take 16)) ∧
      (w.take 16).length = 16) := by decide +kernel
/-- The SSR write of the last socket, with a command in progress and a start deferred or not. -/
def lastStatus (code : CmdCode) (step : CmdStep) (deferred : Bool) : State :=
  let s := moving (.ssrWrite 31 (List.replicate 128 0)) (.socket 31 0 false)
    (busy code step State.reset)
  { s with scu := { s.scu with deferred := deferred } }

theorem test_witness_WriteTransfersStoreTheirRecord_sweep :
    let s := lastStatus .fillLaneMap .firstHalf true
    s.pins.por = false ∧ s.smc.owner = .scan ∧ s.scu.deferred = true ∧
    s.smc.scanWaiting = none ∧ s.smc.hostWaiting = false ∧
    (s.brc.channel.map fun ch => (ch.code, ch.step)) = some (.fillLaneMap, .firstHalf) ∧
    (lastStatus .loadLaneMap .reading false).scu.deferred = false := by decide +kernel
/-- R25, R26, R43, R132: what follows the last status record. -/
theorem test_sweep_ends :
    (after .ssrWriteComplete (lastStatus .fillLaneMap .firstHalf true)).smc.transfer =
      some .bcrRead ∧
    (after .ssrWriteComplete (lastStatus .fillLaneMap .secondHalf false)).brc.atStep .fillLaneMap
      .doneWait = true ∧
    (after .ssrWriteComplete (lastStatus .loadLaneMap .reading false)).smc.transfer =
      some (.chunkRead 0) := by decide +kernel

/-- The read of a chunk of a load in progress, the chunk's words all zero. -/
def chunkNext (c : Nat) : State :=
  (busy .loadLaneMap .reading (moving (.chunkRead c) .chunk State.reset)).writeRecord (chunkBase c)
    (List.replicate 64 0)

theorem test_witness_ChunkReadsDeliverOrEndTheLoad : (chunkNext 15).pins.por = false ∧
    (chunkNext 15).transferring = some (.chunkRead 15) ∧
    (chunkNext 15).readRecord (chunkBase 15) 64 0 = some (List.replicate 64 0) ∧
    firstBad (chunkEntries (List.replicate 64 0)) 0 = none ∧
    (chunkNext 15).brc.channel = some ⟨.loadLaneMap, 7, 1, .off, .float, .reading⟩ ∧
    (chunkNext 0).transferring = some (.chunkRead 0) := by decide +kernel
theorem test_witness_ChunkReadsDeliverOrEndTheLoad_bad :
    firstBad (chunkEntries ((List.replicate 64 0).set 62 3)) 0 = some 31 ∧
    ({ chunkNext 3 with mem := [(chunkBase 3, 0)] } : State).readRecord (chunkBase 3) 64 0 = none := by
  decide +kernel
/-- R43, R52, R130: the discarded map and COMMAND_DONE. -/
theorem test_chunk_discards :
    let s := { chunkNext 3 with mem := [(chunkBase 3, 0)], pxr := { Pxr.reset with
      staging := drivingLane.pxr.vectorMap, delivered := 3 } }
    let t := after (.laneMapChunkReadComplete 0) s
    t.pxr.staging = LaneMap.reset ∧ t.brc.result = .parity ∧
    t.smc.attention.getLsbD Cause.commandDone.bit = true := by decide +kernel

/-! ### Board commands -/

theorem test_witness_StartRunBeginsTheRun : lot.pins.por = false ∧ lot.brc.channel = none ∧
    lot.brc.state = .stopped ∧ lot.pins.interlock = false ∧ lot.scu.configAdopted = true ∧
    (lot.sock 5).acct.phase = .waiting ∧ (lot.sock 5).rail.st = .off ∧
    lot.banks[bankOf 5].locked = false ∧ lot.banks[bankOf 5].holdOff = none ∧
    (lot.sock 31).acct.phase = .waiting ∧ lot.banks[bankOf 31].locked = true ∧
    (lot.sock 0).acct.phase ≠ .waiting := by decide +kernel
theorem test_witness_StartRunBeginsTheRun_refused :
    (onBoard .holding lot).brc.state ≠ .stopped ∧ State.reset.scu.configAdopted = false ∧
    State.reset.brc.state = .stopped ∧ State.reset.pins.interlock = false ∧
    (after .interlockAssert lot).pins.interlock = true := by decide +kernel

/-- A RUNNING board with socket 5 STRESSING and its exercise RUNNING. -/
def run : State :=
  onSock 5 (fun x => { inState .stressing .on x with
    ex := { x.ex with st := .running, cycle := .awaitingDone } }) (onBoard .running lot)

theorem test_witness_HoldPausesTheRun : run.pins.por = false ∧ run.brc.channel = none ∧
    run.brc.state = .running ∧ (run.sock 5).acct.phase.asResume ≠ .none ∧
    (run.sock 5).acct.phase = .stressing ∧ (run.sock 5).ex.st = .running ∧
    (run.sock 0).acct.phase.asResume = .none ∧ lot.brc.state ≠ .running := by decide +kernel

/-- That board held by a command, and the same held by the interlock since released. -/
def held : State := after (.hold 1) run
/-- See `held`. -/
def cutHeld : State := after .interlockRelease (after .interlockAssert run)

theorem test_witness_ResumeRestoresTheRun : held.pins.por = false ∧ held.brc.channel = none ∧
    held.brc.state = .holding ∧ held.pins.interlock = false ∧ held.scu.scanEnable = true ∧
    held.brc.reason ≠ .interlock ∧ (held.sock 5).acct.phase = .held ∧
    (held.sock 5).acct.resume = .stressing ∧ (held.sock 5).ex.suspendFlag = false ∧
    (held.sock 0).acct.phase ≠ .held := by decide +kernel
theorem test_witness_ResumeRestoresTheRun_interlock : cutHeld.brc.channel = none ∧
    cutHeld.brc.state = .holding ∧ cutHeld.pins.interlock = false ∧
    cutHeld.scu.scanEnable = true ∧ cutHeld.brc.reason = .interlock ∧
    (cutHeld.sock 5).acct.phase = .held ∧ cutHeld.banks[bankOf 5].locked = false ∧
    (cutHeld.sock 5).rail.st = .off ∧ cutHeld.banks[bankOf 5].holdOff = none := by decide +kernel
theorem test_witness_ResumeRestoresTheRun_others :
    let s := onSock 8 (fun x => { inState .complete .off x with
      gate := { x.gate with shadow := { x.gate.shadow with endAction := .holdPowered } } })
      (onSock 6 (inState .waiting .off) cutHeld)
    s.brc.reason = .interlock ∧ (s.sock 6).acct.phase = .waiting ∧
    s.banks[bankOf 6].locked = false ∧ (s.sock 31).acct.phase = .waiting ∧
    s.banks[bankOf 31].locked = true ∧ (s.sock 8).acct.phase = .complete ∧
    (s.sock 8).gate.shadow.endAction = .holdPowered ∧ (s.sock 8).rail.st = .off ∧
    (s.sock 0).acct.phase = .empty := by decide +kernel
theorem test_witness_ResumeRestoresTheRun_refused : run.brc.state ≠ .holding ∧
    (after .interlockAssert run).pins.interlock = true ∧ State.reset.scu.scanEnable = false := by
  decide +kernel
theorem test_witness_StopRunBringsTheBoardDown : lot.pins.por = false ∧ lot.brc.channel = none ∧
    lot.brc.state = .stopped ∧ cutHeld.brc.channel = none ∧ cutHeld.brc.state = .holding ∧
    (∀ i : SocketIx, ((after (.stopRun 1) cutHeld).sock i).rail.st = .off) := by decide +kernel
theorem test_witness_StopRunBringsTheBoardDown_ramping :
    let s := onBoard .running (allRails .on State.reset)
    s.pins.por = false ∧ s.brc.channel = none ∧ s.brc.state = .running ∧
    (s.sock 0).rail.st.checked = true ∧
    (∀ i : SocketIx, ((after (.stopRun 1) s).sock i).rail.st ≠ .off) := by decide +kernel
theorem test_witness_StopRunBringsTheBoardDown_stopping :
    let s (st : RailState) := (busy .stopRun .ramping (onBoard .stopping (allRails st State.reset))).displace
    (s .rampDown).pins.por = false ∧ (s .rampDown).brc.channel = none ∧
    (s .rampDown).brc.state = .stopping ∧ ((s .rampDown).sock 0).rail.st ≠ .off ∧
    (s .off).brc.channel = none ∧ (s .off).brc.state = .stopping ∧
    (∀ i : SocketIx, ((s .off).sock i).rail.st = .off) ∧
    (after (.stopRun 1) (s .rampDown)).brc.state = .stopping := by decide +kernel
theorem test_witness_BusyChannelRefusesOrIsDisplaced :
    let k (c : CmdCode) (st : CmdStep) : Option Channel := (busy c st lot).brc.channel
    lot.pins.por = false ∧
    k .loadLaneMap .reading = some ⟨.loadLaneMap, 7, 1, .off, .float, .reading⟩ ∧
    k .loadLaneMap .doneWait = some ⟨.loadLaneMap, 7, 1, .off, .float, .doneWait⟩ ∧
    k .fillLaneMap .secondHalf = some ⟨.fillLaneMap, 7, 1, .off, .float, .secondHalf⟩ ∧
    k .fillLaneMap .doneWait = some ⟨.fillLaneMap, 7, 1, .off, .float, .doneWait⟩ ∧
    k .diagnose .diagFrame = some ⟨.diagnose, 7, 1, .off, .float, .diagFrame⟩ ∧
    k .diagnose .doneWait = some ⟨.diagnose, 7, 1, .off, .float, .doneWait⟩ ∧
    k .stopRun .ramping = some ⟨.stopRun, 7, 1, .off, .float, .ramping⟩ := by decide
theorem test_witness_LongCommandsBegin : lot.pins.por = false ∧ lot.brc.channel = none ∧
    fillDirectionOf 1 = some .drive ∧ fillDirectionOf 2 = none ∧
    idleLevelOf (2 : Word).toNat = some .float ∧ idleLevelOf (3 : Word).toNat = none ∧
    lot.brc.state = .stopped ∧ run.brc.state = .running ∧ held.brc.state = .holding ∧
    (1 : Word32) ≠ 0 := by decide +kernel

/-- Socket 5 enabled with its sensor LOST, beside three sockets of its bank. -/
def lostSensor : State :=
  onSock 5 (fun x => { x with sensor := { x.sensor with st := .lost }
                              gate := { x.gate with shadow := { x.gate.shadow with
                                enable := true } } }) lot

theorem test_witness_ClearAccountsStartsAfresh : lostSensor.pins.por = false ∧
    lostSensor.brc.channel = none ∧ lostSensor.brc.state = .stopped ∧
    (∀ i : SocketIx, bankOf i = 1 → (0xF0 : Word32).getLsbD i.val = true) ∧
    bankOf 31 = 7 ∧ (0xF0 : Word32).getLsbD 31 = false ∧
    (lostSensor.sock 5).gate.shadow.enable = true ∧ (lostSensor.sock 5).sensor.st = .lost ∧
    (lostSensor.sock 4).gate.shadow.enable = false ∧ run.brc.state ≠ .stopped := by decide +kernel
/-- R102, R181, R184: a RETIRED socket whose loss retires it again after the clear has ended. -/
theorem test_clear_retires :
    let s := onSock 5 (fun x => acting .retire (inState .retired .off x)) lostSensor
    let t := after (.clearAccounts 1 0x20) s
    (t.sock 5).acct.phase = .retired ∧ (t.sock 5).acct.bin = .failThermal ∧
      t.smc.attention.getLsbD Cause.socketEnded.bit = true := by decide +kernel
/-- R59, R180: the loss as a strike, below the Strike Limit and at it. -/
theorem test_clear_strikes :
    let t (n : Nat) := (after (.clearAccounts 1 0x20) (onSock 5 (fun x => acting .strike
      (setNum (fun k => { k with strikeLimit := n }) x)) lostSensor)).sock 5
    (t 2).acct.phase = .waiting ∧ (t 2).acct.strikes = 1 ∧ (t 1).acct.phase = .retired ∧
    (t 1).acct.staging.map FailRecord.sequence = [1] := by decide +kernel

/-! ### Rails and banks -/

/-- Rail 0 one tick from its setpoint of 400 mV, rail 1 ramping down to its pending chain entry, rail 4
the same beside a bank hold-off. -/
def ramps : State :=
  { onSock 4 (fun x => { x with rail := { x.rail with st := .rampDown, dac := 1,
                                                      pendingEntry := true } })
      (onSock 1 (fun x => { x with rail := { x.rail with st := .rampDown, dac := 1,
                                                         pendingEntry := true } })
        (onSock 0 (fun x => { x with rail := { x.rail with st := .rampUp, dac := 399 } }) run)) with
    banks := (Vector.replicate 8 Bank.reset).set 1 { Bank.reset with holdOff := some 9 } }

theorem test_witness_SenseTicksAdvanceTheRails : ramps.pins.por = false ∧
    ramps.brc.state ≠ .stopping ∧ (ramps.sock 0).rail.st = .rampUp ∧
    nextDac (ramps.sock 0).rail.dac 400 1 = 400 ∧ (ramps.sock 1).rail.st = .rampDown ∧
    (ramps.sock 1).rail.dac ≤ 1 ∧ (ramps.sock 1).rail.pendingEntry = true ∧
    ramps.banks[bankOf 1].holdOff = none ∧ ramps.banks[bankOf 4].holdOff = some 9 := by decide +kernel
/-- R71, R76: what the tick that ends RAMP_UP, and the one that ends SLEW, leaves for the settle. -/
theorem test_tick_ends_ramp :
    let q (st : RailState) := ((after .senseTick (onSock 0 (fun x => { x with
      rail := { x.rail with st := st } }) ramps)).sock 0).rail
    ((q .rampUp).st, (q .rampUp).ownSample, (q .rampUp).settleFromSlew) = (.settle, true, false) ∧
    ((q .slew).st, (q .slew).ownSample, (q .slew).settleFromSlew) = (.settle, false, true) := by
  decide +kernel
theorem test_witness_SenseTicksAdvanceTheRails_stopped : stopNext.brc.state = .stopping ∧
    stopNext.brc.channel = some ⟨.stopRun, 7, 1, .off, .float, .ramping⟩ ∧
    (∀ i : SocketIx, ((after .senseTick stopNext).sock i).rail.st = .off) ∧
    (∀ i : SocketIx, ((after .senseTick (allRails .on stopNext)).sock i).rail.st ≠ .off) := by
  decide +kernel
/-- TABLE 10-3: a rail in SETTLE at the tick spoils. -/
theorem test_settle_spoils :
    ((after .senseTick (onSock 6 (fun x => { inState .stressing .settle x with
      sensor := { x.sensor with inWindow := true } }) (onBoard .running State.reset))).sock
        6).acct.spoil = true := by decide +kernel
theorem test_witness_RailSamplesAreRecordedAndChecked :
    let s := onSock 6 (inState .powering .settle) run
    s.pins.por = false ∧ (s.sock 6).rail.st = .settle ∧ (s.sock 6).rail.ownSample = false ∧
    distance (405 : Word).toNat 400 ≤ (s.sock 6).gate.shadow.num.regTolerance ∧
    (s.sock 6).rail.settleFromSlew = false ∧ (s.sock 6).acct.phase = .powering ∧
    (s.sock 0).rail.st ≠ .settle ∧ (s.sock 0).rail.st ≠ .on := by decide +kernel

theorem test_witness_RailSamplesAreRecordedAndChecked_settle :
    let s := onSock 6 (fun x => setNum (fun n => { n with settleTimeout := 3 })
      { inState .powering .settle x with rail := { x.rail with st := .settle, settleCount := 1 } }) run
    (s.sock 6).rail.st = .settle ∧ (s.sock 6).rail.ownSample = false ∧
    (s.sock 6).gate.shadow.num.regTolerance < distance (406 : Word).toNat 400 ∧
    (s.sock 6).rail.settleCount + 1 < (s.sock 6).gate.shadow.num.settleTimeout ∧
    ((after (.railSample 6 406 0) s).sock 6).rail.settleCount = 2 := by decide +kernel
/-- R73 to R75: the counts of a sample in ON, out of tolerance, with the 985th of the open-contact check. -/
theorem test_witness_RailSamplesAreRecordedAndChecked_on :
    let s := onSock 6 (fun x => { inState .soaking .on x with rail := { x.rail with
      st := .on, openArmed := true, openCount := 984, dropCount := 6 } }) run
    let y := ((after (.railSample 6 0 9) s).sock 6).rail
    ((s.sock 6).rail.st = .on ∧ ((s.sock 6).rail.window.drop 0 ++ [9]).length < 16 ∧
      (s.sock 6).rail.dropCount + 1 < 8 ∧ (s.sock 6).rail.openCount + 1 < 1000) ∧
    (y.window, y.dropCount, y.openCount, y.openSum) = ([9], 7, 985, 9) := by decide +kernel

/-- Socket 20 of section 4.7 before the sample at X: 15 samples, here of 8,000 mA, and the limit 8,000. -/
def slowNext : State :=
  onSock 20 (fun x => setNum (fun n => { n with slowLimit := 8000, regTolerance := 250 })
    (acting .log { inState .stressing .on x with
      rail := { x.rail with st := .on, window := List.replicate 15 8000 ++ [8015] } })) run

theorem test_witness_RailSamplesAreRecordedAndChecked_slow : (slowNext.sock 20).rail.st = .on ∧
    15 ≤ (slowNext.sock 20).rail.window.length ∧
    8000 < (((slowNext.sock 20).rail.window.drop 1).sum + (8016 : Word).toNat) / 16 := by
  decide +kernel
/-- Section 4.7 at X: the trip, its hold-off and the phase. -/
theorem test_slow_trip :
    let t := (after (.railSample 20 400 8016) slowNext).sock 20
    t.rail.st = .holdOff ∧ t.rail.trips = 1 ∧ t.acct.phase = .powering ∧
      t.acct.staging.map FailRecord.details = [[0, 8001]] := by decide +kernel
/-- R72, R74, R75, R180: RAIL_SAMPLE at the last settle sample, at the eighth of a dropout under STRIKE below and
at the limit, and at the 1,000th of the open-contact check. -/
theorem test_witness_RailSamplesAreRecordedAndChecked_trips :
    let drop (n : Nat) := (after (.railSample 4 0 0) (onSock 4 (fun x => acting .strike
      (setNum (fun k => { k with strikeLimit := n }) x)) tripNext)).sock 4
    let contact := onSock 7 (fun x => setNum (fun n => { n with minCurrent := 10 }) (acting .strike
      { inState .soaking .on x with
        rail := { x.rail with st := .on, openArmed := true, openCount := 999 } })) run
    ((after (.railSample 6 406 0) (onSock 6 (inState .powering .settle) run)).sock 6).rail.st = .holdOff ∧
    ((drop 2).rail.st, (drop 2).acct.phase) = (.holdOff, .powering) ∧
    ((drop 1).rail.st, (drop 1).acct.phase) = (.off, .retired) ∧
    (drop 1).acct.staging.map (fun f => (f.subcode, f.details)) = [(2, [400, 0])] ∧
    ((after (.railSample 7 400 0) contact).sock 7).acct.strikes = 1 := by decide +kernel
theorem test_witness_FailedSettlesAndDropoutsTrip : tripNext.pins.por = false ∧
    (tripNext.sock 4).gate.shadow.num.regTolerance < distance (0 : Word).toNat 400 ∧
    (tripNext.sock 4).rail.st = .on ∧ 7 ≤ (tripNext.sock 4).rail.dropCount := by decide +kernel
theorem test_witness_FailedSettlesAndDropoutsTrip_settle :
    let s := onSock 6 (inState .powering .settle) run
    (s.sock 6).gate.shadow.num.regTolerance < distance (406 : Word).toNat 400 ∧
    (s.sock 6).rail.st = .settle ∧ (s.sock 6).rail.ownSample = false ∧
    (s.sock 6).gate.shadow.num.settleTimeout ≤ (s.sock 6).rail.settleCount + 1 := by decide +kernel

/-- Socket 7 with 999 open-contact samples counted, a Minimum Current of 10 mA and RETIRE. -/
def openNext : State :=
  onSock 7 (fun x => setNum (fun n => { n with minCurrent := 10 }) (acting .retire
    { inState .soaking .on x with
      rail := { x.rail with st := .on, openArmed := true, openCount := 999, openSum := 144 } })) run

theorem test_witness_OpenContactCheckIsMadeOnce : openNext.pins.por = false ∧
    (openNext.sock 7).rail.st = .on ∧ (openNext.sock 7).rail.openArmed = true ∧
    999 ≤ (openNext.sock 7).rail.openCount ∧
    ((openNext.sock 7).rail.openSum + (15 : Word).toNat) / 16 < 10 ∧
    10 ≤ ((openNext.sock 7).rail.openSum + (16 : Word).toNat) / 16 ∧
    (openNext.sock 7).acct.phase.reporting = true := by decide +kernel
theorem test_open_contact_boundary :
    ((after (.openContact 7 400 15) openNext).sock 7).acct.bin = .noContact ∧
    ((after (.openContact 7 400 16) openNext).sock 7).acct.phase = .soaking := by decide +kernel
theorem test_witness_FastTripsCutTheRail : run.pins.por = false ∧ run.brc.state ≠ .stopping ∧
    (run.sock 5).rail.st.checked = true ∧ (run.sock 0).rail.st.checked = false ∧
    (run.sock 0).rail.st ≠ .rampDown ∧ (stopNext.sock 9).rail.st = .rampDown ∧
    stopNext.brc.state = .stopping ∧ (∀ j : SocketIx, j ≠ 9 → (stopNext.sock j).rail.st = .off) ∧
    stopNext.brc.channel = some ⟨.stopRun, 7, 1, .off, .float, .ramping⟩ := by decide +kernel
theorem test_witness_FastTripsCutTheRail_other : (ramps.sock 1).rail.st = .rampDown ∧
    ∃ j : SocketIx, j ≠ 1 ∧ (ramps.sock j).rail.st ≠ .off := by decide +kernel

/-- Sockets 8, 10 and 11 of section 4.2 at T + 1, with rail 11's trips exhausted. -/
def chain : State :=
  let w (n : Nat) (x : Socket) : Socket :=
    { inState .waiting .chainWait x with rail := { x.rail with st := .chainWait, trips := n } }
  { onSock 11 (w 1) (onSock 10 (w 0) (onSock 8 (w 0) run)) with
    banks := Vector.replicate 8 { Bank.reset with chainDue := true } }

theorem test_witness_ChainStartsInTurn : chain.pins.por = false ∧ bankOf 8 = 2 ∧
    chain.banks[(2 : BankIx)].chainDue = true ∧ chain.brc.state = .running ∧
    (∀ j : SocketIx, bankOf j = 2 → (chain.sock j).rail.st ≠ .rampUp ∧
      (chain.sock j).rail.st ≠ .settle) ∧
    (chain.sock 8).rail.st = .chainWait ∧
    (∀ j : SocketIx, bankOf j = 2 → j < 8 → (chain.sock j).rail.st ≠ .chainWait) ∧
    (chain.sock 8).rail.trips ≤ (chain.sock 8).gate.shadow.num.tripRetryLimit ∧
    chain.pins.fastTrip.getLsbD 8 = false ∧ (chain.sock 8).acct.phase = .waiting ∧
    (chain.sock 11).gate.shadow.num.tripRetryLimit < (chain.sock 11).rail.trips := by decide +kernel
/-- R77: a chain start under an asserted fast-trip input: the ramp is tripped at once. -/
theorem test_witness_ChainStartsInTurn_trips :
    let s := { chain with pins := { chain.pins with fastTrip := 0x100 } }
    s.pins.fastTrip.getLsbD 8 = true ∧ ((after (.chainStart 2) s).sock 8).rail.st = .holdOff ∧
    ((after (.chainStart 2) s).sock 8).acct.phase = .powering := by decide +kernel
theorem test_chain_start : let t := after (.chainStart 2) chain
    (t.sock 8).rail.st = .rampUp ∧ (t.sock 8).acct.phase = .powering ∧
      (t.sock 10).rail.st = .chainWait := by decide +kernel

/-- Socket 20 in a SOCKET hold-off to 500 ms, bank 1 and its socket 4 in a bank hold-off to 500 ms. -/
def holdOffs : State :=
  { onSock 4 (fun x => { x with rail := { x.rail with st := .holdOff, holdOff := some (.bank, 500) } })
      (onSock 20 (fun x => { inState .powering .holdOff x with
        rail := { x.rail with st := .holdOff, holdOff := some (.socket, 500), trips := 2 } }) run) with
    time := { runMs := 500, pwmTick := 0 }
    banks := (Vector.replicate 8 Bank.reset).set 1 { Bank.reset with holdOff := some 500 } }

theorem test_witness_HoldOffsExpire : holdOffs.pins.por = false ∧
    (holdOffs.sock 20).rail.st = .holdOff ∧
    (holdOffs.sock 20).rail.holdOff = some (.socket, 500) ∧
    (holdOffs.time.runMs - 500).toNat < 2147483648 ∧
    holdOffs.banks[(1 : BankIx)].holdOff = some 500 ∧ bankOf 4 = 1 ∧
    (holdOffs.sock 4).rail.holdOff = some (.bank, 500) := by decide +kernel
/-- Section 4.7 at Y + 500: the lockout. -/
theorem test_lockout : let t := (after (.socketHoldOffExpiry 20) holdOffs).sock 20
    t.rail.st = .off ∧ t.acct.phase = .retired ∧ t.acct.bin = .failPower ∧ t.acct.staging = [] := by
  decide +kernel

/-- A RUNNING board with budgets of 12,003 mA and bank 1 with two run trips. -/
def feeds : State :=
  { run with
    scu := { run.scu with config := { BoardConfig.reset with budgets := Vector.replicate 8 12003 } }
    banks := (Vector.replicate 8 Bank.reset).set 1 { Bank.reset with runTrips := 2 } }

theorem test_witness_FeedSamplesTripTheBank : feeds.pins.por = false ∧
    lot.brc.state = .stopped ∧ feeds.brc.state = .running ∧
    (15003 : Word32).toNat ≤ 12003 + 12003 / 4 ∧ 12003 + 12003 / 4 < (15004 : Word32).toNat ∧
    feeds.scu.config.budgets[(1 : BankIx)] = 12003 ∧
    feeds.banks[(1 : BankIx)].locked = false ∧ 2 ≤ feeds.banks[(1 : BankIx)].runTrips ∧
    feeds.banks[(0 : BankIx)].runTrips < 2 ∧ lot.banks[(7 : BankIx)].locked = true ∧
    bankOf 5 = 1 ∧ (feeds.sock 5).acct.phase = .stressing := by decide +kernel
theorem test_witness_FeedSamplesTripTheBank_stopping :
    stopNext.brc.state = .stopping ∧ stopNext.brc.channel.isSome = true ∧
    stopNext.scu.config.budgets[bankOf 9] + stopNext.scu.config.budgets[bankOf 9] / 4 <
      (1 : Word32).toNat ∧
    (∀ i : SocketIx, ((after (.bankFeedSample 2 1) stopNext).sock i).rail.st = .off) ∧
    (after (.bankFeedSample 2 1) stopNext).brc.state = .stopped := by decide +kernel
theorem test_bank_trip_boundary :
    (after (.bankFeedSample 1 15003) feeds).banks[(1 : BankIx)].tripCount = 0 ∧
    (after (.bankFeedSample 0 15004) feeds).banks[(0 : BankIx)].holdOff = some 2000 ∧
    ((after (.bankFeedSample 1 15004) feeds).sock 5).acct.bin = .boardFault := by decide +kernel

/-! ### Temperature and drive -/

/-- Socket 9 of section 6.3 at its samples, and socket 5 stressing. -/
def tracking (st : SensorState) (n : Nat) (f : Int) : State :=
  onSock 9 (fun x => setNum (fun m => { m with filterShift := 1 })
    { x with sensor := { x.sensor with st := st, tf := some f, suspectCount := n } }) run

theorem test_witness_SensorSamplesMoveTheFilter :
    let s := tracking .suspect 2 1995
    s.pins.por = false ∧ -640 ≤ (2300 : Word).toInt ∧ (2300 : Word).toInt ≤ 3200 ∧
    (2300 : Word).toInt < s.scu.config.absLimit ∧ (s.sock 9).sensor.st ≠ .noSample ∧
    (s.sock 9).sensor.st ≠ .lost ∧ (s.sock 9).sensor.tf = some 1995 ∧
    256 < ((2300 : Word).toInt - 1995).natAbs ∧ 2 ≤ (s.sock 9).sensor.suspectCount ∧
    ((2251 : Word).toInt - 1995).natAbs ≤ 256 ∧ (State.reset.sock 9).sensor.st = .noSample ∧
    (-640 : Int) ≤ (0xFD80 : Word).toInt := by decide +kernel
theorem test_witness_SensorSamplesMoveTheFilter_limit : run.scu.config.absLimit ≤ (2400 : Word).toInt ∧
    (2400 : Word).toInt ≤ 3200 ∧ (run.sock 5).acct.phase.reporting = true := by decide +kernel
theorem test_witness_SensorSamplesMoveTheFilter_invalid : invalidCode none = true ∧
    invalidCode (some 3201) = true ∧ ((tracking .invalid 0 5).sock 9).sensor.invalidCount < 3 ∧
    ((tracking .lost 0 5).sock 9).sensor.st = .lost ∧
    (run.sock 9).acct.phase.reporting = false := by decide +kernel
/-- Section 6.3, sample 2: −10 / 2 = −5. -/
theorem test_sensor_sample :
    ((after (.sensorSample 9 (some 1990)) (tracking .suspect 1 2000)).sock 9).sensor.tf = some 1995 := by
  decide +kernel
theorem test_witness_SensorLossTakesTheLossValues :
    let s := onSock 5 (fun x => { acting .log x with
      sensor := { x.sensor with st := .invalid, invalidCount := 3 } }) run
    s.pins.por = false ∧ (Instr.sensorLost 5 none).wellFormed = true ∧
    (s.sock 5).sensor.st ≠ .lost ∧ 3 ≤ (s.sock 5).sensor.invalidCount ∧
    (s.sock 5).acct.phase.reporting = true ∧ (s.sock 5).acct.phase.asResume ≠ .none ∧
    (s.sock 5).gate.shadow.kindActions[Kind.sensorLost.ix] = .log := by decide +kernel
theorem test_witness_SensorLossTakesTheLossValues_waiting :
    let s := onSock 31 (fun x => { x with sensor := { x.sensor with invalidCount := 3 } }) lot
    (s.sock 31).sensor.st ≠ .lost ∧ 3 ≤ (s.sock 31).sensor.invalidCount ∧
    (s.sock 31).acct.phase = .waiting ∧ (s.sock 0).acct.phase = .empty := by decide +kernel
theorem test_witness_ControlUpdatesStayInBounds : 0 < caseNumbers.heaterFullScale ∧
    (-261888 : Int) ≤ 261888 ∧ ({ Thermal.reset with iAcc := 261888 }).iAcc ≤ 261888 ∧
    ({ Bank.reset with locked := true }).locked = true := by decide
theorem test_witness_ControlUpdatesStayInBounds_visits :
    let c := (onBoard .running State.reset).ctx 0
    let x (p : Phase) (st : SensorState) : Socket :=
      { inState p .on Socket.reset with sensor := { Sensor.reset with st := st, tf := some 0 }
                                        thermal := { Thermal.reset with u := 7, iAcc := 9 } }
    ((x .soaking .invalid).acct.phase = .soaking ∧ (x .soaking .lost).sensor.st = .lost ∧
      (x .waiting .tracking).acct.phase = .waiting) ∧
    ((x .soaking .invalid).thermalVisit c 9).thermal.iAcc = 9 ∧
    ((x .waiting .tracking).thermalVisit c 9).thermal.iAcc = 0 := by decide +kernel
theorem test_witness_PwmPeriodsFixTheirPulse : periodNext.pins.por = false ∧
    1023 ≤ periodNext.time.pwmTick ∧
    ({ periodNext with time := { runMs := 0, pwmTick := 1022 } } : State).time.pwmTick < 1023 := by
  decide +kernel

/-! ### Exercise -/

/-- A boundary due, with the loaded map pending and socket 5 running PATTERN. -/
def boundary (swap reload : Bool) : State :=
  { onSock 5 (fun x => { x with ex := { x.ex with mode := .pattern } }) run with
    pxr := { Pxr.reset with boundaryDue := true, swapPending := swap, reloadAll := reload } }

theorem test_witness_FrameBoundariesStartTheNextFrame : (boundary true false).pins.por = false ∧
    (boundary true false).pxr.boundaryDue = true ∧ (boundary true false).pxr.swapPending = true ∧
    (boundary false true).pxr.swapPending = false ∧ (boundary false true).pxr.reloadAll = true ∧
    ((boundary true false).sock 5).ex.st = .running ∧
    ((boundary true false).sock 5).ex.mode = .pattern ∧
    (boundary true false).pxr.gens[(0 : Fin 4)].restart = .restart := by decide +kernel

/-- A diagnosis of socket 0 whose frame, with one error, ends at the boundary due. -/
def diagnosed : State :=
  { onSock 0 (fun x => { inState .waiting .off x with
      ex := { x.ex with st := .diag, diagCount := 1 } }) (busy .diagnose .diagFrame lot) with
    pxr := { Pxr.reset with boundaryDue := true } }

theorem test_witness_FrameBoundariesStartTheNextFrame_diag : diagnosed.pxr.boundaryDue = true ∧
    (diagnosed.sock 0).ex.st = .diag ∧ diagnosed.brc.diagnoses 0 = false ∧
    (diagnosed.sock 0).ex.diagCount ≠ 0 ∧ (diagnosed.sock 0).acct.phase = .waiting ∧
    (busy .diagnose .frameWait lot).brc.diagnoses 0 = true ∧
    ((busy .diagnose .frameWait lot).sock 0).ex.st = .stopped := by decide +kernel
/-- The boundary's socket 5 with a failed frame and its onset flag armed, and in a self-test with roles that
the incoming map does not fit. -/
def failing : State :=
  onSock 5 (fun x => acting .log { x with ex := { x.ex with
    pendingMode := .pattern, onsetArmed := true, frameTotal := 1
    frameLane := x.ex.frameLane.set 8 1 } }) (boundary false false)
/-- See `failing`. -/
def unfit : State :=
  onSock 5 (fun x => { x with
    gate := { x.gate with shadow := { x.gate.shadow with mode := .selftest } }
    ex := { x.ex with st := .armed, mode := .selftest, pendingMode := .selftest } })
    (boundary true false)

theorem test_witness_FrameBoundariesStartTheNextFrame_compare :
    failing.brc.diagnoses 5 = false ∧ (failing.sock 5).ex.pendingMode = .pattern ∧
    (failing.sock 5).ex.threshold ≤ (failing.sock 5).ex.frameTotal ∧
    (failing.sock 5).acct.phase.reporting = true ∧
    (failing.sock 5).gate.shadow.kindActions[Kind.compare.ix] = .log ∧
    (unfit.sock 5).ex.st = .armed ∧ (unfit.sock 5).gate.shadow.mode = .selftest ∧
    rolesFit unfit.pxr.staging 5 (unfit.sock 5).gate.shadow.num = false ∧
    (busy .diagnose .diagFrame lot).brc.atStep .diagnose .diagFrame = true := by decide +kernel
/-- R146 and R133: the condition's details, and the suspension. -/
theorem test_boundary_compare :
    ((after .frameBoundary failing).sock 5).acct.staging.map FailRecord.details =
      [[0, 0, 0x0100, 1]] ∧
    ((after .frameBoundary unfit).sock 5).ex.st = .suspended := by decide +kernel

/-- Socket 5 comparing its lane 3 at the vector of index 0, the last of a frame or not. -/
def comparing (len : Nat) : State :=
  { onSock 5 (fun x => { x with ex := { x.ex with mode := .pattern } }) run with
    pxr := { Pxr.reset with
      frameLength := len
      vectorMap := LaneMap.reset.set 5 ((Vector.replicate 16 LaneEntry.reset).set 3
        ⟨.sense, .constant, true, .low, false, true, 0⟩) } }

theorem test_witness_VectorsStepAndCompare :
    let s := comparing 4096
    let m := s.pxr.vectorMap[(5 : SocketIx)][(3 : LaneIx)]
    let e := (s.sock 5).ex
    s.pins.por = false ∧ s.pxr.boundaryDue = false ∧ s.pxr.vectorIndex + 1 < s.pxr.frameLength ∧
    (comparing 1).pxr.frameLength ≤ (comparing 1).pxr.vectorIndex + 1 ∧
    s.pxr.gens[(0 : Fin 4)].state ≠ 0 ∧ (∀ k : LaneIx, s.pxr.vectorMap[(5 : SocketIx)][k].delay < 64) ∧
    misses s 0 5 3 = true ∧ m.delay < 64 ∧ e.mode ≠ .selftest ∧ e.st = .running ∧
    e.mode = .pattern ∧ (s.sock 5).rail.st = .on ∧ m.direction = .sense ∧ m.compare = true ∧
    e.winStart ≤ s.pxr.vectorIndex ∧ s.pxr.vectorIndex < e.winStart + e.winLength ∧
    e.skip[(3 : LaneIx)] = 0 ∧
    (0 : LaneBits).getLsbD (16 * 5 + 3) ≠ expectedLevel s.pxr m e.delayLine[(3 : LaneIx)] := by
  decide +kernel
theorem test_mismatch :
    ((after (.laneVectorSample 0 0) (comparing 4096)).sock 5).ex.frameLane[(3 : LaneIx)] = 1 ∧
    ((after (.laneVectorSample 0 0) (comparing 4096)).sock 5).ex.frameTotal = 1 ∧
    ((after (.laneVectorSample (1 <<< 83) 0) (comparing 4096)).sock 5).ex.frameTotal = 0 := by
  decide +kernel

/-- Socket 5 in a self-test cycle in a state of it. -/
def cycling (c : CycleState) (n : Nat) : State :=
  { onSock 5 (fun x => acting .log { x with ex := { x.ex with
      mode := .selftest, cycle := c, vectorCount := n, latched := some ⟨0, 1, 2, 3, 4, 5⟩,
      expiry := some 20 } }) run with time := { runMs := 20, pwmTick := 0 } }

theorem test_witness_SelfTestCyclesPulseAndTimeOut :
    (cycling .startDelay 2).pins.por = false ∧ (cycling .startDelay 2).pxr.boundaryDue = false ∧
    ((cycling .startDelay 2).sock 5).ex.latched = some ⟨0, 1, 2, 3, 4, 5⟩ ∧
    3 ≤ ((cycling .startDelay 2).sock 5).ex.vectorCount + 1 ∧
    ((cycling .startDelay 2).sock 5).ex.cycle = .startDelay ∧
    ((cycling .startPulse 3).sock 5).ex.cycle = .startPulse ∧
    4 ≤ ((cycling .startPulse 3).sock 5).ex.vectorCount + 1 ∧
    ((cycling .awaitingDone 0).sock 5).ex.cycle = .awaitingDone ∧
    ((cycling .awaitingDone 0).sock 5).ex.expiry = some 20 ∧
    ((cycling .awaitingDone 0).time.runMs - 20).toNat < 2147483648 ∧
    ((cycling .awaitingDone 0).sock 5).acct.phase.reporting = true ∧
    ((cycling .awaitingDone 0).sock 5).gate.shadow.kindActions[Kind.selftestTimeout.ix] = .log := by
  decide +kernel
/-- R150, R151: the vectors that end no part of the cycle count. -/
theorem test_witness_SelfTestCyclesPulseAndTimeOut_counts :
    let n (c : CycleState) (k : Nat) : CycleState × Nat :=
      let e := ((after (.laneVectorSample 0 0) (cycling c k)).sock 5).ex
      (e.cycle, e.vectorCount)
    ((cycling .startDelay 1).sock 5).ex.vectorCount + 1 < 3 ∧
    ((cycling .startPulse 2).sock 5).ex.vectorCount + 1 < 4 ∧
    (0 : LaneBits).getLsbD (16 * 5 + 1) = false ∧ n .startDelay 1 = (.startDelay, 2) ∧
    n .startPulse 2 = (.startPulse, 3) ∧ n .awaitingDone 4 = (.awaitingDone, 5) := by decide +kernel
/-- R152: Cycle Number is Self-Test Cycles plus one. -/
theorem test_cycle_number :
    ((after (.selftestTimeout 5) (cycling .awaitingDone 0)).sock 5).acct.staging.map
      FailRecord.details = [[1, 0]] := by decide +kernel
/-- R151: an edge on lane 1 at the first vector after the pulse gives a duration of Start Width. -/
theorem test_done_edge :
    let t := (after (.laneVectorSample (1 <<< 81) 0) (cycling .awaitingDone 4)).sock 5
    t.ex.lastDuration = 4 ∧ t.ex.cycles = 1 ∧ t.ex.cycle = .cycleEnded ∧
      t.acct.staging.map FailRecord.details = [[4, 0]] := by decide +kernel
theorem test_witness_VectorsStepAndCompare_edges :
    let e := ((cycling .awaitingDone 4).sock 5).ex
    e.st = .running ∧ e.mode = .selftest ∧ e.latched = some ⟨0, 1, 2, 3, 4, 5⟩ ∧
    ((1 <<< 81 : LaneBits).getLsbD (16 * 5 + 1) = true ∧ e.prevRecv.getLsbD 1 = false) ∧
    ((cycling .cycleEnded 0).sock 5).ex.cycle = .cycleEnded ∧
    ((cycling .startDelay 0).sock 5).ex.cycle = .startDelay ∧
    (diagnosed.sock 0).ex.st = .diag := by decide +kernel

/-! ### Interlock and conditions -/

theorem test_witness_InterlockCutsEverything : run.pins.por = false ∧ run.pins.interlock = false ∧
    run.brc.state = .running ∧ lot.brc.state = .stopped ∧ lot.pins.interlock = false ∧
    stopNext.brc.state = .stopping ∧ stopNext.pins.interlock = false ∧
    stopNext.brc.channel = some ⟨.stopRun, 7, 1, .off, .float, .ramping⟩ ∧
    (run.sock 5).ex.st = .running ∧ (run.sock 5).acct.phase.asResume ≠ .none := by decide +kernel
theorem test_witness_ConditionsAreAccounted :
    let x (a : KindAction) : Socket := acting a (inState .stressing .on Socket.reset)
    Socket.reset.acct.phase.reporting = false ∧ (x .log).acct.phase.reporting = true ∧
    (x .ignore).gate.shadow.actionFor .compare 0 = .ignore ∧
    (x .log).gate.shadow.actionFor .thermal 1 = .log ∧
    (x .strike).gate.shadow.actionFor .compare 0 = .strike ∧
    (x .strike).gate.shadow.num.strikeLimit ≤ (x .strike).acct.strikes + 1 ∧
    (x .ignore).gate.shadow.actionFor .thermal 2 = .retire ∧
    (x .log).acct.staging.length < 4 ∧ (x .log).rail.st.checked = true := by decide +kernel

/-! ### Further clauses of the statements, and where they meet -/

/-- R118, R120: updates at T_f 2,000 with Setpoint 250, Runaway Margin 1,600 and Cooler Limit 300: the runaway
alone, the soak timeout alone, and the details of each. -/
theorem test_witness_RunawayAndSoakTimeoutClearTheirCounts_update :
    let s := onSock 0 (fun x => setNum (fun n => { n with
      tempSetpoint := 250, runawayMargin := 1600, kp := 640, coolerLimit := 300 })
      (acting .log x)) hotVisit
    let cold := onSock 0 (fun x => { x with thermal := { x.thermal with soakMs := 59999 } }) s
    let slow := onSock 0 (fun x => { x with thermal := { x.thermal with runaway := 8 } }) s
    let y (t : State) : Socket := ((t.sock 0).takeRecord t.scu.config t.pxr.active 0
      (t.readRecord (scrBase 0) 64 0)).1
    let recs (c : Instr) (t : State) := ((after c t).sock 0).acct.staging.map fun f =>
      (f.subcode, f.dwell, f.details)
    let n := (y s).gate.shadow.num
    ((y s).acct.phase = .soaking ∧ (y s).sensor.tf = some 2000 ∧ (y s).sensor.st = .tracking ∧
      n.tempSetpoint + n.runawayMargin < 2000) ∧
    (9 ≤ (y cold).thermal.runaway ∧ (y cold).thermal.soakMs < n.soakLimit * 1000) ∧
    ((y slow).thermal.runaway < 9 ∧ n.soakLimit * 1000 ≤ (y slow).thermal.soakMs) ∧
    recs (.runaway 0 { thermal := .first }) cold = [(1, 0, [250, BitVec.ofInt 16 (-300)])] ∧
    recs (.soakTimeout 0 { thermal := .afterCredit }) slow =
      [(3, 0, [250, BitVec.ofInt 16 (-300)])] := by decide +kernel

/-- R162: the settle sample of socket 6 enters ON after a ramp-up or a slew, POWERING or held POWERING. -/
theorem test_witness_RailSamplesAreRecordedAndChecked_held :
    let s (slew : Bool) (p : Phase) (r : ResumePhase) : State := onSock 6 (fun x => { x with
      acct := { x.acct with phase := p, resume := r }
      rail := { x.rail with st := .settle, settleFromSlew := slew }
      sensor := { x.sensor with inWindowMs := 5 }, thermal := { x.thermal with soakMs := 5 } }) run
    let y (slew : Bool) (p : Phase) (r : ResumePhase) :=
      let z := (after (.railSample 6 400 0) (s slew p r)).sock 6
      (z.rail.st, z.acct.phase, z.acct.resume, z.sensor.inWindowMs, z.thermal.soakMs)
    y false .held .powering = (.on, .held, .soaking, 0, 0) ∧
    y true .held .powering = (.on, .held, .powering, 5, 5) ∧
    y false .held .stressing = (.on, .held, .stressing, 5, 5) ∧
    y false .powering .none = (.on, .soaking, .none, 0, 0) := by decide +kernel

/-- Socket 5 running a mode at a boundary with another pending, its lane 2 with a Delay of 6 in the incoming map and
a skip count of 4 on each lane. -/
def changing (m new : ExMode) (swap : Bool) : State :=
  let s := onSock 5 (fun x => acting .log { x with ex := { x.ex with
    mode := m, pendingMode := new, skip := Vector.replicate 16 4, frameTotal := 1 } })
    (boundary swap false)
  { s with pxr := { s.pxr with staging := LaneMap.reset.set 5 ((Vector.replicate 16
      LaneEntry.reset).set 2 ⟨.sense, .constant, false, .low, false, true, 6⟩) } }

/-- R136, R143, R145, R146: what a frame boundary leaves of the modes and the onset flag. -/
theorem test_witness_FrameBoundariesStartTheNextFrame_modes :
    let y (m new : ExMode) (swap : Bool) : ExState × ExMode × Bool :=
      let e := ((after .frameBoundary (changing m new swap)).sock 5).ex
      (e.st, e.mode, e.onsetArmed)
    ((changing .pattern .idle false).sock 5).ex.pendingMode ≠ .pattern ∧
    y .pattern .idle false = (.running, .idle, false) ∧
    y .pattern .pattern true = (.running, .pattern, false) ∧
    y .idle .pattern true = (.running, .pattern, true) ∧
    y .selftest .idle true = (.running, .idle, false) := by decide +kernel
/-- R143, R144: the frames run and the skip counts of lanes 2 and 3 after it. -/
theorem test_witness_FrameBoundariesStartTheNextFrame_skips :
    let y (m new : ExMode) (swap : Bool) : Nat × Nat × Nat :=
      let e := ((after .frameBoundary (changing m new swap)).sock 5).ex
      (e.framesRun, e.skip[(2 : LaneIx)], e.skip[(3 : LaneIx)])
    y .pattern .idle false = (1, 4, 4) ∧ y .pattern .pattern true = (1, 6, 4) ∧
    y .idle .pattern true = (0, 6, 0) ∧ y .idle .pattern false = (0, 0, 0) ∧
    y .selftest .idle true = (0, 6, 4) := by decide +kernel
/-- R133: a swap suspends a RUNNING socket whose roles do not fit it, whatever its mode in force. -/
theorem test_witness_FrameBoundariesStartTheNextFrame_unfit :
    let s (m : ExMode) : State := onSock 5 (fun x => { x with ex := { x.ex with
      st := .running, mode := m } }) unfit
    let st (m : ExMode) := ((after .frameBoundary (s m)).sock 5).ex.st
    rolesFit (s .pattern).pxr.staging 5 ((s .pattern).sock 5).gate.shadow.num = false ∧
    st .pattern = .suspended ∧ st .idle = .suspended ∧ st .selftest = .suspended := by decide +kernel

/-- R35: a Frame Length of 1,024 against windows that end above it, at it, and below it. -/
theorem test_witness_ConfigurationRevisionIsHandled_windows :
    let r := (boardRecord.set 3 1024).set 2 0x0FFF
    let s (start len : Nat) : State := onSock 5 (fun x => setNum (fun n => { n with
      winStart := start, winLength := len }) x) State.reset
    let w (start len : Nat) := let n := (((s start len).takeConfig r).sock 5).gate.shadow.num
      (n.winStart, n.winLength)
    ((s 0 1).takeConfig r).scu.config.frameLength = 1024 ∧ w 1000 25 = (1000, 24) ∧
    w 1000 24 = (1000, 24) ∧ w 1024 1 = (1023, 1) ∧ w 2000 2000 = (1023, 1) := by decide +kernel

/-- R59, R102: the counts of a LOST socket are cleared before its loss is taken. -/
theorem test_clear_lost_counts :
    let s := onSock 5 (fun x => { acting .log x with acct := { x.acct with
      dwellSec := 9, dwellMs := 8, oosSec := 7, oosMs := 6, lateCount := 5, detailLost := 4
      kindCount := Vector.replicate 8 3, firstFailDwell := 2, prevVisit := some 1 } }) lostSensor
    let a := ((after (.clearAccounts 1 0x20) s).sock 5).acct
    (a.dwellSec, a.dwellMs, a.oosSec, a.oosMs, a.lateCount) = (0, 0, 0, 0, 0) ∧
    (a.detailLost, a.firstFailDwell, a.prevVisit) = (0, 0, some 1) ∧
    a.kindCount[Kind.sensorLost.ix] = 1 ∧ a.kindCount[Kind.compare.ix] = 0 := by decide +kernel

/-- R101, R108: the output at the entry to LOST in the control phases and outside them. -/
theorem test_witness_SensorLossTakesTheLossValues_held :
    let lose (x : Socket) : Socket := setNum (fun n => { n with coolerLimit := 40 }) (acting .log
      { x with sensor := { x.sensor with invalidCount := 3 }, thermal := { x.thermal with u := 9 } })
    let u (s : State) : Int := ((after (.sensorLost 5 none) (onSock 5 lose s)).sock 5).thermal.u
    let full (s : State) : State := onSock 5 (fun x => { inState .complete .on x with
      gate := { x.gate with shadow := { x.gate.shadow with
        enable := true, endAction := .holdPowered } } }) s
    ((held.sock 5).acct.phase = .held ∧ held.brc.reason = .command ∧ cutHeld.brc.reason = .interlock ∧
      (full run).brc.state = .running ∧ (full lot).brc.state = .stopped) ∧
    u run = -40 ∧ u held = -40 ∧ u cutHeld = 0 ∧ u (full run) = -40 ∧ u (full held) = -40 ∧
    u (full lot) = 0 ∧ u (full cutHeld) = 0 := by decide +kernel

/-- R175: First Fail Dwell is set by the first record and stands at a later one. -/
theorem test_first_fail_dwell :
    let x (n : Nat) (f : Word32) : Socket := acting .log { inState .stressing .on Socket.reset with
      acct := { Account.reset with phase := .stressing, dwellSec := n, firstFailDwell := f } }
    let y (n : Nat) (f : Word32) := ((x n f).takeCondition (run.ctx 5) .compare 0 []).acct.firstFailDwell
    (x 70 0xFFFFFFFF).acct.phase.reporting = true ∧ y 70 0xFFFFFFFF = 70 ∧ y 70 60 = 60 := by
  decide +kernel

/-- R152: Done Timeout 5 ms after a pulse that ends at the moment of tick 20, and one that ends after it. -/
theorem test_witness_SelfTestCyclesPulseAndTimeOut_expiry :
    let e (k : Bool) := ((after (.startPulseEnd 5 0 0 k) (cycling .startPulse 3)).sock 5).ex.expiry
    ((cycling .startPulse 3).time.runMs = 20 ∧
      ((cycling .startPulse 3).sock 5).ex.latched.map CycleSettings.doneTimeout = some 5) ∧
    e true = some 25 ∧ e false = some 26 := by decide +kernel

/-- The last record of a visit moved, socket 30 to go on with its Socket Status Record. -/
def lastMove : State :=
  { moving (.failWrite 30 1 (List.replicate 16 7)) (.socket 30 1 false) State.reset with
    mem := [(0x2800, withParity 5)] }

/-- R12, R13, the Example of section 1.3: a host read is served on the free port before the next transfer, and one
still in progress has that transfer wait. -/
theorem test_witness_WriteTransfersStoreTheirRecord_gap :
    let read : List VisitEvent := [.hostMemoryRead 0x2800]
    let p (g : List VisitEvent) := let t := after (.failRecordWriteComplete g) lastMove
      (t.smc.owner, t.smc.lastGranted, t.smc.transfer.isSome, t.smc.scanWaiting.isSome, t.smc.rdy)
    (lastMove.pins.por = false ∧ lastMove.smc.owner = .scan ∧ lastMove.smc.transfer =
      some (.failWrite 30 1 (List.replicate 16 7))) ∧
    p [] = (.scan, .scan, true, false, false) ∧
    p (read ++ [.hostAccessComplete]) = (.scan, .scan, true, false, true) ∧
    p (read ++ [.hostAccessComplete, .hostStrobeRelease]) = (.scan, .scan, true, false, false) ∧
    p read = (.host, .host, false, true, false) := by decide +kernel
/-- R13: what the host stores in the gap the next SCR read finds; a row with such a gap writes memory. -/
theorem test_gap_stores :
    let gap : List VisitEvent :=
      [.hostMemoryWrite 0x2D00 5, .hostAccessComplete, .hostStrobeRelease]
    let t := after (.bsrWriteComplete gap)
      (moving (.bsrWrite (List.replicate 128 0)) .header State.reset)
    t.readWord 0x2D00 = withParity 5 ∧ t.smc.transfer = some (.scrRead 0) ∧
    writesMemory (.bcrReadComplete 0 gap) = true ∧ writesMemory (.bcrReadComplete 0) = false := by
  decide +kernel

end Sys2Proof.Tests
end

section
/-! How the host's memory cycles begin (sections 1.2 and 1.3), and the statement about them. -/

namespace Sys2Proof.Machine

/-! ## Events on a released part, and the free host port -/

/-- With POR_N released an event acts (R22). -/
theorem State.live_of_released (s : State) (f : State → State) (released : s.pins.por = false) :
    s.live f = f s := by
  simp [State.live, released]

/-- The host port is free exactly while no cycle is in progress (R5). -/
@[simp] theorem State.portFree_iff (s : State) : s.portFree = true ↔ s.smc.cycle = none := by
  simp [State.portFree]

/-- A host event that comes without a sweep start acts alone. -/
@[simp] theorem State.arriving_alone (s : State) (f : State → State) :
    s.arriving false f = f s := by
  simp [State.arriving]

/-- A HOST_MEMORY_READ on a released part is the begin of a read cycle. -/
theorem exec_hostMemoryRead (s : State) (req : HostRequest) (released : s.pins.por = false) :
    exec (.hostMemoryRead req) s = .next (s.hostRead req) :=
  congrArg Host.Outcome.next (s.live_of_released _ released)

/-- A HOST_MEMORY_WRITE on a released part is the begin of a write cycle. -/
theorem exec_hostMemoryWrite (s : State) (req : HostRequest) (data : Word)
    (released : s.pins.por = false) :
    exec (.hostMemoryWrite req data) s = .next (s.hostWrite req data) :=
  congrArg Host.Outcome.next (s.live_of_released _ released)

/-! ## The begin of an access (R7, R8, R12) -/

/-- The Shared Memory Controller with a memory cycle begun and its word access not yet asked for: the strobe
held, RDY deasserted. -/
def Smc.beginCycle (m : Smc) (kind : CycleKind) : Smc :=
  { m with cycle := some ⟨kind, true, false⟩, rdy := false }

/-- A memory cycle that needs the port begins, and asks the arbiter for its word. -/
theorem State.beginAccess_eq (s : State) (kind : CycleKind) :
    s.beginAccess kind = { s with smc := (s.smc.beginCycle kind).requestHost } := rfl

/-- A memory cycle that finds the memory port free is granted it. -/
theorem State.beginAccess_free (s : State) (kind : CycleKind) (free : s.smc.owner = .none) :
    s.beginAccess kind = { s with smc := (s.smc.beginCycle kind).grantHost } := by
  rw [State.beginAccess_eq, Smc.requestHost_free (s.smc.beginCycle kind) free]

/-- A memory cycle that finds the memory port owned waits for it. -/
theorem State.beginAccess_busy (s : State) (kind : CycleKind) (owned : s.smc.owner ≠ .none) :
    s.beginAccess kind = { s with smc := { s.smc.beginCycle kind with hostWaiting := true } } := by
  rw [State.beginAccess_eq, Smc.requestHost_busy (s.smc.beginCycle kind) owned]

/-! ## Read and write cycles at a free host port -/

/-- A read cycle asks for its word (R7). -/
theorem State.hostRead_begins (s : State) (addr : Word) (noCycle : s.smc.cycle = none) :
    s.hostRead ⟨addr, false⟩ = s.beginAccess (.memoryRead addr) := by
  simp [State.hostRead, noCycle]

/-- A write cycle outside the part-written regions asks for its word (R8). -/
theorem State.hostWrite_begins (s : State) (addr data : Word) (noCycle : s.smc.cycle = none)
    (hostArea : partWritten addr.toNat = false) :
    s.hostWrite ⟨addr, false⟩ data = s.beginAccess (.memoryWrite addr data) := by
  simp [State.hostWrite, noCycle, hostArea]

/-- A write cycle into a part-written region completes at once with its fault (R9, R21). -/
theorem State.hostWrite_dropped (s : State) (addr data : Word) (noCycle : s.smc.cycle = none)
    (partArea : partWritten addr.toNat = true) :
    s.hostWrite ⟨addr, false⟩ data =
      (s.hostFault .writeProtect addr .writeProtect).cycleDone (.memoryWrite addr data) none := by
  simp [State.hostWrite, noCycle, partArea]

/-- Settles O13, by the branches of the two commands: the owner of the memory port decides between grant
and wait, the region of the address whether a write asks at all. -/
theorem memoryCyclesAskForTheirWord : Obligations.MemoryCyclesAskForTheirWord := by
  unfold Obligations.MemoryCyclesAskForTheirWord
  intro s addr data released noCycle
  refine ⟨fun free => ⟨?_, fun hostArea => ?_⟩, fun owned => ⟨?_, fun hostArea => ?_⟩,
    fun partArea => ?_⟩
  · rw [exec_hostMemoryRead s _ released, s.hostRead_begins _ noCycle, s.beginAccess_free _ free]
    rfl
  · rw [exec_hostMemoryWrite s _ _ released, s.hostWrite_begins _ _ noCycle hostArea,
      s.beginAccess_free _ free]
    rfl
  · rw [exec_hostMemoryRead s _ released, s.hostRead_begins _ noCycle, s.beginAccess_busy _ owned]
    rfl
  · rw [exec_hostMemoryWrite s _ _ released, s.hostWrite_begins _ _ noCycle hostArea,
      s.beginAccess_busy _ owned]
    rfl
  · rw [exec_hostMemoryWrite s _ _ released, s.hostWrite_dropped _ _ noCycle partArea]
    rfl

end Sys2Proof.Machine
end

section
/-! What a condition does to its socket's counts, records and strikes, how it retires the socket (sections 11.2
to 11.6), and the statement about it. -/

namespace Sys2Proof.Machine

/-! ## The action in force (R176) -/

/-- An ABS_LIMIT condition is a forced retirement. -/
theorem Settings.actionFor_absLimit (st : Settings) : st.actionFor .thermal subAbsLimit = .retire := by
  simp [Settings.actionFor]

/-- Every other condition has the socket's Kind Action. -/
theorem Settings.actionFor_kindAction (st : Settings) (k : Kind) (sub : Nat)
    (other : k ≠ .thermal ∨ sub ≠ subAbsLimit) : st.actionFor k sub = st.kindActions[k.ix] := by
  have notForced : ¬(k = .thermal ∧ sub = subAbsLimit) :=
    fun ⟨thermal, absLimit⟩ => other.elim (· thermal) (· absLimit)
  simp [Settings.actionFor, notForced]

/-! ## What a takedown and the end of stress leave -/

/-- A takedown orders a rail that is up to ramp down (R81). -/
theorem Rail.takedown_checked (r : Rail) (up : r.st.checked = true) : r.takedown.st = .rampDown := by
  cases e : r.st <;> simp_all [Rail.takedown, RailState.checked]

/-- A takedown puts a rail that waits for its power-up in OFF (R81). -/
theorem Rail.takedown_waiting (r : Rail) (waits : r.st = .chainWait ∨ r.st = .holdOff) :
    r.takedown.st = .off := by
  rcases waits with e | e <;> simp [Rail.takedown, e]

/-- A retirement out of STRESSING stops a running exercise (R134). -/
theorem Exercise.followPhase_retired_stops (e : Exercise) (runs : e.st = .running) :
    (e.followPhase .stressing .retired).st = .stopped := by
  simp [Exercise.followPhase, Exercise.halt, runs]

/-! ## Strikes and retirements keep what was counted and recorded -/

/-- Two accounts with the same Kind Counts and the same record keeping (R175, steps 1, 4 and 5). -/
structure Account.SameRecords (a b : Account) : Prop where
  kindCount : b.kindCount = a.kindCount
  failTotal : b.failTotal = a.failTotal
  firstFailDwell : b.firstFailDwell = a.firstFailDwell
  staging : b.staging = a.staging
  detailLost : b.detailLost = a.detailLost

theorem Account.SameRecords.refl (a : Account) : a.SameRecords a := ⟨rfl, rfl, rfl, rfl, rfl⟩

@[simp] theorem Socket.retire_firstFailDwell (x : Socket) (k : RetireKind) :
    (x.retire k).acct.firstFailDwell = x.acct.firstFailDwell := by
  simp [Socket.retire, Socket.setRail, Socket.changePhase, Socket.setEx]

theorem Socket.retire_sameRecords (x : Socket) (k : RetireKind) :
    x.acct.SameRecords (x.retire k).acct := by
  constructor <;> simp

theorem Socket.strike_sameRecords (x : Socket) (k : Kind) :
    x.acct.SameRecords (x.strike k).acct := by
  rcases Nat.lt_or_ge (x.acct.strikes + 1) x.gate.shadow.num.strikeLimit with below | limit
  · rw [x.strike_below k below]
    exact ⟨rfl, rfl, rfl, rfl, rfl⟩
  · rw [x.strike_limit k limit]
    constructor <;> simp

/-- A strike is counted, whether it retires or not (R180). -/
@[simp] theorem Socket.strike_strikes (x : Socket) (k : Kind) :
    (x.strike k).acct.strikes = x.acct.strikes + 1 := by
  rcases Nat.lt_or_ge (x.acct.strikes + 1) x.gate.shadow.num.strikeLimit with below | limit
  · rw [x.strike_below k below]
  · rw [x.strike_limit k limit, Socket.retire_strikes]

/-- A record sets First Fail Dwell where it is the first (R175, step 4). -/
@[simp] theorem Socket.record_firstFailDwell (x : Socket) (c : Ctx) (k : Kind) (sub : Nat)
    (d : List Word) : (x.record c k sub d).acct.firstFailDwell =
      if x.acct.firstFailDwell = 0xFFFFFFFF then BitVec.ofNat 32 x.acct.dwellSec
      else x.acct.firstFailDwell := by
  simp only [Socket.record, Account.stage]
  split <;> rfl

/-! ## The four actions on a condition of a reporting phase (R175) -/

section
variable (c : Ctx) (k : Kind) (sub : Nat) (d : List Word) (x : Socket)

/-- The socket after step 1: the condition's Kind Count. -/
def Socket.counted (k : Kind) (x : Socket) : Socket := { x with acct := x.acct.countKind k }

/-- The socket after steps 1, 4 and 5: the condition counted and recorded. -/
def Socket.recorded (c : Ctx) (k : Kind) (sub : Nat) (d : List Word) (x : Socket) : Socket :=
  (x.counted k).record c k sub d

@[simp] theorem Socket.recorded_gate : (x.recorded c k sub d).gate = x.gate := rfl
@[simp] theorem Socket.recorded_rail : (x.recorded c k sub d).rail = x.rail := rfl
@[simp] theorem Socket.recorded_thermal : (x.recorded c k sub d).thermal = x.thermal := rfl
@[simp] theorem Socket.recorded_ex : (x.recorded c k sub d).ex = x.ex := rfl
@[simp] theorem Socket.recorded_phase : (x.recorded c k sub d).acct.phase = x.acct.phase :=
  Socket.record_phase c k sub d _
@[simp] theorem Socket.recorded_strikes : (x.recorded c k sub d).acct.strikes = x.acct.strikes :=
  Socket.record_strikes c k sub d _
@[simp] theorem Socket.recorded_kindCount :
    (x.recorded c k sub d).acct.kindCount = (x.acct.countKind k).kindCount :=
  Socket.record_kindCount c k sub d _

variable (reports : x.acct.phase.reporting = true)
include reports

theorem Socket.takeCondition_ignore (act : x.gate.shadow.actionFor k sub = .ignore) :
    x.takeCondition c k sub d = x.counted k := by
  simpa [act, Socket.counted] using x.takeCondition_taken c k sub d reports

theorem Socket.takeCondition_log (act : x.gate.shadow.actionFor k sub = .log) :
    x.takeCondition c k sub d = x.recorded c k sub d := by
  simpa [act, Socket.recorded, Socket.counted] using x.takeCondition_taken c k sub d reports

theorem Socket.takeCondition_strike (act : x.gate.shadow.actionFor k sub = .strike) :
    x.takeCondition c k sub d = (x.recorded c k sub d).strike k := by
  simpa [act, Socket.recorded, Socket.counted] using x.takeCondition_taken c k sub d reports

theorem Socket.takeCondition_retire (act : x.gate.shadow.actionFor k sub = .retire) :
    x.takeCondition c k sub d = (x.recorded c k sub d).retire (.kind k) := by
  simpa [act, Socket.recorded, Socket.counted] using x.takeCondition_taken c k sub d reports

/-- LOG, STRIKE and RETIRE agree on the records: what comes after step 5 leaves them. -/
theorem Socket.takeCondition_sameRecords (act : x.gate.shadow.actionFor k sub ≠ .ignore) :
    (x.recorded c k sub d).acct.SameRecords (x.takeCondition c k sub d).acct := by
  cases e : x.gate.shadow.actionFor k sub with
  | ignore => exact absurd e act
  | log => rw [x.takeCondition_log c k sub d reports e]; exact .refl _
  | strike => rw [x.takeCondition_strike c k sub d reports e]; exact Socket.strike_sameRecords _ k
  | retire => rw [x.takeCondition_retire c k sub d reports e]; exact Socket.retire_sameRecords _ _

/-- Every action counts the kind, and no other. -/
theorem Socket.takeCondition_kindCount :
    (x.takeCondition c k sub d).acct.kindCount = (x.acct.countKind k).kindCount := by
  by_cases act : x.gate.shadow.actionFor k sub = .ignore
  · rw [x.takeCondition_ignore c k sub d reports act]
    rfl
  · rw [(x.takeCondition_sameRecords c k sub d reports act).kindCount, Socket.recorded_kindCount]

/-- IGNORE and LOG leave the phase, the rail, the thermal control, the exercise and the strikes. -/
theorem Socket.takeCondition_passive (act : x.gate.shadow.actionFor k sub = .ignore ∨
    x.gate.shadow.actionFor k sub = .log) :
    let y := x.takeCondition c k sub d
    y.acct.phase = x.acct.phase ∧ y.rail = x.rail ∧ y.thermal = x.thermal ∧ y.ex = x.ex ∧
      y.acct.strikes = x.acct.strikes := by
  rcases act with act | act
  · rw [x.takeCondition_ignore c k sub d reports act]
    exact ⟨rfl, rfl, rfl, rfl, rfl⟩
  · rw [x.takeCondition_log c k sub d reports act]
    simp

/-- A strike below the limit leaves the phase and the rail. -/
theorem Socket.takeCondition_strike_below (act : x.gate.shadow.actionFor k sub = .strike)
    (below : x.acct.strikes + 1 < x.gate.shadow.num.strikeLimit) :
    (x.takeCondition c k sub d).acct.phase = x.acct.phase ∧
      (x.takeCondition c k sub d).rail = x.rail := by
  rw [x.takeCondition_strike c k sub d reports act, Socket.strike_below k _ (by simpa using below)]
  simp

/-- RETIRE, and STRIKE at the limit, retire a socket whose phase, rail and exercise stand as they were. -/
theorem Socket.takeCondition_ends (act : x.gate.shadow.actionFor k sub = .retire ∨
    (x.gate.shadow.actionFor k sub = .strike ∧
      x.gate.shadow.num.strikeLimit ≤ x.acct.strikes + 1)) :
    ∃ z : Socket, x.takeCondition c k sub d = z.retire (.kind k) ∧
      z.acct.phase = x.acct.phase ∧ z.rail = x.rail ∧ z.ex = x.ex := by
  rcases act with act | ⟨act, limit⟩
  · exact ⟨_, x.takeCondition_retire c k sub d reports act, by simp⟩
  · rw [x.takeCondition_strike c k sub d reports act, Socket.strike_limit k _ (by simpa using limit)]
    exact ⟨_, rfl, by simp⟩

end

/-- Settles O60, clause by clause along the steps of R175: the action in force, the Kind Count, the record
that LOG, STRIKE and RETIRE share, the strike, and the retirement. -/
theorem conditionsAreAccounted : Obligations.ConditionsAreAccounted := by
  unfold Obligations.ConditionsAreAccounted
  intro c k sub d x
  refine ⟨?absLimit, Settings.actionFor_kindAction _ k sub, x.takeCondition_dropped c k sub d,
    fun reports => ⟨?count, ?otherCounts, ?ignore, fun act => ?record,
      x.takeCondition_passive c k sub d reports, fun act => ⟨?strike,
        x.takeCondition_strike_below c k sub d reports act⟩, fun act => ?ends⟩⟩
  case absLimit =>
    rintro rfl rfl
    have act := Settings.actionFor_absLimit x.gate.shadow
    refine ⟨act, fun reports => ?_⟩
    rw [x.takeCondition_retire c .thermal 2 d reports act]
    exact ⟨rfl, rfl⟩
  case count =>
    rw [x.takeCondition_kindCount c k sub d reports]
    exact x.acct.countKind_same k
  case otherCounts =>
    intro o other
    rw [x.takeCondition_kindCount c k sub d reports]
    exact x.acct.countKind_other k o other
  case ignore =>
    intro act
    rw [x.takeCondition_ignore c k sub d reports act]
    rfl
  case record =>
    obtain ⟨-, failTotal, firstFailDwell, staging, detailLost⟩ :=
      x.takeCondition_sameRecords c k sub d reports act
    rw [failTotal, firstFailDwell, staging, detailLost]
    refine ⟨Socket.record_failTotal c k sub d _, Socket.record_firstFailDwell _ c k sub d,
      fun room => ?_, (x.counted k).record_lost c k sub d⟩
    obtain ⟨staged, notLost⟩ := (x.counted k).record_staged c k sub d room
    exact ⟨notLost, _, staged, rfl, rfl, rfl, rfl, rfl, rfl, rfl, rfl, rfl, rfl⟩
  case strike =>
    rw [x.takeCondition_strike c k sub d reports act, Socket.strike_strikes,
      Socket.recorded_strikes]
  case ends =>
    obtain ⟨z, retires, phase, rail, ex⟩ := x.takeCondition_ends c k sub d reports act
    rw [retires, Socket.retire_rail, Socket.retire_ex, Socket.retire_thermal, phase, rail, ex]
    refine ⟨rfl, rfl, rfl, rfl, rfl, rfl, rfl, x.rail.takedown_checked, x.rail.takedown_waiting,
      fun runs stressing => ?_⟩
    rw [stressing]
    exact x.ex.followPhase_retired_stops runs

end Sys2Proof.Machine
end

section
/-! What a command can do, said once, and the queue and the memory under every command (sections 1.1 and 1.4). -/

namespace Sys2Proof.Machine

/-! ## What a command does -/

/-- One event of the part's own blocks or of the host port: all that a command can be but the hand-over of a board
command, a reset or the end of a transfer, and all that falls in a gap between two transfers. -/
inductive State.Event : State → State → Prop
  | senseTick (s : State) : Event s s.senseTick
  | railSample (s : State) (i : SocketIx) (o : CheckOrder) (v a : Word) : Event s (s.railSample i o v a)
  | fastTrip (s : State) (i : SocketIx) (level : Bool) : Event s (s.fastTrip i level)
  | chainStart (s : State) (b : BankIx) : Event s (s.chainStart b)
  | socketExpiry (s : State) (i : SocketIx) : Event s (s.socketExpiry i)
  | feedSample (s : State) (b : BankIx) (c : Word32) : Event s (s.feedSample b c)
  | bankExpiry (s : State) (b : BankIx) : Event s (s.bankExpiry b)
  | sensorSample (s : State) (i : SocketIx) (code : Option Word) : Event s (s.sensorSample i code)
  | periodStart (s : State) : Event s s.periodStart
  | pwmTick (s : State) : Event s s.pwmTick
  | frameBoundary (s : State) : Event s s.frameBoundary
  | laneVector (s : State) (r l : LaneBits) (onTick : Bool) : Event s (s.laneVector r l onTick)
  | selftestExpiry (s : State) (i : SocketIx) : Event s (s.selftestExpiry i)
  | interlockAssert (s : State) : Event s s.interlockAssert
  | interlockRelease (s : State) : Event s s.interlockRelease
  | hostRead (s : State) (req : HostRequest) : Event s (s.hostRead req)
  | hostWrite (s : State) (req : HostRequest) (data : Word) : Event s (s.hostWrite req data)
  | noAccess (s : State) (n : NoAccessStrobe) : Event s (s.noAccess n)
  | accessDone (s : State) : Event s s.accessDone
  | strobeRelease (s : State) : Event s s.strobeRelease
  | registerWrite (s : State) (addr data : Word)
      (noReset : (addr.extractLsb' 0 4).toNat ≠ 0 ∨ data.getLsbD 1 = false) :
      Event s (s.registerWrite addr data)
  | sweepStart (s : State) : Event s s.sweepStart

/-- What a command does, said once for every command: nothing, one event, the hand-over of a board command, a
reset, or the end of a transfer. Of a reset and of CLEAR_ACCOUNTS it says that the command is listed as clearing
Dwell, of the end of an SCR read that the command is listed as ending one. -/
inductive State.Does : State → Instr → State → Prop
  | idle (s : State) (c : Instr) : Does s c s
  | event {s t : State} {c : Instr} (e : s.Event t) : Does s c t
  | handOff (s : State) {c : Instr} (k : Command) (clears : k.code = some .clearAccounts → clearsDwell c = true) :
      Does s c (s.handOff k)
  | softReset (s : State) {c : Instr} (clears : clearsDwell c = true) :
      Does s c (s.softReset.cycleDone .registerWrite none)
  | powerOnReset (s : State) : Does s .powerOnReset s.powerOnReset
  | porRelease (s : State) : Does s .porRelease s.porRelease
  | bcrDone (s : State) (u : BitVec 3) (gap : List VisitEvent) :
      Does s (.bcrReadComplete u gap) (s.bcrDone u gap)
  | bsrDone (s : State) (c : Instr) (gap : List VisitEvent) : Does s c (s.bsrDone gap)
  | scrDone (s : State) {c : Instr} (u : BitVec 3) (o : VisitOrder) (visit : endsVisitRead c = true) :
      Does s c (s.scrDone u o)
  | failDone (s : State) (c : Instr) (gap : List VisitEvent) : Does s c (s.failDone gap)
  | ssrDone (s : State) (c : Instr) (gap : List VisitEvent) : Does s c (s.ssrDone gap)
  | chunkDone (s : State) (c : Instr) (u : BitVec 3) (gap : List VisitEvent) : Does s c (s.chunkDone u gap)

/-- An event that acts only with POR_N released. -/
theorem State.live_does {s : State} {c : Instr} {f : State → State} (h : s.Does c (f s)) :
    s.Does c (s.live f) := by
  unfold State.live
  split
  · exact .idle s c
  · exact h

/-- A row that acts only where it has its outcome. -/
theorem State.does_ite {s t : State} {c : Instr} {p : Prop} [Decidable p] (h : s.Does c t) :
    s.Does c (if p then t else s) := by
  split
  · exact h
  · exact .idle s c

/-- A register write is an event, or the soft reset with its cycle completed. -/
theorem State.registerWrite_does (s : State) (addr data : Word) {c : Instr} (clears : clearsDwell c = true) :
    s.Does c (s.live fun t => t.registerWrite addr data) := by
  refine State.live_does ?_
  by_cases noReset : (addr.extractLsb' 0 4).toNat ≠ 0 ∨ data.getLsbD 1 = false
  · exact .event (.registerWrite s addr data noReset)
  · obtain ⟨control, reset⟩ := not_or.mp noReset
    have resets : s.writeRegister addr data = s.softReset := by
      simp_all [State.writeRegister, State.writeControl]
    unfold State.registerWrite
    rw [resets]
    split
    · exact .softReset s clears
    · exact .idle s c

/-- A board command's row hands its command over. -/
theorem State.handOff_does (s : State) (k : Command) {c : Instr}
    (clears : k.code = some .clearAccounts → clearsDwell c = true) :
    s.Does c (s.live fun t => t.handOff k) := State.live_does (.handOff s k clears)

/-- Every command does one of the things that `State.Does` lists. -/
theorem exec_does (c : Instr) (s t : State) (h : exec c s = .next t) : s.Does c t := by
  cases c <;> cases h
  case hostMemoryRead req => exact State.live_does (.event (.hostRead s req))
  case hostMemoryWrite req data => exact State.live_does (.event (.hostWrite s req data))
  case hostCycleWithoutAccess n => exact State.live_does (.event (.noAccess s n))
  case hostStrobeRelease => exact State.live_does (.event (.strobeRelease s))
  case hostAccessComplete => exact State.live_does (.event (.accessDone s))
  case scanEnableSet addr data => exact s.registerWrite_does addr data rfl
  case scanDisable addr data => exact s.registerWrite_does addr data rfl
  case softReset addr data => exact s.registerWrite_does addr data rfl
  case attentionWrite addr data => exact s.registerWrite_does addr data rfl
  case attentionMaskWrite addr data => exact s.registerWrite_does addr data rfl
  case registerWriteIgnored addr data => exact s.registerWrite_does addr data rfl
  case powerOnReset => exact State.live_does (.powerOnReset s)
  case porRelease => exact State.does_ite (.porRelease s)
  case sweepStart => exact State.live_does (.event (.sweepStart s))
  case bcrReadComplete u gap => exact State.live_does (.bcrDone s u gap)
  case startRun => exact s.handOff_does _ nofun
  case hold => exact s.handOff_does _ nofun
  case resume => exact s.handOff_does _ nofun
  case stopRun => exact s.handOff_does _ nofun
  case loadLaneMap => exact s.handOff_does _ nofun
  case fillLaneMap => exact s.handOff_does _ nofun
  case clearAccounts => exact s.handOff_does _ fun _ => rfl
  case diagnose => exact s.handOff_does _ nofun
  case scrReadComplete u o => exact State.live_does (.scrDone s u o rfl)
  case runaway u o => exact State.live_does (State.does_ite (.scrDone s u o rfl))
  case soakTimeout u o => exact State.live_does (State.does_ite (.scrDone s u o rfl))
  case failRecordWriteComplete gap => exact State.live_does (.failDone s _ gap)
  case ssrWriteComplete gap => exact State.live_does (.ssrDone s _ gap)
  case bsrWriteComplete gap => exact State.live_does (.bsrDone s _ gap)
  case laneMapChunkReadComplete u gap => exact State.live_does (.chunkDone s _ u gap)
  case senseTick => exact State.live_does (.event (.senseTick s))
  case railSample i v a => exact State.live_does (.event (.railSample s i _ v a))
  case settleTimeout i v a => exact State.live_does (State.does_ite (.event (.railSample s i _ v a)))
  case dropout i v a => exact State.live_does (State.does_ite (.event (.railSample s i _ v a)))
  case openContact i v a => exact State.live_does (State.does_ite (.event (.railSample s i _ v a)))
  case fastTrip i level => exact .event (.fastTrip s i level)
  case chainStart b => exact State.live_does (.event (.chainStart s b))
  case socketHoldOffExpiry i => exact State.live_does (.event (.socketExpiry s i))
  case bankFeedSample b c => exact State.live_does (.event (.feedSample s b c))
  case bankHoldOffExpiry b => exact State.live_does (.event (.bankExpiry s b))
  case sensorSample i code => exact State.live_does (.event (.sensorSample s i code))
  case sensorLost i code => exact State.live_does (State.does_ite (.event (.sensorSample s i code)))
  case pwmPeriodStart => exact State.live_does (State.does_ite (.event (.periodStart s)))
  case frameBoundary => exact State.live_does (.event (.frameBoundary s))
  case laneVectorSample r l k => exact State.live_does (.event (.laneVector s r l k))
  case startPulseBegin i r l k => exact State.live_does (State.does_ite (.event (.laneVector s r l k)))
  case startPulseEnd i r l k => exact State.live_does (State.does_ite (.event (.laneVector s r l k)))
  case selftestTimeout i => exact State.live_does (.event (.selftestExpiry s i))
  case interlockAssert => exact .event (.interlockAssert s)
  case interlockRelease => exact .event (.interlockRelease s)
  case pwmTick => exact State.live_does (.event (.pwmTick s))

/-- Every event of a gap is an event of `State.Event`, or has no outcome. -/
theorem State.visitEvent_event (s : State) (e : VisitEvent) :
    s.visitEvent e = s ∨ s.Event (s.visitEvent e) := by
  have whereItActs {p : Prop} [Decidable p] {t : State} (h : s.Event t) :
      (if p then t else s) = s ∨ s.Event (if p then t else s) := by
    split
    · exact .inr h
    · exact .inl rfl
  cases e
  case senseTick => exact .inr (.senseTick s)
  case railSample i v a => exact .inr (.railSample s i _ v a)
  case dropout i v a => exact whereItActs (.railSample s i _ v a)
  case openContact i v a => exact whereItActs (.railSample s i _ v a)
  case fastTrip i level => exact .inr (.fastTrip s i level)
  case chainStart b => exact .inr (.chainStart s b)
  case socketHoldOffExpiry i => exact .inr (.socketExpiry s i)
  case bankFeedSample b c => exact .inr (.feedSample s b c)
  case bankHoldOffExpiry b => exact .inr (.bankExpiry s b)
  case sensorSample i code => exact .inr (.sensorSample s i code)
  case pwmTick => exact .inr (.pwmTick s)
  case frameBoundary => exact .inr (.frameBoundary s)
  case laneVectorSample r l k => exact .inr (.laneVector s r l k)
  case selftestTimeout i => exact .inr (.selftestExpiry s i)
  case interlockAssert => exact .inr (.interlockAssert s)
  case interlockRelease => exact .inr (.interlockRelease s)
  case hostMemoryRead addr => exact .inr (.hostRead s _)
  case hostMemoryWrite addr data => exact .inr (.hostWrite s _ data)
  case hostCycleWithoutAccess n => exact .inr (.noAccess s n)
  case hostAccessComplete => exact .inr (.accessDone s)
  case hostStrobeRelease => exact .inr (.strobeRelease s)
  case attentionWrite data => exact .inr (.registerWrite s 2 data (.inl (by decide)))
  case attentionMaskWrite data => exact .inr (.registerWrite s 3 data (.inl (by decide)))
  case registerWriteIgnored => exact .inr (.registerWrite s 1 0 (.inl (by decide)))
  case scanDisable => exact .inr (.registerWrite s 0 0 (.inr (by decide)))
  case scanEnable => exact .inr (.registerWrite s 0 1 (.inr (by decide)))
  case sweepStart => exact .inr (.sweepStart s)

/-- What every event keeps, the events of a gap keep. -/
theorem State.visitEvents_keep {P : State → Prop} (kept : ∀ {s t : State}, s.Event t → P s → P t)
    (s : State) (es : List VisitEvent) (h : P s) : P (s.visitEvents es) := by
  induction es generalizing s with
  | nil => exact h
  | cons e es ih =>
    refine ih (s.visitEvent e) ?_
    rcases s.visitEvent_event e with same | event
    · exact same.symm ▸ h
    · exact kept event h

/-- A step keeps what every command keeps and what does not read the queue. -/
theorem step_keeps {P : State → Prop} (unqueued : ∀ (s : State) (q : List Instr), P s → P { s with pending := q })
    (kept : ∀ {s t : State} {c : Instr}, s.Does c t → P s → P t) (s t : State) (h : P s) (stepped : step s = .next t) :
    P t := by
  unfold step at stepped
  split at stepped
  · cases stepped
    exact h
  · exact kept (exec_does _ _ _ stepped) (unqueued _ _ h)

/-! ## The queue -/

theorem State.Event.pending {s t : State} (e : s.Event t) : t.pending = s.pending := by
  cases e <;> simp

theorem State.Does.pending {s t : State} {c : Instr} (d : s.Does c t) : t.pending = s.pending := by
  cases d with
  | event e => exact e.pending
  | _ => simp

/-- Settles O2: whatever a command does, the queue stands. -/
theorem commandsKeepTheQueue : Obligations.CommandsKeepTheQueue :=
  fun c s t h => (exec_does c s t h).pending

/-- Settles O1, by the recursion of `step` on the queue. -/
theorem stepRunsTheFrontCommand : Obligations.StepRunsTheFrontCommand := by
  intro c rest s front
  simp [step, front]

/-! ## The memory's canonical form (log entry 13) -/

/-- A soft reset writes at most the words of the transfer it abandons. -/
theorem State.memOk_softReset (s : State) (h : s.memOk) : s.softReset.memOk := by
  simpa [State.memOk, State.softReset] using s.memOk_abandonTransfer h

/-- An event writes no word but the host's. -/
theorem State.Event.memOk {s t : State} (e : s.Event t) (h : s.memOk) : t.memOk := by
  cases e with
  | accessDone => exact s.memOk_accessDone h
  | registerWrite addr data noReset => simpa [State.memOk, s.registerWrite_mem addr data noReset] using h
  | _ => simpa [State.memOk] using h

/-- What every event and every work of a visit keeps, the visit keeps, whatever its order. -/
theorem State.visitSocket_keeps {P : State → Prop} (i : SocketIx)
    (kept : ∀ {s t : State}, s.Event t → P s → P t)
    (taken : ∀ (s : State) (rec : Option (List Word)), P s → P (s.takeRecord i rec).1)
    (thermal : ∀ s : State, P s → P (s.thermalWork i))
    (account : ∀ (s : State) (a : Option Bool) (w : AccountWork), P s → P (s.accountWork i a w))
    (s : State) (rec : Option (List Word)) (o : VisitOrder) (h : P s) : P (s.visitSocket i rec o) := by
  have gap (t : State) (es : List VisitEvent) (p : P t) : P (t.visitEvents es) :=
    t.visitEvents_keep kept es p
  have work (t : State) (a : Option Bool) (w : AccountWork) (es : List VisitEvent) (p : P t) :
      P (t.workThen i a w es) := gap _ es (account t a w p)
  have start := gap _ o.gap0 (taken s rec h)
  unfold State.visitSocket State.atThermal State.beforeThermal State.afterThermal
  dsimp only
  cases o.thermal with
  | first => exact work _ _ _ _ (work _ _ _ _ (work _ _ _ _ (gap _ _ (thermal _ start))))
  | afterCredit => exact work _ _ _ _ (work _ _ _ _ (gap _ _ (thermal _ (work _ _ _ _ start))))
  | afterDecide =>
    exact work _ _ _ _ (gap _ _ (thermal _ (work _ _ _ _ (work _ _ _ _ start))))
  | last =>
    exact gap _ _ (thermal _ (work _ _ _ _ (work _ _ _ _ (work _ _ _ _ start))))

theorem State.memOk_of_mem {s t : State} (same : t.mem = s.mem) (h : s.memOk) : t.memOk := by
  simpa [State.memOk, same] using h

theorem State.memOk_visitSocket (s : State) (i : SocketIx) (rec : Option (List Word)) (o : VisitOrder)
    (h : s.memOk) : (s.visitSocket i rec o).memOk :=
  State.visitSocket_keeps i (fun e => e.memOk) (fun s rec => State.memOk_of_mem (s.takeRecord_mem i rec))
    (fun s => State.memOk_of_mem (s.thermalWork_mem i))
    (fun s a w => State.memOk_of_mem (s.accountWork_mem i a w)) s rec o h

theorem State.memOk_endSweep (s : State) (gap : List VisitEvent) (h : s.memOk) :
    (s.endSweep gap).memOk := by
  unfold State.endSweep
  split <;> exact State.memOk_visitEvents _ gap (State.memOk_of_mem (by simp) h)

theorem State.memOk_nextVisit (s : State) (i : SocketIx) (gap : List VisitEvent) (h : s.memOk) :
    (s.nextVisit i gap).memOk := by
  unfold State.nextVisit
  split
  · exact State.memOk_of_mem (by simp) (s.memOk_visitEvents gap h)
  · split
    · exact State.memOk_of_mem (by simp) (s.memOk_visitEvents gap h)
    · exact s.memOk_endSweep gap h

/-- Whatever a command does, the canonical form stands. -/
theorem State.Does.memOk {s t : State} {c : Instr} (d : s.Does c t) (h : s.memOk) : t.memOk := by
  cases d with
  | idle => exact h
  | event e => exact e.memOk h
  | handOff k => exact State.memOk_of_mem (by simp) h
  | softReset => exact State.memOk_of_mem (by simp) (s.memOk_softReset h)
  | powerOnReset => exact ⟨.nil, by simp [State.powerOnReset]⟩
  | porRelease => exact State.memOk_of_mem (by simp) h
  | bcrDone u gap =>
    unfold State.bcrDone
    split
    · exact State.memOk_of_mem (State.writeHeader_mem _)
        (State.memOk_visitEvents _ gap (State.memOk_of_mem (s := s) (by simp) h))
    · exact h
  | bsrDone _ gap =>
    unfold State.bsrDone
    split
    · exact State.memOk_of_mem (State.beginVisit_mem _ 0) (State.memOk_visitEvents _ gap
        (State.memOk_of_mem (State.releasePort_mem _) (s.memOk_writeRecord _ _ h)))
    · exact h
  | scrDone u o =>
    unfold State.scrDone
    split
    · exact State.memOk_of_mem (State.nextMove_mem _ _ _ _)
        (State.memOk_visitSocket _ _ _ o (State.memOk_of_mem s.releasePort_mem h))
    · exact h
  | failDone _ gap =>
    unfold State.failDone
    split
    · exact State.memOk_of_mem (State.nextMove_mem _ _ _ _) (State.memOk_visitEvents _ gap
        (State.memOk_of_mem (State.updSock_mem _ _ _)
          (State.memOk_of_mem (State.releasePort_mem _) (s.memOk_writeRecord _ _ h))))
    · exact h
  | ssrDone _ gap =>
    unfold State.ssrDone
    split
    · exact State.memOk_nextVisit _ _ gap (State.memOk_of_mem (State.raiseIf_mem _ _ _)
        (State.memOk_of_mem (State.releasePort_mem _) (s.memOk_writeRecord _ _ h)))
    · exact h
  | chunkDone _ u gap =>
    unfold State.chunkDone
    split
    · exact State.memOk_endSweep _ gap (State.memOk_of_mem (by simp) h)
    · exact h

/-- Settles O3: the host's access and the record transfers write inside the memory, and nothing else writes. -/
theorem stepsKeepMemoryCanonical : Obligations.StepsKeepMemoryCanonical :=
  step_keeps (fun _ _ h => h) State.Does.memOk

end Sys2Proof.Machine
end

section
/-! What every event keeps of a socket: its outputs apart, its staging FIFO short, its Dwell (sections 7.4, 10.9 and
11.5). -/

namespace Sys2Proof.Machine

/-! ## What a socket keeps -/

/-- `y` keeps what is safe in `x`: the heater and cooler outputs apart, and at most 4 staged records. -/
structure Socket.StaysSafe (x y : Socket) : Prop where
  apart : ¬(x.thermal.heaterOn = true ∧ x.thermal.coolerOn = true) →
    ¬(y.thermal.heaterOn = true ∧ y.thermal.coolerOn = true)
  staging : x.acct.staging.length ≤ 4 → y.acct.staging.length ≤ 4

/-- What the crediting of intervals writes: the times, the late count and the moment of the previous visit. -/
def Account.tally (a : Account) : Account := { Account.reset with
  dwellSec := a.dwellSec, dwellMs := a.dwellMs, oosSec := a.oosSec, oosMs := a.oosMs, lateCount := a.lateCount
  prevVisit := a.prevVisit }

/-- The socket is in stress, or has left it in the interval in progress. -/
def Account.inStress (a : Account) : Prop := a.phase = .stressing ∨ a.leftStress = true

/-- `y` keeps also what was credited to `x`, and how the interval in progress began; a stress that it ends is noted. -/
structure Socket.Follows (x y : Socket) : Prop extends x.StaysSafe y where
  tally : y.acct.tally = x.acct.tally
  interval : y.acct.stressedAtStart = x.acct.stressedAtStart ∧ (x.acct.inStress → y.acct.inStress)

theorem Socket.Follows.dwellSec {x y : Socket} (f : x.Follows y) : y.acct.dwellSec = x.acct.dwellSec :=
  (congrArg Account.dwellSec f.tally :)

theorem Socket.Follows.dwellMs {x y : Socket} (f : x.Follows y) : y.acct.dwellMs = x.acct.dwellMs :=
  (congrArg Account.dwellMs f.tally :)

theorem Socket.Follows.refl (x : Socket) : x.Follows x := ⟨⟨id, id⟩, rfl, rfl, id⟩

theorem Socket.StaysSafe.trans {x y z : Socket} (f : x.StaysSafe y) (g : y.StaysSafe z) : x.StaysSafe z :=
  ⟨g.apart ∘ f.apart, g.staging ∘ f.staging⟩

theorem Socket.Follows.trans {x y z : Socket} (f : x.Follows y) (g : y.Follows z) : x.Follows z :=
  ⟨f.toStaysSafe.trans g.toStaysSafe, g.tally.trans f.tally, g.interval.1.trans f.interval.1,
    g.interval.2 ∘ f.interval.2⟩

/-- A change that touches neither an output, nor the staging FIFO, nor what was credited, nor the interval. -/
theorem Socket.Follows.same {x y : Socket} (heater : y.thermal.heaterOn = x.thermal.heaterOn)
    (cooler : y.thermal.coolerOn = x.thermal.coolerOn) (staging : y.acct.staging = x.acct.staging)
    (tally : y.acct.tally = x.acct.tally)
    (interval : (y.acct.phase, y.acct.leftStress, y.acct.stressedAtStart) =
      (x.acct.phase, x.acct.leftStress, x.acct.stressedAtStart)) : x.Follows y := by
  simp only [Prod.mk.injEq] at interval
  obtain ⟨phase, left, atStart⟩ := interval
  exact ⟨⟨by simp [heater, cooler], by simp [staging]⟩, tally, atStart, by simp [Account.inStress, phase, left]⟩

/-- A change that leaves the account and whose outputs are apart. -/
theorem Socket.Follows.driven {x : Socket} {t : Thermal} (apart : ¬(t.heaterOn = true ∧ t.coolerOn = true)) :
    x.Follows { x with thermal := t } := ⟨⟨fun _ => apart, id⟩, rfl, rfl, id⟩

/-- A thermal state with the outputs of another. -/
theorem Socket.Follows.thermal {x : Socket} {t : Thermal} (heater : t.heaterOn = x.thermal.heaterOn)
    (cooler : t.coolerOn = x.thermal.coolerOn) : x.Follows { x with thermal := t } :=
  .same heater cooler rfl rfl rfl

/-! ## Shared operations on one socket -/

theorem Socket.setRail_follows (x : Socket) (r : Rail) : x.Follows (x.setRail r) := .same rfl rfl rfl rfl rfl

theorem Socket.setEx_follows (x : Socket) (e : Exercise) : x.Follows (x.setEx e) := .same rfl rfl rfl rfl rfl

theorem Socket.reportSpoil_follows (x : Socket) (b : Bool) : x.Follows (x.reportSpoil b) :=
  .same rfl rfl rfl rfl rfl

theorem Socket.takedown_follows (x : Socket) : x.Follows x.takedown := x.setRail_follows _

theorem Socket.changePhase_follows (x : Socket) (p : Phase) (r : ResumePhase) :
    x.Follows (x.changePhase p r) := by
  have noted : x.acct.inStress → p = .stressing ∨ (x.acct.leftStress || (x.acct.phase == .stressing && p != .stressing)) = true := by
    unfold Account.inStress
    intro was
    by_cases goes : p = .stressing
    · exact .inl goes
    · rcases was with here | left
      · exact .inr (by simp [here, goes])
      · exact .inr (by simp [left])
  unfold Socket.changePhase
  dsimp only
  split <;> exact ⟨⟨id, id⟩, rfl, rfl, noted⟩

theorem Socket.retire_follows (x : Socket) (k : RetireKind) : x.Follows (x.retire k) := by
  have retired := x.changePhase_follows .retired .none
  refine ⟨⟨by simp [Thermal.retire, Thermal.outputsOff], by simp⟩, retired.tally, retired.interval⟩

theorem Socket.report_follows (x : Socket) (k : RetireKind) : x.Follows (x.report k) := by
  unfold Socket.report
  split
  · exact x.retire_follows k
  · exact .refl x

theorem Account.stage_short (a : Account) (f : FailRecord) (h : a.staging.length ≤ 4) :
    (a.stage f).staging.length ≤ 4 := by
  unfold Account.stage
  split
  · simp only [List.length_append, List.length_singleton]
    omega
  · exact h

theorem Socket.record_follows (x : Socket) (c : Ctx) (k : Kind) (sub : Nat) (d : List Word) :
    x.Follows (x.record c k sub d) := by
  refine ⟨⟨id, x.acct.countRecord.stage_short _⟩, ?_, ?_⟩ <;> unfold Socket.record Account.stage <;> dsimp only
  · split <;> rfl
  · split <;> exact ⟨rfl, id⟩

theorem Socket.strike_follows (x : Socket) (k : Kind) : x.Follows (x.strike k) := by
  unfold Socket.strike
  dsimp only
  split
  · refine .trans ?_ (Socket.retire_follows _ _)
    exact .same rfl rfl rfl rfl rfl
  · exact .same rfl rfl rfl rfl rfl

theorem Socket.counted_follows (x : Socket) (k : Kind) : x.Follows (x.counted k) :=
  .same rfl rfl rfl rfl rfl

theorem Socket.recorded_follows (x : Socket) (c : Ctx) (k : Kind) (sub : Nat) (d : List Word) :
    x.Follows (x.recorded c k sub d) := (x.counted_follows k).trans (Socket.record_follows _ c k sub d)

theorem Socket.takeCondition_follows (x : Socket) (c : Ctx) (k : Kind) (sub : Nat) (d : List Word) :
    x.Follows (x.takeCondition c k sub d) := by
  have recorded := x.recorded_follows c k sub d
  unfold Socket.takeCondition
  split
  · split
    · exact x.counted_follows k
    · exact recorded
    · exact recorded.trans (Socket.strike_follows _ k)
    · exact recorded.trans (Socket.retire_follows _ _)
  · exact .refl x

theorem Socket.chainEntry_follows (x : Socket) (c : Ctx) : x.Follows (x.chainEntry c) := by
  unfold Socket.chainEntry
  split
  · exact x.report_follows _
  · exact x.setRail_follows _

theorem Socket.reportLoss_follows (x : Socket) (c : Ctx) : x.Follows (x.reportLoss c) := by
  unfold Socket.reportLoss
  split
  · exact x.takeCondition_follows _ _ _ _
  · exact .refl x

/-! ## What reaches the rail -/

theorem Socket.interruptPower_follows (x : Socket) : x.Follows x.interruptPower := by
  unfold Socket.interruptPower
  split
  · exact x.changePhase_follows _ _
  · exact x.changePhase_follows _ _
  · split <;> exact .same rfl rfl rfl rfl rfl
  · exact .refl x

theorem Socket.trip_follows (x : Socket) (c : Ctx) (k : Kind) (sub : Nat) (d : List Word) :
    x.Follows (x.trip c k sub d) :=
  ((x.setRail_follows _).trans (Socket.takeCondition_follows _ _ _ _ _)).trans
    (Socket.interruptPower_follows _)

theorem Socket.fastTrip_follows (x : Socket) (c : Ctx) : x.Follows (x.fastTrip c) := by
  unfold Socket.fastTrip
  split
  · exact x.trip_follows _ _ _ _
  · split
    · exact x.setRail_follows _
    · exact .refl x

theorem Socket.enterOn_follows (x : Socket) : x.Follows x.enterOn := by
  have entered := x.setRail_follows x.rail.enterOn
  unfold Socket.enterOn
  dsimp only
  split
  · exact entered
  · split
    · exact entered.trans (Socket.changePhase_follows _ _ _)
    · exact .same rfl rfl rfl rfl rfl
    · exact entered

theorem Socket.settleCheck_follows (x : Socket) (c : Ctx) : x.Follows (x.settleCheck c) := by
  unfold Socket.settleCheck
  dsimp only
  split
  · refine .trans ?_ (Socket.enterOn_follows _)
    exact .same rfl rfl rfl rfl rfl
  · split
    · refine .trans ?_ (Socket.trip_follows _ _ _ _ _)
      exact .same rfl rfl rfl rfl rfl
    · exact .same rfl rfl rfl rfl rfl

theorem Socket.slowCheck_follows (x : Socket) (c : Ctx) : x.Follows (x.slowCheck c) := by
  unfold Socket.slowCheck
  dsimp only
  split
  · split
    · refine .trans ?_ (Socket.trip_follows _ _ _ _ _)
      exact .same rfl rfl rfl rfl rfl
    · exact .same rfl rfl rfl rfl rfl
  · exact .refl x

theorem Socket.dropCheck_follows (x : Socket) (c : Ctx) : x.Follows (x.dropCheck c) := by
  unfold Socket.dropCheck
  dsimp only
  split
  · split
    · split
      · refine .trans ?_ (Socket.trip_follows _ _ _ _ _)
        exact .same rfl rfl rfl rfl rfl
      · exact .same rfl rfl rfl rfl rfl
    · exact .same rfl rfl rfl rfl rfl
  · exact .refl x

theorem Socket.openCheck_follows (x : Socket) (c : Ctx) : x.Follows (x.openCheck c) := by
  unfold Socket.openCheck
  dsimp only
  generalize x.rail.openSum + (if 985 ≤ x.rail.openCount + 1 then x.rail.current.toNat else 0) = sum
  split
  · split
    · split
      · refine .trans ?_ (Socket.takeCondition_follows _ _ _ _ _)
        exact .same rfl rfl rfl rfl rfl
      · exact .same rfl rfl rfl rfl rfl
    · exact .same rfl rfl rfl rfl rfl
  · exact .refl x

theorem Socket.onChecks_follows (x : Socket) (c : Ctx) (o : CheckOrder) : x.Follows (x.onChecks c o) := by
  cases o with
  | slowFirst =>
    exact ((x.slowCheck_follows c).trans (Socket.dropCheck_follows _ c)).trans (Socket.openCheck_follows _ c)
  | dropFirst =>
    exact ((x.dropCheck_follows c).trans (Socket.slowCheck_follows _ c)).trans (Socket.openCheck_follows _ c)
  | openFirst =>
    exact ((x.openCheck_follows c).trans (Socket.slowCheck_follows _ c)).trans (Socket.dropCheck_follows _ c)

theorem Socket.railSample_follows (x : Socket) (c : Ctx) (o : CheckOrder) (v a : Word) :
    x.Follows (x.railSample c o v a) := by
  unfold Socket.railSample
  dsimp only
  split
  · split
    · exact .same rfl rfl rfl rfl rfl
    · refine .trans ?_ (Socket.settleCheck_follows _ _)
      exact .same rfl rfl rfl rfl rfl
  · refine .trans ?_ (Socket.onChecks_follows _ _ _)
    exact .same rfl rfl rfl rfl rfl
  · exact .same rfl rfl rfl rfl rfl

theorem Socket.powerOrLock_follows (x : Socket) (c : Ctx) : x.Follows (x.powerOrLock c) := by
  unfold Socket.powerOrLock
  dsimp only
  split
  · exact (x.setRail_follows _).trans (Socket.report_follows _ _)
  · split
    · exact (x.setRail_follows _).trans (Socket.fastTrip_follows _ _)
    · exact x.setRail_follows _

theorem Socket.chainStart_follows (x : Socket) (c : Ctx) : x.Follows (x.chainStart c) := by
  refine .trans ?_ (Socket.powerOrLock_follows _ c)
  split
  · exact x.changePhase_follows _ _
  · exact .refl x

theorem Socket.bankExpiry_follows (x : Socket) : x.Follows x.bankExpiry := by
  unfold Socket.bankExpiry
  split
  · exact x.setRail_follows _
  · exact .refl x

@[simp] theorem Thermal.bankTrip_heaterOn (t : Thermal) : t.bankTrip.heaterOn = t.heaterOn := by
  unfold Thermal.bankTrip Thermal.dropHeat; split <;> rfl
@[simp] theorem Thermal.bankTrip_coolerOn (t : Thermal) : t.bankTrip.coolerOn = t.coolerOn := by
  unfold Thermal.bankTrip Thermal.dropHeat; split <;> rfl

theorem Socket.bankTrip_follows (x : Socket) (e : Word32) : x.Follows (x.bankTrip e) := by
  have cut := x.setRail_follows (x.rail.bankCut e)
  unfold Socket.bankTrip
  dsimp only
  refine .trans ?_ (.thermal (by simp) (by simp))
  split
  · exact cut.trans (Socket.interruptPower_follows _)
  · exact cut

theorem Socket.bankLock_follows (x : Socket) : x.Follows x.bankLock := by
  have reported := x.report_follows .bankLock
  unfold Socket.bankLock
  dsimp only
  split
  · exact reported.trans (Socket.takedown_follows _)
  · exact reported.trans (Socket.takedown_follows _)
  · exact reported

theorem Socket.soakTick_follows (x : Socket) : x.Follows x.soakTick := by
  unfold Socket.soakTick
  split
  · exact .thermal rfl rfl
  · exact .refl x

theorem Socket.senseTick_follows (x : Socket) (c : Ctx) : x.Follows (x.senseTick c) :=
  ((x.setRail_follows _).trans (Socket.soakTick_follows _)).trans (Socket.reportSpoil_follows _ _)

/-! ## Samples, holds and the stop -/

theorem Socket.enterLost_follows (x : Socket) (c : Ctx) : x.Follows (x.enterLost c) :=
  (x.takeCondition_follows c _ _ _).trans (.thermal rfl rfl)

theorem Socket.limitCheck_follows (x : Socket) (c : Ctx) (raw : Int) : x.Follows (x.limitCheck c raw) := by
  unfold Socket.limitCheck
  dsimp only
  split
  · refine .trans (.thermal ?_ ?_) (Socket.takeCondition_follows _ _ _ _ _)
    all_goals unfold Thermal.dropHeat; split <;> rfl
  · exact .refl x

theorem Socket.sensorSample_follows (x : Socket) (c : Ctx) (code : Option Word) :
    x.Follows (x.sensorSample c code) := by
  unfold Socket.sensorSample
  dsimp only
  refine .trans ?_ (Socket.reportSpoil_follows _ _)
  split
  · refine .trans (.trans ?_ (Socket.limitCheck_follows _ c _)) (.same rfl rfl rfl rfl rfl)
    exact .same rfl rfl rfl rfl rfl
  · split
    · refine .trans (.trans ?_ (Socket.enterLost_follows _ c)) (.same rfl rfl rfl rfl rfl)
      exact .same rfl rfl rfl rfl rfl
    · exact .same rfl rfl rfl rfl rfl

theorem Socket.hold_follows (x : Socket) : x.Follows x.hold := by
  unfold Socket.hold
  refine .trans ?_ (Socket.reportSpoil_follows _ _)
  split
  · exact x.changePhase_follows _ _
  · exact x.changePhase_follows _ _
  · exact x.changePhase_follows _ _
  · exact .refl x

theorem Socket.resume_follows (x : Socket) (c : Ctx) (r : HoldReason) : x.Follows (x.resume c r) := by
  unfold Socket.resume
  split
  · split
    · exact (x.changePhase_follows _ _).trans (Socket.chainEntry_follows _ _)
    · exact x.changePhase_follows _ _
  · split
    · exact x.chainEntry_follows c
    · exact .refl x
  · split
    · exact x.chainEntry_follows c
    · exact .refl x
  · exact .refl x

theorem Socket.runStart_follows (x : Socket) (c : Ctx) : x.Follows (x.runStart c) := by
  unfold Socket.runStart
  split
  · exact x.chainEntry_follows c
  · exact .refl x

theorem Socket.stop_follows (x : Socket) : x.Follows x.stop := by
  have halted : x.Follows (Socket.setEx { x.takedown with thermal := x.thermal.stop } x.ex.halt) :=
    .same rfl rfl rfl rfl rfl
  unfold Socket.stop
  dsimp only
  split
  · exact (halted.trans (Socket.changePhase_follows _ .waiting .none)).trans (.same rfl rfl rfl rfl rfl)
  · exact halted

theorem Socket.interlockCut_follows (x : Socket) : x.Follows x.interlockCut :=
  ⟨⟨by simp [Socket.interlockCut, Thermal.interlock, Thermal.outputsOff], id⟩, rfl, rfl, id⟩

theorem Socket.endDiag_follows (x : Socket) : x.Follows x.endDiag := by
  unfold Socket.endDiag
  split <;> exact .same rfl rfl rfl rfl rfl

theorem Socket.checkRoles_follows (x : Socket) (m : LaneMap) (i : SocketIx) : x.Follows (x.checkRoles m i) := by
  unfold Socket.checkRoles
  split
  · exact x.setEx_follows _
  · exact .refl x

/-! ## Vectors, frames and the self-test timeout -/

theorem Socket.compare_follows (x : Socket) (m : Vector LaneEntry 16) (n : Nat) (recv : BitVec 16) :
    x.Follows (x.compare m n recv) := .same rfl rfl rfl rfl rfl

theorem Socket.diagCompare_follows (x : Socket) (g : Bool) (loop : BitVec 16) :
    x.Follows (x.diagCompare g loop) := by
  unfold Socket.diagCompare
  split <;> exact .same rfl rfl rfl rfl rfl

theorem Socket.doneEdge_follows (x : Socket) (c : Ctx) (pass : Bool) : x.Follows (x.doneEdge c pass) := by
  unfold Socket.doneEdge
  dsimp only
  split
  · exact .same rfl rfl rfl rfl rfl
  · refine .trans ?_ (Socket.takeCondition_follows _ _ _ _ _)
    exact .same rfl rfl rfl rfl rfl

theorem Socket.watchDone_follows (x : Socket) (c : Ctx) (recv : BitVec 16) : x.Follows (x.watchDone c recv) := by
  unfold Socket.watchDone
  split
  · split
    · exact .refl x
    · exact .same rfl rfl rfl rfl rfl
    · exact .same rfl rfl rfl rfl rfl
    · exact .same rfl rfl rfl rfl rfl
    · exact x.doneEdge_follows _ _
  · exact .refl x

theorem Socket.vector_follows (x : Socket) (c : Ctx) (p : Pxr) (i : SocketIx) (recv loop : BitVec 16)
    (onTick : Bool) : x.Follows (x.vector c p i recv loop onTick) := by
  unfold Socket.vector
  dsimp only
  refine .trans (.trans (.trans (.trans ?_ (Socket.compare_follows _ _ _ _))
    (Socket.diagCompare_follows _ _ _)) (Socket.watchDone_follows _ c recv)) (.same rfl rfl rfl rfl rfl)
  exact .same rfl rfl rfl rfl rfl

theorem Socket.selftestTimeout_follows (x : Socket) (c : Ctx) (n : Word32) :
    x.Follows (x.selftestTimeout c n) := by
  refine .trans ?_ (Socket.takeCondition_follows _ _ _ _ _)
  exact .same rfl rfl rfl rfl rfl

theorem Socket.closeStep_follows (x : Socket) (c : Ctx) (frame : Word32) :
    x.Follows (x.closeStep c frame) := by
  unfold Socket.closeStep
  split
  · unfold Socket.closeDiag
    dsimp only
    split
    · exact .same rfl rfl rfl rfl rfl
    · refine .trans ?_ (Socket.report_follows _ _)
      exact .same rfl rfl rfl rfl rfl
  · unfold Socket.closeCompare
    dsimp only
    split
    · refine .trans ?_ (Socket.takeCondition_follows _ _ _ _ _)
      exact .same rfl rfl rfl rfl rfl
    · exact .same rfl rfl rfl rfl rfl
  · split <;> exact .same rfl rfl rfl rfl rfl
  · exact .refl x

theorem Socket.swapStep_follows (x : Socket) (old new : LaneMap) (i : SocketIx) :
    x.Follows (x.swapStep old new i) := by
  refine .trans ?_ (Socket.checkRoles_follows _ _ _)
  exact .same rfl rfl rfl rfl rfl

theorem Socket.boundary_follows (x : Socket) (c : Ctx) (p : Pxr) (diag : Bool) (i : SocketIx) :
    x.Follows (x.boundary c p diag i) := by
  have closed : x.Follows (let y := x.closeStep c p.frameNumber
      { y with ex := y.ex.latchFrame y.gate.shadow.num }) :=
    (x.closeStep_follows c _).trans (.same rfl rfl rfl rfl rfl)
  unfold Socket.boundary
  dsimp only
  split
  · exact (closed.trans (Socket.swapStep_follows _ _ _ _)).trans (.same rfl rfl rfl rfl rfl)
  · exact closed.trans (.same rfl rfl rfl rfl rfl)

/-! ## The works of a visit -/

theorem Socket.runawayStep_follows (x : Socket) (c : Ctx) (tf : Int) : x.Follows (x.runawayStep c tf) := by
  unfold Socket.runawayStep
  split
  · split
    · refine .trans ?_ (Socket.takeCondition_follows _ _ _ _ _)
      exact .thermal rfl rfl
    · exact .thermal rfl rfl
  · exact .thermal rfl rfl

theorem Socket.soakStep_follows (x : Socket) (c : Ctx) (b : Bool) (d : List Word) :
    x.Follows (x.soakStep c b d) := by
  unfold Socket.soakStep
  split
  · refine .trans ?_ (Socket.takeCondition_follows _ _ _ _ _)
    exact .thermal rfl rfl
  · exact .refl x

theorem Socket.thermalVisit_follows (x : Socket) (c : Ctx) (share : Int) : x.Follows (x.thermalVisit c share) := by
  unfold Socket.thermalVisit
  split
  · refine .trans (.trans ?_ (Socket.runawayStep_follows _ _ _)) (Socket.soakStep_follows _ _ _ _)
    exact .thermal rfl rfl
  · dsimp only
    split
    · exact .thermal rfl rfl
    · split <;> exact .thermal rfl rfl
    · exact .thermal rfl rfl

theorem Socket.adopt_follows (x : Socket) (rev : Byte8) (st : Settings) (n : Nat) :
    x.Follows (x.adopt rev st n) := .same rfl rfl rfl rfl rfl

theorem Socket.takeRecord_follows (x : Socket) (cfg : BoardConfig) (m : LaneMap) (i : SocketIx)
    (rec : Option (List Word)) : x.Follows (x.takeRecord cfg m i rec).1 := by
  unfold Socket.takeRecord
  split
  · exact .same rfl rfl rfl rfl rfl
  · split
    · unfold Socket.revisionGate
      split
      · exact .same rfl rfl rfl rfl rfl
      · split <;> exact .same rfl rfl rfl rfl rfl
    · exact .same rfl rfl rfl rfl rfl

theorem Socket.powerOff_follows (x : Socket) : x.Follows x.powerOff := .same rfl rfl rfl rfl rfl

theorem Socket.enable_follows (x : Socket) (c : Ctx) : x.Follows (x.enable c) := by
  have waits := x.changePhase_follows .waiting .none
  unfold Socket.enable
  split
  · refine .trans ?_ (Socket.reportLoss_follows _ c)
    split
    · exact waits.trans (Socket.chainEntry_follows _ c)
    · exact waits
  · exact .refl x

theorem Socket.withdraw_follows (x : Socket) : x.Follows x.withdraw := by
  unfold Socket.withdraw
  split
  · exact (x.changePhase_follows .empty .none).trans (.same rfl rfl rfl rfl rfl)
  · exact .refl x

theorem Socket.completeAdopted_follows (x : Socket) : x.Follows x.completeAdopted := by
  unfold Socket.completeAdopted
  split
  · exact x.powerOff_follows
  · exact .refl x

theorem Socket.takeEnable_follows (x : Socket) (c : Ctx) (a : Option Bool) : x.Follows (x.takeEnable c a) := by
  unfold Socket.takeEnable
  split
  · exact .refl x
  · exact (x.enable_follows c).trans (Socket.completeAdopted_follows _)
  · exact x.withdraw_follows.trans (Socket.completeAdopted_follows _)

theorem Socket.soakTest_follows (x : Socket) : x.Follows x.soakTest := by
  unfold Socket.soakTest
  split
  · exact x.changePhase_follows _ _
  · exact .refl x

theorem Socket.complete_follows (x : Socket) : x.Follows x.complete := by
  have completed := x.changePhase_follows .complete .none
  unfold Socket.complete
  dsimp only
  split <;> exact completed.trans (.same rfl rfl rfl rfl rfl)

theorem Socket.completionTest_follows (x : Socket) : x.Follows x.completionTest := by
  unfold Socket.completionTest
  split
  · exact x.complete_follows
  · exact .refl x

theorem Socket.decide_follows (x : Socket) (c : Ctx) (a : Option Bool) : x.Follows (x.decide c a) :=
  ((x.takeEnable_follows c a).trans (Socket.soakTest_follows _)).trans (Socket.completionTest_follows _)

theorem Socket.startInterval_staysSafe (x : Socket) : x.StaysSafe x.startInterval := ⟨id, id⟩

theorem Socket.recordMoved_follows (x : Socket) : x.Follows x.recordMoved :=
  ⟨⟨id, fun h => by
    have : x.recordMoved.acct.staging.length = x.acct.staging.length - 1 := List.length_tail
    omega⟩, rfl, rfl, id⟩

@[simp] theorem Account.creditInterval_staging (a : Account) (p e : Nat) :
    (a.creditInterval p e).staging = a.staging := by
  unfold Account.creditInterval
  (repeat' split) <;> rfl

/-- The crediting of an interval leaves the outputs and the staged records. -/
theorem Socket.credit_staysSafe (x : Socket) (c : Ctx) : x.StaysSafe (x.credit c) := by
  refine ⟨id, fun h => ?_⟩
  simp only [Socket.credit, Account.credit]
  split <;> simpa using h

/-- CLEAR_ACCOUNTS empties the staging FIFO. -/
theorem Socket.clear_staysSafe (x : Socket) : x.StaysSafe x.clear :=
  ⟨id, fun _ => by simp [Socket.clear, Account.cleared, Account.reset]⟩

theorem Socket.lossAfterClear_follows (x : Socket) (c : Ctx) : x.Follows (x.lossAfterClear c) := by
  unfold Socket.lossAfterClear
  split
  · exact x.reportLoss_follows c
  · exact .refl x

/-- A pulse has one side. -/
theorem Thermal.atTick_apart (t : Thermal) (k : Nat) :
    ¬((t.atTick k).heaterOn = true ∧ (t.atTick k).coolerOn = true) := by
  intro ⟨heats, cools⟩
  simp_all [Thermal.atTick, Pulse.drives]

end Sys2Proof.Machine
end

section
/-! What every command keeps of every socket: the outputs apart (section 7.4), the staging FIFOs short (section 11.5)
and, but for the commands that clear it and a socket's own visits, its Dwell (section 10.9). -/

namespace Sys2Proof.Machine

/-! ## What a state keeps of its sockets -/

/-- Every socket of `t` keeps what is safe in the same socket of `s`. -/
def State.StaysSafe (s t : State) : Prop := ∀ i : SocketIx, (s.sock i).StaysSafe (t.sock i)

/-- Every socket of `t` keeps also the Dwell of the same socket of `s`. -/
def State.Follows (s t : State) : Prop := ∀ i : SocketIx, (s.sock i).Follows (t.sock i)

theorem State.Follows.staysSafe {s t : State} (h : s.Follows t) : s.StaysSafe t := fun i => (h i).toStaysSafe

theorem State.StaysSafe.trans {s t u : State} (f : s.StaysSafe t) (g : t.StaysSafe u) : s.StaysSafe u :=
  fun i => (f i).trans (g i)

theorem State.Follows.trans {s t u : State} (f : s.Follows t) (g : t.Follows u) : s.Follows u :=
  fun i => (f i).trans (g i)

/-- A change that leaves the sockets. -/
theorem State.Follows.of_sockets {s t : State} (same : t.sockets = s.sockets) : s.Follows t := by
  intro i
  simpa [State.sock, same] using Socket.Follows.refl (s.sock i)

theorem State.Follows.refl (s : State) : s.Follows s := .of_sockets rfl

/-- An event of one socket. -/
theorem State.updSock_follows (s : State) (i : SocketIx) {f : Socket → Socket} (h : ∀ x : Socket, x.Follows (f x)) :
    s.Follows (s.updSock i f) := by
  intro j
  by_cases e : j = i
  · subst e
    simpa using h (s.sock j)
  · simpa [s.sock_updSock_other i j f e] using Socket.Follows.refl (s.sock j)

/-- An event of every socket. -/
theorem State.updAll_follows (s : State) {f : SocketIx → Socket → Socket} (h : ∀ (i : SocketIx) (x : Socket), x.Follows (f i x)) :
    s.Follows (s.updAll f) := by
  intro i
  simpa using h i (s.sock i)

/-- An event of every socket that may put Dwell back to 0. -/
theorem State.updAll_staysSafe (s : State) {f : SocketIx → Socket → Socket} (h : ∀ (i : SocketIx) (x : Socket), x.StaysSafe (f i x)) :
    s.StaysSafe (s.updAll f) := by
  intro i
  simpa using h i (s.sock i)

/-- An event of the sockets of a bank. -/
theorem State.updBankSocks_follows (s : State) (b : BankIx) {f : SocketIx → Socket → Socket}
    (h : ∀ (i : SocketIx) (x : Socket), x.Follows (f i x)) : s.Follows (s.updBankSocks b f) :=
  s.updAll_follows (f := fun i x => if bankOf i = b then f i x else x) fun i x => by
    split
    · exact h i x
    · exact .refl x

/-! ## Board events -/

theorem State.enterHold_follows (s : State) (r : HoldReason) : s.Follows (s.enterHold r) :=
  (s.updAll_follows (f := fun _ x => x.hold) fun _ x => x.hold_follows).trans (.of_sockets rfl)

theorem State.checkStopped_follows (s : State) : s.Follows s.checkStopped := .of_sockets (by simp)

theorem State.interlockEvent_follows (s : State) : s.Follows s.interlockEvent := by
  have cut := s.updAll_follows (f := fun _ x => x.interlockCut) fun _ x => x.interlockCut_follows
  unfold State.interlockEvent
  dsimp only
  split
  · refine .trans ?_ (State.enterHold_follows _ _)
    exact cut.trans (.of_sockets (by simp))
  · refine .trans ?_ (State.enterHold_follows _ _)
    exact cut.trans (.of_sockets (by simp))
  · refine .trans ?_ (State.checkStopped_follows _)
    exact cut.trans (.of_sockets (by simp))
  · exact cut.trans (.of_sockets (by simp))

theorem State.fillDone_follows (s : State) : s.Follows s.fillDone := by
  unfold State.fillDone
  have checked := s.updAll_follows (f := fun i x => x.checkRoles s.pxr.active i) fun i x => x.checkRoles_follows _ i
  exact checked.trans (.of_sockets (by simp))

theorem State.displace_follows (s : State) : s.Follows s.displace := by
  unfold State.displace
  split
  · exact .refl s
  · split
    case h_3 => exact s.fillDone_follows
    case h_5 =>
      have ended := s.updAll_follows (f := fun _ x => x.endDiag) fun _ x => x.endDiag_follows
      exact ended.trans (.of_sockets (by simp))
    all_goals exact .of_sockets (by simp)

/-! ## Board commands -/

theorem State.judgeStart_follows (s : State) (c : Command) : s.Follows (s.judgeStart c) := by
  unfold State.judgeStart
  split
  · exact .of_sockets (by simp)
  · split
    · exact .of_sockets (by simp)
    · have started := (s.accept c).updAll_follows (f := fun i x => x.runStart ((s.accept c).ctx i))
        fun i x => x.runStart_follows _
      exact started.trans (.of_sockets rfl)

theorem State.judgeHold_follows (s : State) (c : Command) : s.Follows (s.judgeHold c) := by
  unfold State.judgeHold
  split
  · exact .of_sockets (by simp)
  · exact ((s.accept c).enterHold_follows .command).trans (.of_sockets rfl)

theorem State.judgeResume_follows (s : State) (c : Command) : s.Follows (s.judgeResume c) := by
  unfold State.judgeResume
  split
  · exact .of_sockets (by simp)
  · have resumed := (s.accept c).updAll_follows
      (f := fun i x => x.resume ((s.accept c).ctx i) (s.accept c).brc.reason) fun i x => x.resume_follows _ _
    exact resumed.trans (.of_sockets rfl)

theorem State.judgeStop_follows (s : State) (c : Command) : s.Follows (s.judgeStop c) := by
  have stopped := ((s.accept c).holdChannel c .stopRun .ramping).updAll_follows (f := fun _ x => x.stop)
    fun _ x => x.stop_follows
  unfold State.judgeStop
  split
  · exact .of_sockets (by simp)
  · exact .of_sockets (by simp)
  all_goals
    refine .trans ?_ (State.checkStopped_follows _)
    exact stopped.trans (.of_sockets rfl)

theorem State.judgeLoad_follows (s : State) (c : Command) : s.Follows (s.judgeLoad c) := .of_sockets rfl

theorem State.judgeFill_follows (s : State) (c : Command) : s.Follows (s.judgeFill c) := by
  unfold State.judgeFill
  (repeat' split) <;> exact .of_sockets (by simp)

theorem State.judgeDiagnose_follows (s : State) (c : Command) : s.Follows (s.judgeDiagnose c) := by
  unfold State.judgeDiagnose
  (repeat' split) <;> exact .of_sockets (by simp)

theorem State.clearAccounts_staysSafe (s : State) (m : Word32) : s.StaysSafe (s.clearAccounts m) := by
  refine (State.StaysSafe.trans (s.updAll_staysSafe (f := fun i x => if m.getLsbD i.val then x.clear else x)
    fun i x => ?_) (State.updAll_follows _ (f := fun i x => if m.getLsbD i.val then x.lossAfterClear (s.ctx i)
      else x) fun i x => ?_).staysSafe).trans (State.Follows.of_sockets rfl).staysSafe
  · split
    · exact x.clear_staysSafe
    · exact (Socket.Follows.refl x).toStaysSafe
  · split
    · exact x.lossAfterClear_follows _
    · exact .refl x

theorem State.judgeClear_staysSafe (s : State) (c : Command) : s.StaysSafe (s.judgeClear c) := by
  unfold State.judgeClear
  split
  · exact (State.Follows.of_sockets (by simp)).staysSafe
  · exact ((s.accept c).clearAccounts_staysSafe c.mask).trans (State.Follows.of_sockets rfl).staysSafe

/-- Every command but CLEAR_ACCOUNTS keeps the Dwell of every socket. -/
theorem State.judge_follows (s : State) (c : Command) (h : c.code ≠ some .clearAccounts) :
    s.Follows (s.judge c) := by
  unfold State.judge
  split
  · exact .of_sockets (by simp)
  · exact s.judgeStart_follows c
  · exact s.judgeHold_follows c
  · exact s.judgeResume_follows c
  · exact s.judgeStop_follows c
  · exact s.judgeLoad_follows c
  · exact s.judgeFill_follows c
  · next clears => exact absurd clears h
  · exact s.judgeDiagnose_follows c

theorem State.judge_staysSafe (s : State) (c : Command) : s.StaysSafe (s.judge c) := by
  by_cases h : c.code = some .clearAccounts
  · simpa [State.judge, h] using s.judgeClear_staysSafe c
  · exact (s.judge_follows c h).staysSafe

theorem State.handOff_follows (s : State) (c : Command) (h : c.code ≠ some .clearAccounts) :
    s.Follows (s.handOff c) := by
  unfold State.handOff State.takeCommand
  split
  · exact .of_sockets (by simp)
  · refine .trans ?_ (State.judge_follows _ c h)
    refine .trans ?_ (State.displace_follows _)
    exact .of_sockets rfl

theorem State.handOff_staysSafe (s : State) (c : Command) : s.StaysSafe (s.handOff c) := by
  unfold State.handOff State.takeCommand
  split
  · exact (State.Follows.of_sockets (by simp)).staysSafe
  · refine .trans ?_ (State.judge_staysSafe _ c)
    refine .trans ?_ (State.displace_follows _).staysSafe
    exact (State.Follows.of_sockets rfl).staysSafe

/-! ## Events -/

theorem State.bankTrip_follows (s : State) (b : BankIx) : s.Follows (s.bankTrip b) := by
  let t := (s.updBank b fun k => { k with tripCount := satAdd max16 k.tripCount 1 }).raise .bankTrip
  have counted : s.Follows t := .of_sockets rfl
  have cut (t : State) : t.Follows (t.cutBank b) :=
    (t.updBankSocks_follows b (f := fun _ x => x.bankTrip (t.time.runMs + 2000)) fun _ x => x.bankTrip_follows _).trans
      (.of_sockets rfl)
  have locked (t : State) : t.Follows (t.lockBank b) :=
    (t.updBankSocks_follows b (f := fun _ x => x.bankLock) fun _ x => x.bankLock_follows).trans (.of_sockets rfl)
  unfold State.bankTrip
  dsimp only
  split
  · exact counted
  · split
    · exact (counted.trans (cut t)).trans (locked _)
    · exact counted.trans (cut t)

@[simp] theorem State.sweepStartEvent_sockets (s : State) (n : Word32) :
    (s.sweepStartEvent n).sockets = s.sockets := by
  unfold State.sweepStartEvent
  split
  · rfl
  · simp [State.beginSweep]

@[simp] theorem State.sweepStart_sockets (s : State) : s.sweepStart.sockets = s.sockets := by
  unfold State.sweepStart
  split <;> simp

theorem State.arriving_sockets (s : State) (b : Bool) (f : State → State)
    (h : ∀ t, (f t).sockets = t.sockets) : (s.arriving b f).sockets = s.sockets := by
  unfold State.arriving
  (repeat' split) <;> simp [h]

@[simp] theorem State.hostRead_sockets (s : State) (req : HostRequest) : (s.hostRead req).sockets = s.sockets := by
  unfold State.hostRead
  split
  · exact s.arriving_sockets _ _ fun t => rfl
  · rfl

@[simp] theorem State.hostWrite_sockets (s : State) (req : HostRequest) (d : Word) :
    (s.hostWrite req d).sockets = s.sockets := by
  unfold State.hostWrite
  dsimp only
  split
  · exact s.arriving_sockets _ _ fun t => by split <;> rfl
  · rfl

@[simp] theorem State.noAccess_sockets (s : State) (n : NoAccessStrobe) : (s.noAccess n).sockets = s.sockets := by
  unfold State.noAccess
  (repeat' split) <;> rfl

@[simp] theorem State.strobeRelease_sockets (s : State) : s.strobeRelease.sockets = s.sockets := by
  unfold State.strobeRelease
  (repeat' split) <;> rfl

@[simp] theorem State.finishCycle_sockets (s : State) (c : HostCycle) (out : Option Word) :
    (s.finishCycle c out).sockets = s.sockets := by
  unfold State.finishCycle
  split <;> rfl

@[simp] theorem State.accessDone_sockets (s : State) : s.accessDone.sockets = s.sockets := by
  unfold State.accessDone
  split
  · split
    · simp only [State.finishCycle_sockets]
      split <;> rfl
    · simp
    · rfl
  · rfl

theorem State.setScanEnable_follows (s : State) (b : Bool) : s.Follows (s.setScanEnable b) := by
  unfold State.setScanEnable
  split
  · exact .refl s
  · split
    · exact .of_sockets (by simp)
    · dsimp only
      split
      · refine .trans ?_ (State.enterHold_follows _ _)
        exact .of_sockets rfl
      · exact .of_sockets rfl

theorem State.writeRegister_follows (s : State) (addr data : Word)
    (noReset : (addr.extractLsb' 0 4).toNat ≠ 0 ∨ data.getLsbD 1 = false) :
    s.Follows (s.writeRegister addr data) := by
  unfold State.writeRegister
  split
  · next control =>
    have off : data.getLsbD 1 = false := noReset.resolve_left (absurd control)
    unfold State.writeControl
    rw [off, if_neg (by decide)]
    exact s.setScanEnable_follows _
  · exact .of_sockets rfl
  · exact .of_sockets rfl
  · exact .refl s

/-- Every event keeps of every socket what is safe in it, and its Dwell. -/
theorem State.Event.follows {s t : State} (e : s.Event t) : s.Follows t := by
  cases e with
  | senseTick =>
    refine .trans (.trans ?_ (State.updAll_follows { s with time := { s.time with runMs := s.time.runMs + 1 } }
      (f := fun i x => x.senseTick (State.ctx { s with time := { s.time with runMs := s.time.runMs + 1 } } i))
      fun i x => x.senseTick_follows _)) (.trans ?_ (State.checkStopped_follows _)) <;>
      exact .of_sockets rfl
  | railSample i o v a => exact s.updSock_follows i fun x => x.railSample_follows _ o v a
  | fastTrip i level =>
    unfold State.fastTrip
    dsimp only
    split
    · refine .trans (.trans ?_ (State.updSock_follows _ i fun x => x.fastTrip_follows (s.ctx i)))
        (State.checkStopped_follows _)
      exact .of_sockets rfl
    · exact .of_sockets rfl
  | chainStart b =>
    unfold State.chainStart
    split
    · exact (s.updSock_follows _ fun x => x.chainStart_follows _).trans (.of_sockets rfl)
    · exact .refl s
  | socketExpiry i =>
    unfold State.socketExpiry
    split
    · exact s.updSock_follows i fun x => x.powerOrLock_follows _
    · exact .refl s
  | feedSample b c =>
    unfold State.feedSample
    dsimp only
    split
    · refine .trans (.trans ?_ (State.bankTrip_follows _ b)) (State.checkStopped_follows _)
      exact .of_sockets rfl
    · exact .of_sockets rfl
  | bankExpiry b =>
    unfold State.bankExpiry
    split
    · exact (s.updBankSocks_follows b fun _ x => x.bankExpiry_follows).trans (.of_sockets rfl)
    · exact .refl s
  | sensorSample i code => exact s.updSock_follows i fun x => x.sensorSample_follows _ code
  | periodStart =>
    exact (s.updAll_follows fun _ x => .driven (Thermal.atTick_apart _ 0)).trans (.of_sockets rfl)
  | pwmTick =>
    unfold State.pwmTick
    split
    · exact (s.updAll_follows fun _ x => .driven (Thermal.atTick_apart _ 0)).trans (.of_sockets rfl)
    · exact (s.updAll_follows fun _ x => .driven (Thermal.atTick_apart _ _)).trans (.of_sockets rfl)
  | frameBoundary =>
    unfold State.frameBoundary
    split
    · exact (s.updAll_follows fun i x => x.boundary_follows _ _ _ i).trans (.of_sockets rfl)
    · exact .refl s
  | laneVector r l onTick =>
    unfold State.laneVector
    split
    · exact .refl s
    · exact (s.updAll_follows fun i x => x.vector_follows _ _ i _ _ _).trans (.of_sockets rfl)
  | selftestExpiry i =>
    unfold State.selftestExpiry
    split
    · exact (s.updSock_follows i fun x => x.selftestTimeout_follows _ _).trans (.of_sockets rfl)
    · exact .refl s
  | interlockAssert =>
    unfold State.interlockAssert
    dsimp only
    split
    · exact .refl s
    · split
      · exact .of_sockets rfl
      · refine .trans ?_ (State.interlockEvent_follows _)
        exact .of_sockets rfl
  | interlockRelease => exact .of_sockets rfl
  | registerWrite addr data noReset =>
    unfold State.registerWrite
    split
    · exact (s.writeRegister_follows addr data noReset).trans (.of_sockets rfl)
    · exact .refl s
  | _ => exact .of_sockets (by simp)

theorem State.visitEvents_follows (s : State) (es : List VisitEvent) : s.Follows (s.visitEvents es) :=
  State.visitEvents_keep (P := s.Follows) (fun e h => h.trans e.follows) s es (.refl s)

/-! ## The ends of the transfers -/

theorem State.nextMove_follows (s : State) (i : SocketIx) (n : Nat) (b : Bool) : s.Follows (s.nextMove i n b) := by
  unfold State.nextMove
  split <;> exact .of_sockets (by simp [State.writeStatus])

@[simp] theorem State.fillAtEnd_sockets (s : State) : s.fillAtEnd.sockets = s.sockets := by
  unfold State.fillAtEnd
  split
  · dsimp only
    split <;> rfl
  · rfl

@[simp] theorem State.closeSweep_sockets (s : State) : s.closeSweep.sockets = s.sockets := by
  simp [State.closeSweep]

theorem State.endSweep_follows (s : State) (gap : List VisitEvent) : s.Follows (s.endSweep gap) := by
  unfold State.endSweep
  split
  · refine .trans (.trans ?_ (State.visitEvents_follows _ gap)) (.of_sockets rfl)
    exact .of_sockets (by simp)
  · refine .trans ?_ (State.visitEvents_follows _ gap)
    exact .of_sockets (by simp)

theorem State.nextVisit_follows (s : State) (i : SocketIx) (gap : List VisitEvent) :
    s.Follows (s.nextVisit i gap) := by
  unfold State.nextVisit
  split
  · exact (s.visitEvents_follows gap).trans (.of_sockets rfl)
  · split
    · exact (s.visitEvents_follows gap).trans (.of_sockets rfl)
    · exact s.endSweep_follows gap

@[simp] theorem State.deliverChunk_sockets (s : State) (c : Nat) (es : List (Option LaneEntry)) :
    (s.deliverChunk c es).sockets = s.sockets := by
  unfold State.deliverChunk
  dsimp only
  split <;> rfl

@[simp] theorem State.takeChunk_sockets (s : State) (c : Nat) (rec : Option (List Word)) :
    (s.takeChunk c rec).sockets = s.sockets := by
  unfold State.takeChunk State.failLoad
  split
  · split
    · simp
    · split <;> simp
  · rfl

theorem State.adoptConfig_follows (s : State) (rev : Byte8) (res : ConfigResult) (c : BoardConfig) :
    s.Follows (s.adoptConfig rev res c) :=
  (s.updAll_follows (f := fun _ x => { x with gate := { x.gate with shadow := { x.gate.shadow with
    num := x.gate.shadow.num.fitConfig c } } }) fun _ _ => .same rfl rfl rfl rfl rfl).trans (.of_sockets rfl)

theorem State.takeConfig_follows (s : State) (r : List Word) : s.Follows (s.takeConfig r) := by
  unfold State.takeConfig
  dsimp only
  split
  · exact .refl s
  · split
    · exact .of_sockets rfl
    · split
      · exact s.adoptConfig_follows _ _ _
      · exact .of_sockets rfl

theorem State.headerWork_follows (s : State) : s.Follows s.headerWork := by
  have finished (t : State) : t.Follows t.finishCheck := by
    unfold State.finishCheck
    split <;> exact .of_sockets rfl
  refine .trans ?_ (finished _)
  unfold State.dueCompletion
  split
  · split
    · split
      · exact s.fillDone_follows
      · exact .of_sockets (by simp)
      · exact .of_sockets (by simp)
    · exact .refl s
  · exact .refl s

theorem State.takeTag_staysSafe (s : State) (r : List Word) : s.StaysSafe (s.takeTag r) := by
  unfold State.takeTag
  split
  · exact (State.Follows.refl s).staysSafe
  · exact s.handOff_staysSafe _

theorem State.headerRead_staysSafe (s : State) (rec : Option (List Word)) : s.StaysSafe (s.headerRead rec) := by
  unfold State.headerRead
  split
  · exact (State.Follows.of_sockets (by simp [State.staleHeader])).staysSafe
  · dsimp only
    split
    · refine .trans (.trans ?_ (State.takeConfig_follows _ _).staysSafe) (State.takeTag_staysSafe _ _)
      exact (State.Follows.of_sockets rfl).staysSafe
    · exact (State.Follows.of_sockets rfl).staysSafe

theorem State.takeRecord_follows (s : State) (i : SocketIx) (rec : Option (List Word)) :
    s.Follows (s.takeRecord i rec).1 := by
  intro j
  by_cases e : j = i
  · subst e
    have taken : (s.takeRecord j rec).1.sock j = ((s.sock j).takeRecord s.scu.config s.pxr.active j rec).1 := by
      simp [State.takeRecord, State.sock]
      simpa [State.sock] using s.sock_updSock_same j _
    rw [taken]
    exact Socket.takeRecord_follows _ _ _ _ _
  · simpa [s.takeRecord_sock_other i j rec e] using Socket.Follows.refl (s.sock j)

theorem State.thermalWork_follows (s : State) (i : SocketIx) : s.Follows (s.thermalWork i) :=
  s.updSock_follows i fun x => x.thermalVisit_follows _ _

/-- An event of one socket that may change what was credited to it. -/
theorem State.updSock_staysSafe (s : State) (i : SocketIx) {f : Socket → Socket} (h : ∀ x : Socket, x.StaysSafe (f x)) :
    s.StaysSafe (s.updSock i f) := by
  intro j
  by_cases e : j = i
  · subst e
    simpa using h (s.sock j)
  · simpa [s.sock_updSock_other i j f e] using (Socket.Follows.refl (s.sock j)).toStaysSafe

theorem State.accountWork_staysSafe (s : State) (i : SocketIx) (a : Option Bool) (w : AccountWork) :
    s.StaysSafe (s.accountWork i a w) := by
  cases w with
  | credit => exact s.updSock_staysSafe i fun x => x.credit_staysSafe _
  | decide => exact (s.updSock_follows i fun x => x.decide_follows _ a).staysSafe
  | startInterval => exact s.updSock_staysSafe i Socket.startInterval_staysSafe

theorem State.visitSocket_staysSafe (s : State) (i : SocketIx) (rec : Option (List Word)) (o : VisitOrder) :
    s.StaysSafe (s.visitSocket i rec o) :=
  State.visitSocket_keeps (P := s.StaysSafe) i (fun e h => h.trans e.follows.staysSafe)
    (fun t rec h => h.trans (t.takeRecord_follows i rec).staysSafe)
    (fun t h => h.trans (t.thermalWork_follows i).staysSafe)
    (fun t a w h => h.trans (t.accountWork_staysSafe i a w)) s rec o (State.Follows.refl s).staysSafe

/-- A visit keeps the Dwell of every other socket. -/
theorem State.visitSocket_follows_other (s : State) (i j : SocketIx) (rec : Option (List Word)) (o : VisitOrder)
    (other : j ≠ i) : (s.sock j).Follows ((s.visitSocket i rec o).sock j) := by
  refine State.visitSocket_keeps (P := fun t => (s.sock j).Follows (t.sock j)) i
    (fun e h => h.trans (e.follows j)) (fun t rec h => ?_) (fun t h => ?_) (fun t a w h => ?_) s rec o
    (Socket.Follows.refl _)
  · rwa [t.takeRecord_sock_other i j rec other]
  · rwa [t.thermalWork_sock_other i j other]
  · rwa [t.accountWork_sock_other i j a w other]

theorem State.bsrDone_follows (s : State) (gap : List VisitEvent) : s.Follows (s.bsrDone gap) := by
  unfold State.bsrDone
  split
  · refine .trans (.trans ?_ (State.visitEvents_follows _ gap)) (.of_sockets rfl)
    exact .of_sockets (by simp)
  · exact .refl s

theorem State.failDone_follows (s : State) (gap : List VisitEvent) : s.Follows (s.failDone gap) := by
  unfold State.failDone
  split
  · refine .trans (.trans (.trans ?_ (State.updSock_follows _ _ fun x => x.recordMoved_follows))
      (State.visitEvents_follows _ gap)) (State.nextMove_follows _ _ _ _)
    exact .of_sockets (by simp)
  · exact .refl s

theorem State.ssrDone_follows (s : State) (gap : List VisitEvent) : s.Follows (s.ssrDone gap) := by
  unfold State.ssrDone
  split
  · refine .trans ?_ (State.nextVisit_follows _ _ gap)
    exact .of_sockets (by simp)
  · exact .refl s

theorem State.chunkDone_follows (s : State) (u : BitVec 3) (gap : List VisitEvent) :
    s.Follows (s.chunkDone u gap) := by
  unfold State.chunkDone
  split
  · refine .trans ?_ (State.endSweep_follows _ gap)
    exact .of_sockets (by simp)
  · exact .refl s

/-! ## Every command -/

/-- A reset leaves sockets with both outputs off and nothing staged. -/
theorem Socket.reset_staysSafe (x : Socket) : x.StaysSafe Socket.reset :=
  ⟨fun _ => by decide, fun _ => by decide⟩

theorem State.resetBlocks_staysSafe (s : State) : s.StaysSafe s.resetBlocks := by
  intro i
  simpa [State.sock, State.resetBlocks] using (s.sock i).reset_staysSafe

theorem State.interlockAtReset_follows (s : State) : s.Follows s.interlockAtReset := by
  unfold State.interlockAtReset
  split
  · exact s.interlockEvent_follows
  · exact .refl s

/-- Whatever a command does, the outputs stay apart and the staging FIFOs short. -/
theorem State.Does.staysSafe {s t : State} {c : Instr} (d : s.Does c t) : s.StaysSafe t := by
  cases d with
  | idle => exact (State.Follows.refl s).staysSafe
  | event e => exact e.follows.staysSafe
  | handOff k => exact s.handOff_staysSafe k
  | softReset =>
    have reset := s.abandonTransfer.resetBlocks_staysSafe.trans
      (State.interlockAtReset_follows _).staysSafe
    exact .trans (State.Follows.of_sockets (by simp)).staysSafe
      (reset.trans (State.Follows.of_sockets rfl).staysSafe)
  | powerOnReset => exact s.resetBlocks_staysSafe.trans (State.Follows.of_sockets rfl).staysSafe
  | porRelease =>
    refine .trans (s.resetBlocks_staysSafe.trans ?_) (State.interlockAtReset_follows _).staysSafe
    exact (State.Follows.of_sockets rfl).staysSafe
  | bcrDone u gap =>
    unfold State.bcrDone
    split
    · refine .trans ?_ (((State.headerWork_follows _).trans (State.visitEvents_follows _ gap)).trans
        (.of_sockets rfl)).staysSafe
      refine .trans ?_ (State.headerRead_staysSafe _ _)
      exact (State.Follows.of_sockets rfl).staysSafe
    · exact (State.Follows.refl s).staysSafe
  | bsrDone _ gap => exact (s.bsrDone_follows gap).staysSafe
  | scrDone u o =>
    unfold State.scrDone
    split
    · refine .trans (.trans ?_ (State.visitSocket_staysSafe _ _ _ o)) (State.nextMove_follows _ _ _ _).staysSafe
      exact (State.Follows.of_sockets rfl).staysSafe
    · exact (State.Follows.refl s).staysSafe
  | failDone _ gap => exact (s.failDone_follows gap).staysSafe
  | ssrDone _ gap => exact (s.ssrDone_follows gap).staysSafe
  | chunkDone _ u gap => exact (s.chunkDone_follows u gap).staysSafe

/-- Settles O4: every operation on a socket keeps or ends the outputs, and a pulse has one side. -/
theorem stepsKeepOutputsApart : Obligations.StepsKeepOutputsApart :=
  step_keeps (fun _ _ h => h) fun d h i => (d.staysSafe i).apart (h i)

/-- Settles O5: a record is staged only while fewer than 4 are. -/
theorem stepsKeepStagingShort : Obligations.StepsKeepStagingShort :=
  step_keeps (fun _ _ h => h) fun d h i => (d.staysSafe i).staging (h i)

/-- What a command that neither clears Dwell nor ends the visit of the socket makes of it. -/
theorem State.Does.follows {s t : State} {c : Instr} (d : s.Does c t) (i : SocketIx)
    (notCleared : clearsDwell c = false) (notVisited : endsVisitRead c = true → s.transferring ≠ some (.scrRead i)) :
    (s.sock i).Follows (t.sock i) := by
  cases d with
  | idle => exact .refl _
  | event e => exact e.follows i
  | handOff k clears =>
    exact s.handOff_follows k (fun code => Bool.noConfusion ((clears code).symm.trans notCleared)) i
  | softReset clears => exact Bool.noConfusion (clears.symm.trans notCleared)
  | powerOnReset => exact Bool.noConfusion notCleared
  | porRelease => exact Bool.noConfusion notCleared
  | bcrDone u gap => exact Bool.noConfusion notCleared
  | bsrDone _ gap => exact s.bsrDone_follows gap i
  | scrDone u o visit =>
    unfold State.scrDone
    split
    · next j reading =>
      have other : i ≠ j := fun e => notVisited visit (e ▸ reading)
      exact (State.visitSocket_follows_other s.releasePort j i _ o other).trans (State.nextMove_follows _ _ _ _ i)
    · exact .refl _
  | failDone _ gap => exact s.failDone_follows gap i
  | ssrDone _ gap => exact s.ssrDone_follows gap i
  | chunkDone _ u gap => exact s.chunkDone_follows u gap i

/-- Settles O9: only the crediting of a socket's own visit, the resets and CLEAR_ACCOUNTS reach its Dwell. -/
theorem dwellChangesOnlyAtVisits : Obligations.DwellChangesOnlyAtVisits := by
  intro c s t i answers differs
  refine Decidable.byContradiction fun elsewhere => ?_
  obtain ⟨notVisited, notCleared⟩ := not_or.mp elsewhere
  have kept := (exec_does c s t answers).follows i (by simpa using notCleared)
    fun visit reading => notVisited ⟨visit, reading⟩
  exact differs (by rw [kept.dwellSec, kept.dwellMs])

/-- The state after reset is safe. Settles O8. -/
theorem resetIsSafe : Obligations.ResetIsSafe := by
  refine ⟨reset_memOk, fun i => ?_, fun i => ?_, ?_, ?_⟩
  · simpa [State.sock, State.reset] using (by decide : ¬(Socket.reset.thermal.heaterOn = true ∧
      Socket.reset.thermal.coolerOn = true))
  · simp [State.sock, State.reset, Socket.reset, Account.reset]
  · decide
  · exact ⟨by decide, nofun⟩

/-! ## The words of the memory (sections 1.1, 1.3 and 2.10) -/

theorem State.readWord_of_mem {s t : State} (mem : t.mem = s.mem) (epoch : t.epoch = s.epoch) (a : Nat) :
    t.readWord a = s.readWord a := by
  simp [State.readWord, mem, epoch]

end Sys2Proof.Machine
end

section
/-! The arbiter of the memory port (sections 1.3 and 2.1) under every command: what an event of a gap can do to it, and
what the ends of the transfers make of it. -/

namespace Sys2Proof.Machine

/-! ## The port and what leaves it alone -/

/-- What the arbiter holds: the owner of the port, the transfer in progress and the two waiting requests. -/
def Smc.port (m : Smc) : PortOwner × Option Transfer × Bool × Option Transfer :=
  (m.owner, m.transfer, m.hostWaiting, m.scanWaiting)

theorem Smc.port_eq_iff (m n : Smc) :
    m.port = n.port ↔ m.owner = n.owner ∧ m.transfer = n.transfer ∧ m.hostWaiting = n.hostWaiting ∧
      m.scanWaiting = n.scanWaiting := by
  simp [Smc.port]

@[simp] theorem State.raise_port (s : State) (c : Cause) : (s.raise c).smc.port = s.smc.port := rfl

@[simp] theorem State.raiseIf_port (s : State) (b : Bool) (c : Cause) :
    (s.raiseIf b c).smc.port = s.smc.port := by
  unfold State.raiseIf
  split <;> rfl

@[simp] theorem State.updSock_port (s : State) (i : SocketIx) (f : Socket → Socket) :
    (s.updSock i f).smc.port = s.smc.port := by
  simp [State.updSock]

@[simp] theorem State.updAll_port (s : State) (f : SocketIx → Socket → Socket) :
    (s.updAll f).smc.port = s.smc.port := by
  simp [State.updAll]

@[simp] theorem State.updBankSocks_port (s : State) (b : BankIx) (f : SocketIx → Socket → Socket) :
    (s.updBankSocks b f).smc.port = s.smc.port := by
  simp [State.updBankSocks]

@[simp] theorem State.completeWith_port (s : State) (tag : Byte8) (r : CmdResult) (d : Nat) :
    (s.completeWith tag r d).smc.port = s.smc.port := rfl

@[simp] theorem State.completeChannel_port (s : State) (r : CmdResult) (d : Nat) :
    (s.completeChannel r d).smc.port = s.smc.port := by
  unfold State.completeChannel
  split <;> rfl

@[simp] theorem State.refuse_port (s : State) (tag : Byte8) (why : RefusalReason) :
    (s.refuse tag why).smc.port = s.smc.port := rfl

@[simp] theorem State.enterHold_port (s : State) (r : HoldReason) : (s.enterHold r).smc.port = s.smc.port := by
  simp [State.enterHold]

@[simp] theorem State.checkStopped_port (s : State) : s.checkStopped.smc.port = s.smc.port := by
  unfold State.checkStopped
  split
  · simp
  · rfl

@[simp] theorem State.interlockEvent_port (s : State) : s.interlockEvent.smc.port = s.smc.port := by
  unfold State.interlockEvent
  dsimp only
  split <;> simp

@[simp] theorem State.hostFault_port (s : State) (c : Cause) (a : Word) (k : FaultKind) :
    (s.hostFault c a k).smc.port = s.smc.port := rfl

@[simp] theorem State.cycleDone_port (s : State) (k : CycleKind) (out : Option Word) :
    (s.cycleDone k out).smc.port = s.smc.port := rfl

@[simp] theorem State.finishCycle_port (s : State) (c : HostCycle) (out : Option Word) :
    (s.finishCycle c out).smc.port = s.smc.port := by
  unfold State.finishCycle
  split <;> rfl

@[simp] theorem State.finishCycle_scu (s : State) (c : HostCycle) (out : Option Word) :
    (s.finishCycle c out).scu = s.scu := by
  unfold State.finishCycle
  split <;> rfl

/-- The command channel asks for no access of the memory, and neither begins nor ends a sweep. -/
def State.KeepsPort (s t : State) : Prop := t.smc.port = s.smc.port ∧ t.scu.running = s.scu.running

theorem State.KeepsPort.trans {s t u : State} (f : s.KeepsPort t) (g : t.KeepsPort u) : s.KeepsPort u :=
  ⟨g.1.trans f.1, g.2.trans f.2⟩

theorem State.KeepsPort.refl (s : State) : s.KeepsPort s := ⟨rfl, rfl⟩

theorem State.fillDone_keepsPort (s : State) : s.KeepsPort s.fillDone := by
  constructor <;> simp [State.fillDone]

theorem State.displace_keepsPort (s : State) : s.KeepsPort s.displace := by
  unfold State.displace
  split
  · exact .refl s
  · split
    case h_3 => exact s.fillDone_keepsPort
    all_goals constructor <;> simp

theorem State.judge_keepsPort (s : State) (c : Command) : s.KeepsPort (s.judge c) := by
  unfold State.judge
  split
  · constructor <;> simp
  · unfold State.judgeStart
    (repeat' split) <;> constructor <;> simp [State.beginRun]
  · unfold State.judgeHold
    split <;> constructor <;> simp
  · unfold State.judgeResume
    split <;> constructor <;> simp [State.resumeRun]
  · unfold State.judgeStop
    split <;> constructor <;> simp [State.stopRunning]
  · constructor <;> simp [State.judgeLoad]
  · unfold State.judgeFill
    (repeat' split) <;> constructor <;> simp
  · unfold State.judgeClear
    split <;> constructor <;> simp [State.clearAccounts]
  · unfold State.judgeDiagnose
    (repeat' split) <;> constructor <;> simp

theorem State.handOff_keepsPort (s : State) (c : Command) : s.KeepsPort (s.handOff c) := by
  unfold State.handOff State.takeCommand
  split
  · constructor <;> simp
  · refine .trans (.trans ?_ (State.displace_keepsPort _)) (State.judge_keepsPort _ c)
    exact ⟨rfl, rfl⟩

theorem State.headerWork_keepsPort (s : State) : s.KeepsPort s.headerWork := by
  have finished (t : State) : t.KeepsPort t.finishCheck := by
    unfold State.finishCheck
    split <;> exact ⟨rfl, rfl⟩
  refine .trans ?_ (finished _)
  unfold State.dueCompletion
  split
  · split
    · split
      · exact s.fillDone_keepsPort
      · constructor <;> simp
      · constructor <;> simp
    · exact .refl s
  · exact .refl s

theorem State.takeConfig_keepsPort (s : State) (r : List Word) : s.KeepsPort (s.takeConfig r) := by
  unfold State.takeConfig State.adoptConfig
  dsimp only
  (repeat' split) <;> constructor <;> simp

theorem State.takeTag_keepsPort (s : State) (r : List Word) : s.KeepsPort (s.takeTag r) := by
  unfold State.takeTag
  split
  · exact .refl s
  · exact s.handOff_keepsPort _

theorem State.headerRead_keepsPort (s : State) (rec : Option (List Word)) : s.KeepsPort (s.headerRead rec) := by
  unfold State.headerRead
  split
  · constructor <;> simp [State.staleHeader]
  · dsimp only
    split
    · refine .trans (.trans ?_ (State.takeConfig_keepsPort _ _)) (State.takeTag_keepsPort _ _)
      exact ⟨rfl, rfl⟩
    · exact ⟨rfl, rfl⟩

/-! ## What an event can do to the port -/

/-- What events do to the arbiter: nothing, a host request, the end of a host access, a sweep start while none runs,
or one after the other. -/
inductive State.PortMoves : State → State → Prop
  | same {s t : State} (kept : s.KeepsPort t) : PortMoves s t
  | hostAsks {s t : State} (port : t.smc.port = s.smc.requestHost.port) (running : t.scu.running = s.scu.running) :
      PortMoves s t
  | hostDone {s t : State} (owned : s.smc.owner = .host) (port : t.smc.port = s.smc.release.port)
      (running : t.scu.running = s.scu.running) : PortMoves s t
  | sweepBegins {s t : State} (idle : s.scu.running = false)
      (port : t.smc.port = (s.smc.requestScan .bcrRead).port) (running : t.scu.running = true) : PortMoves s t
  | trans {s t u : State} (f : PortMoves s t) (g : PortMoves t u) : PortMoves s u

theorem State.sweepStartEvent_portMoves (s : State) (n : Word32) : s.PortMoves (s.sweepStartEvent n) := by
  unfold State.sweepStartEvent
  dsimp only
  split
  · exact .same ⟨rfl, rfl⟩
  · next idle => exact .sweepBegins (by simpa using idle) rfl rfl

theorem State.sweepStart_portMoves (s : State) : s.PortMoves s.sweepStart := by
  unfold State.sweepStart
  split
  · exact s.sweepStartEvent_portMoves _
  · exact .same (.refl s)

theorem State.arriving_portMoves (s : State) (b : Bool) {f : State → State} (h : ∀ t : State, t.PortMoves (f t)) :
    s.PortMoves (s.arriving b f) := by
  unfold State.arriving
  split
  · split
    · exact s.sweepStart_portMoves.trans (h _)
    · exact (h s).trans (State.sweepStart_portMoves _)
  · exact h s

theorem State.setScanEnable_portMoves (s : State) (b : Bool) : s.PortMoves (s.setScanEnable b) := by
  unfold State.setScanEnable
  split
  · exact .same (.refl s)
  · split
    · refine .trans ?_ (State.sweepStartEvent_portMoves _ _)
      exact .same ⟨rfl, rfl⟩
    · dsimp only
      split
      · exact .same (by constructor <;> simp)
      · exact .same ⟨rfl, rfl⟩

theorem State.writeRegister_portMoves (s : State) (addr data : Word)
    (noReset : (addr.extractLsb' 0 4).toNat ≠ 0 ∨ data.getLsbD 1 = false) :
    s.PortMoves (s.writeRegister addr data) := by
  unfold State.writeRegister
  split
  · next control =>
    have off : data.getLsbD 1 = false := noReset.resolve_left (absurd control)
    unfold State.writeControl
    rw [off, if_neg (by decide)]
    exact s.setScanEnable_portMoves _
  · exact .same ⟨rfl, rfl⟩
  · exact .same ⟨rfl, rfl⟩
  · exact .same (.refl s)

theorem State.accessDone_portMoves (s : State) : s.PortMoves s.accessDone := by
  unfold State.accessDone
  split
  · next owned _ =>
    split
    · refine .hostDone owned ?_ ?_
      · rw [State.finishCycle_port]
        split <;> rfl
      · rw [State.finishCycle_scu]
        split <;> rfl
    · refine .hostDone owned ?_ ?_
      · simp [State.releasePort]
      · simp
    · exact .same (.refl s)
  · exact .same (.refl s)

theorem State.beginAccess_portMoves (s : State) (k : CycleKind) : s.PortMoves (s.beginAccess k) := by
  refine .hostAsks ?_ rfl
  unfold State.beginAccess Smc.requestHost
  dsimp only
  split <;> rfl

/-- An event keeps the arbiter, or makes or ends a host request, or begins a sweep. -/
theorem State.Event.portMoves {s t : State} (e : s.Event t) : s.PortMoves t := by
  cases e with
  | senseTick => exact .same (by constructor <;> simp [State.senseTick])
  | railSample => exact .same (by constructor <;> simp [State.railSample])
  | fastTrip =>
    unfold State.fastTrip
    dsimp only
    split <;> exact .same (by constructor <;> simp)
  | chainStart =>
    unfold State.chainStart
    split <;> exact .same (by constructor <;> simp)
  | socketExpiry =>
    unfold State.socketExpiry
    split <;> exact .same (by constructor <;> simp)
  | feedSample b c =>
    unfold State.feedSample State.bankTrip State.lockBank State.cutBank
    dsimp only
    (repeat' split) <;> exact .same (by constructor <;> simp)
  | bankExpiry =>
    unfold State.bankExpiry
    split <;> exact .same (by constructor <;> simp)
  | sensorSample => exact .same (by constructor <;> simp [State.sensorSample])
  | periodStart => exact .same (by constructor <;> simp [State.periodStart])
  | pwmTick =>
    unfold State.pwmTick State.periodStart
    split <;> exact .same (by constructor <;> simp)
  | frameBoundary =>
    unfold State.frameBoundary State.boundaryEvent
    split <;> exact .same (by constructor <;> simp)
  | laneVector =>
    unfold State.laneVector State.vectorEvent
    split <;> exact .same (by constructor <;> simp)
  | selftestExpiry =>
    unfold State.selftestExpiry State.selftestTimeout
    split <;> exact .same (by constructor <;> simp)
  | interlockAssert =>
    unfold State.interlockAssert
    dsimp only
    (repeat' split) <;> exact .same (by constructor <;> simp)
  | interlockRelease => exact .same ⟨rfl, rfl⟩
  | hostRead req =>
    unfold State.hostRead
    split
    · exact s.arriving_portMoves _ fun t => t.beginAccess_portMoves _
    · exact .same (.refl s)
  | hostWrite req data =>
    unfold State.hostWrite
    dsimp only
    split
    · refine s.arriving_portMoves _ fun t => ?_
      split
      · exact .same ⟨rfl, rfl⟩
      · exact t.beginAccess_portMoves _
    · exact .same (.refl s)
  | noAccess =>
    unfold State.noAccess
    (repeat' split) <;> exact .same ⟨rfl, rfl⟩
  | accessDone => exact s.accessDone_portMoves
  | strobeRelease =>
    unfold State.strobeRelease
    (repeat' split) <;> exact .same ⟨rfl, rfl⟩
  | registerWrite addr data noReset =>
    unfold State.registerWrite
    split
    · exact (s.writeRegister_portMoves addr data noReset).trans (.same ⟨rfl, rfl⟩)
    · exact .same (.refl s)
  | sweepStart => exact s.sweepStart_portMoves

/-! ## What the moves keep -/

/-- The port while the Scan Unit neither has it nor asks for it. -/
def Smc.openPort (m : Smc) : Prop :=
  m.owner ≠ .scan ∧ m.transfer = none ∧ m.scanWaiting = none ∧ (m.owner = .none → m.hostWaiting = false)

/-- A running sweep between two of its transfers. -/
def State.inGap (s : State) : Prop := s.smc.openPort ∧ s.scu.running = true

theorem Smc.openPort_of_port {m n : Smc} (port : n.port = m.port) (h : m.openPort) : n.openPort := by
  obtain ⟨owner, transfer, hostWaiting, scanWaiting⟩ := (Smc.port_eq_iff n m).mp port
  simpa [Smc.openPort, owner, transfer, hostWaiting, scanWaiting] using h

theorem State.KeepsPort.inGap {s t : State} (k : s.KeepsPort t) (h : s.inGap) : t.inGap :=
  ⟨Smc.openPort_of_port k.1 h.1, k.2.trans h.2⟩

theorem State.arbiterOk_of_port {s t : State} (port : t.smc.port = s.smc.port)
    (running : t.scu.running = s.scu.running) (h : s.arbiterOk) : t.arbiterOk := by
  obtain ⟨owner, transfer, hostWaiting, scanWaiting⟩ := (Smc.port_eq_iff _ _).mp port
  simpa [State.arbiterOk, owner, transfer, hostWaiting, scanWaiting, running] using h

/-- While the Scan Unit asks for nothing the arbiter's conditions hold, within a sweep or between two. -/
theorem State.arbiterOk_of_openPort {s : State} (h : s.smc.openPort) : s.arbiterOk := by
  obtain ⟨notScan, transfer, scanWaiting, free⟩ := h
  exact ⟨by simp [notScan, transfer], fun e => ⟨free e, scanWaiting⟩, fun _ => scanWaiting,
    fun _ => ⟨notScan, scanWaiting⟩⟩

theorem Smc.openPort_requestHost {m : Smc} (h : m.openPort) : m.requestHost.openPort := by
  obtain ⟨notScan, transfer, scanWaiting, free⟩ := h
  unfold Smc.requestHost
  split
  · exact ⟨nofun, transfer, scanWaiting, nofun⟩
  · next busy => exact ⟨notScan, transfer, scanWaiting, fun e => absurd e busy⟩

/-- A port released with no transfer waiting has none. -/
theorem Smc.openPort_release {m : Smc} (scanWaiting : m.scanWaiting = none) : m.release.openPort := by
  unfold Smc.release
  cases hostWaiting : m.hostWaiting <;> simp [scanWaiting, Smc.openPort, Smc.grantHost]

/-- A transfer asked for in a gap is granted or waits. -/
theorem State.arbiterOk_requestScan {s t : State} {f : Transfer} (h : s.smc.openPort)
    (port : t.smc.port = (s.smc.requestScan f).port) (running : t.scu.running = true) : t.arbiterOk := by
  obtain ⟨notScan, transfer, scanWaiting, free⟩ := h
  refine State.arbiterOk_of_port (s := { t with smc := s.smc.requestScan f }) port rfl ?_
  by_cases e : s.smc.owner = .none
  · simp [State.arbiterOk, Smc.requestScan_free _ _ e, Smc.grantScan, running]
  · simp [State.arbiterOk, Smc.requestScan_busy _ _ e, transfer, notScan, e, running]

theorem State.PortMoves.inGap {s t : State} (m : s.PortMoves t) : s.inGap → t.inGap := by
  induction m with
  | same kept => exact kept.inGap
  | hostAsks port running =>
    exact fun h => ⟨Smc.openPort_of_port port (Smc.openPort_requestHost h.1), running.trans h.2⟩
  | hostDone _ port running =>
    exact fun h => ⟨Smc.openPort_of_port port (Smc.openPort_release h.1.2.2.1), running.trans h.2⟩
  | sweepBegins idle => exact fun h => Bool.noConfusion (idle.symm.trans h.2)
  | trans _ _ f g => exact g ∘ f

/-- The host's request, which owns the port or waits. -/
theorem State.arbiterOk_requestHost {s t : State} (h : s.arbiterOk) (port : t.smc.port = s.smc.requestHost.port)
    (running : t.scu.running = s.scu.running) : t.arbiterOk := by
  refine State.arbiterOk_of_port (s := { s with smc := s.smc.requestHost }) port running ?_
  obtain ⟨holds, free, alone, idle⟩ := h
  by_cases e : s.smc.owner = .none
  · have transfer : s.smc.transfer = none := by simpa [e] using holds
    simp [State.arbiterOk, Smc.requestHost_free _ e, Smc.grantHost, transfer, (free e).2]
  · rw [Smc.requestHost_busy _ e]
    exact ⟨holds, fun f => absurd f e, alone, idle⟩

/-- The end of a host access, which grants the port to a waiting transfer. -/
theorem State.arbiterOk_hostDone {s t : State} (h : s.arbiterOk) (port : t.smc.port = s.smc.release.port)
    (running : t.scu.running = s.scu.running) : t.arbiterOk := by
  refine State.arbiterOk_of_port (s := { s with smc := s.smc.release }) port running ?_
  obtain ⟨-, -, -, idle⟩ := h
  cases waits : s.smc.scanWaiting with
  | none => exact State.arbiterOk_of_openPort (Smc.openPort_release waits)
  | some f =>
    have runs : s.scu.running = true := by
      refine Decidable.byContradiction fun stands => ?_
      simpa [waits] using (idle (by simpa using stands)).2
    unfold Smc.release
    cases hostWaiting : s.smc.hostWaiting <;> simp [waits]
    · simp [State.arbiterOk, Smc.grantScan, runs]
    · split <;> simp [State.arbiterOk, Smc.grantScan, Smc.grantHost, runs]

theorem State.PortMoves.arbiterOk {s t : State} (m : s.PortMoves t) : s.arbiterOk → t.arbiterOk := by
  induction m with
  | same kept => exact State.arbiterOk_of_port kept.1 kept.2
  | hostAsks port running => exact fun h => State.arbiterOk_requestHost h port running
  | hostDone _ port running => exact fun h => State.arbiterOk_hostDone h port running
  | @sweepBegins s t idle port running =>
    intro ⟨holds, free, _, asksNot⟩
    obtain ⟨notScan, scanWaiting⟩ := asksNot idle
    have transfer : s.smc.transfer = none := by simpa [notScan] using holds
    exact State.arbiterOk_requestScan ⟨notScan, transfer, scanWaiting, fun e => (free e).1⟩ port running
  | trans _ _ f g => exact g ∘ f

/-! ## The ends of the transfers -/

/-- The end of a transfer opens a gap. -/
theorem State.inGap_release {s : State} {f : Transfer} (h : s.arbiterOk) (reading : s.transferring = some f)
    {t : State} (port : t.smc.port = s.smc.release.port) (running : t.scu.running = s.scu.running) : t.inGap := by
  obtain ⟨-, -, alone, idle⟩ := h
  have owned : s.smc.owner = .scan := by
    refine Decidable.byContradiction fun other => ?_
    simp [State.transferring, other] at reading
  refine ⟨Smc.openPort_of_port port (Smc.openPort_release (alone owned)), running.trans ?_⟩
  refine Decidable.byContradiction fun stands => ?_
  exact (idle (by simpa using stands)).1 owned

theorem State.inGap_visitEvents {s : State} (es : List VisitEvent) (h : s.inGap) : (s.visitEvents es).inGap :=
  State.visitEvents_keep (fun e => e.portMoves.inGap) s es h

theorem State.arbiterOk_visitEvents {s : State} (es : List VisitEvent) (h : s.arbiterOk) :
    (s.visitEvents es).arbiterOk :=
  State.visitEvents_keep (fun e => e.portMoves.arbiterOk) s es h

theorem State.inGap_visitSocket {s : State} (i : SocketIx) (rec : Option (List Word)) (o : VisitOrder)
    (h : s.inGap) : (s.visitSocket i rec o).inGap := by
  refine State.visitSocket_keeps (P := State.inGap) i (fun e => e.portMoves.inGap) (fun t rec => ?_) (fun t => ?_)
    (fun t a w => ?_) s rec o h
  · exact State.KeepsPort.inGap (by constructor <;> simp [State.takeRecord])
  · exact State.KeepsPort.inGap (by constructor <;> simp [State.thermalWork])
  · exact State.KeepsPort.inGap (by cases w <;> constructor <;> simp [State.accountWork])

theorem State.arbiterOk_beginVisit {s : State} (i : SocketIx) (h : s.inGap) : (s.beginVisit i).arbiterOk :=
  State.arbiterOk_requestScan h.1 rfl h.2

theorem State.arbiterOk_nextMove {s : State} (i : SocketIx) (n : Nat) (b : Bool) (h : s.inGap) :
    (s.nextMove i n b).arbiterOk := by
  unfold State.nextMove
  split <;> exact State.arbiterOk_requestScan h.1 rfl h.2

@[simp] theorem State.fillAtEnd_smc (s : State) : s.fillAtEnd.smc = s.smc := by
  unfold State.fillAtEnd
  split
  · dsimp only
    split <;> rfl
  · rfl

theorem State.arbiterOk_endSweep {s : State} (gap : List VisitEvent) (h : s.inGap) :
    (s.endSweep gap).arbiterOk := by
  have closed : s.closeSweep.smc = s.smc := by simp [State.closeSweep]
  unfold State.endSweep
  split
  · have again : s.closeSweep.enterSweep.inGap := ⟨by simpa [State.enterSweep, closed] using h.1, rfl⟩
    exact State.arbiterOk_requestScan (State.inGap_visitEvents gap again).1 rfl (State.inGap_visitEvents gap again).2
  · exact State.arbiterOk_visitEvents gap (State.arbiterOk_of_openPort (closed ▸ h.1))

theorem State.arbiterOk_nextVisit {s : State} (i : SocketIx) (gap : List VisitEvent) (h : s.inGap) :
    (s.nextVisit i gap).arbiterOk := by
  have later := State.inGap_visitEvents gap h
  unfold State.nextVisit
  split
  · exact State.arbiterOk_beginVisit _ later
  · split
    · exact State.arbiterOk_requestScan later.1 rfl later.2
    · exact State.arbiterOk_endSweep gap h

theorem State.takeChunk_keepsPort (s : State) (c : Nat) (rec : Option (List Word)) :
    s.KeepsPort (s.takeChunk c rec) := by
  unfold State.takeChunk State.failLoad State.deliverChunk
  dsimp only
  (repeat' split) <;> constructor <;> simp

/-- A reset leaves the port free and no sweep running. -/
theorem State.arbiterOk_atReset {s : State} (port : s.smc.port = Smc.reset.port) (running : s.scu.running = false) :
    s.arbiterOk :=
  State.arbiterOk_of_port (s := State.reset) port running (by decide)

theorem State.interlockAtReset_keepsPort (s : State) : s.KeepsPort s.interlockAtReset := by
  unfold State.interlockAtReset
  split
  · constructor <;> simp
  · exact .refl s

/-- Whatever a command does, the arbiter's conditions stand. -/
theorem State.Does.arbiterOk {s t : State} {c : Instr} (d : s.Does c t) (h : s.arbiterOk) : t.arbiterOk := by
  cases d with
  | idle => exact h
  | event e => exact e.portMoves.arbiterOk h
  | handOff k => exact State.arbiterOk_of_port (s.handOff_keepsPort k).1 (s.handOff_keepsPort k).2 h
  | softReset =>
    have kept := s.abandonTransfer.resetBlocks.interlockAtReset_keepsPort
    exact State.arbiterOk_atReset kept.1 kept.2
  | powerOnReset => exact State.arbiterOk_atReset rfl rfl
  | porRelease =>
    have kept := State.interlockAtReset_keepsPort { s.resetBlocks with
      pins := { s.pins with por := false }, time := { runMs := 0, pwmTick := 0 } }
    exact State.arbiterOk_atReset kept.1 kept.2
  | bcrDone u gap =>
    unfold State.bcrDone
    split
    · next reading =>
      have worked := ((State.headerRead_keepsPort s.releasePort (s.readRecord bcrBase 128 u)).trans (State.headerWork_keepsPort _)).inGap
        (State.inGap_release h reading rfl rfl)
      have later := State.inGap_visitEvents gap worked
      exact State.arbiterOk_requestScan later.1 rfl later.2
    · exact h
  | bsrDone _ gap =>
    unfold State.bsrDone
    split
    · next ws reading =>
      exact State.arbiterOk_beginVisit 0 (State.inGap_visitEvents gap
        (State.inGap_release h reading (by simp [State.releasePort]) (by simp)))
    · exact h
  | scrDone u o =>
    unfold State.scrDone
    split
    · next i reading =>
      exact State.arbiterOk_nextMove i _ _ (State.inGap_visitSocket i _ o (State.inGap_release h reading rfl rfl))
    · exact h
  | failDone _ gap =>
    unfold State.failDone
    split
    · next i slot ws reading =>
      exact State.arbiterOk_nextMove i _ _ (State.inGap_visitEvents gap
        (State.inGap_release h reading (by simp [State.releasePort]) (by simp)))
    · exact h
  | ssrDone _ gap =>
    unfold State.ssrDone
    split
    · next i ws reading =>
      exact State.arbiterOk_nextVisit i gap
        (State.inGap_release h reading (by simp [State.releasePort]) (by simp))
    · exact h
  | chunkDone _ u gap =>
    unfold State.chunkDone
    split
    · next k reading =>
      exact State.arbiterOk_endSweep gap ((State.takeChunk_keepsPort _ k _).inGap
        (State.inGap_release h reading rfl rfl))
    · exact h

/-- Settles O6: within a sweep the Scan Unit asks for a transfer only where a gap ends, and between sweeps only a
sweep start asks for one. -/
theorem stepsKeepTheArbiter : Obligations.StepsKeepTheArbiter :=
  step_keeps (fun _ _ h => h) State.Does.arbiterOk

end Sys2Proof.Machine
end

section
/-! The STOPPING board and its STOP_RUN (sections 3.1 to 3.4) under every command. -/

namespace Sys2Proof.Machine

/-! ## The condition by its cases -/

/-- An idle channel goes with a board that is not STOPPING. -/
theorem State.stopOk_idle {s : State} (idle : s.brc.channel = none) : s.stopOk ↔ s.brc.state ≠ .stopping := by
  simp [State.stopOk, State.stopInProgress, idle]

/-- A command in progress is a STOP_RUN, in its step RAMPING, exactly on a STOPPING board. -/
theorem State.stopOk_busy {s : State} {ch : Channel} (busy : s.brc.channel = some ch) :
    s.stopOk ↔ (s.brc.state = .stopping ↔ ch.code = .stopRun) ∧ (ch.code = .stopRun → ch.step = .ramping) := by
  by_cases code : ch.code = .stopRun <;> by_cases step : ch.step = .ramping <;>
    simp [State.stopOk, State.stopInProgress, busy, code, step]

theorem State.stopOk_of_brc {s t : State} (state : t.brc.state = s.brc.state)
    (channel : t.brc.channel = s.brc.channel) (h : s.stopOk) : t.stopOk := by
  simpa [State.stopOk, State.stopInProgress, state, channel] using h

/-- A board that is not STOPPING, with an idle channel. -/
theorem State.stopOk_free {s : State} (idle : s.brc.channel = none) (state : s.brc.state ≠ .stopping) : s.stopOk :=
  (State.stopOk_idle idle).mpr state

/-- A board that is not STOPPING, with a command that is no STOP_RUN. -/
theorem State.stopOk_other {s : State} {ch : Channel} (busy : s.brc.channel = some ch) (code : ch.code ≠ .stopRun)
    (state : s.brc.state ≠ .stopping) : s.stopOk :=
  (State.stopOk_busy busy).mpr ⟨by simp [code, state], fun e => absurd e code⟩

/-- While a command that is no STOP_RUN is in progress the board is not STOPPING. -/
theorem State.stopOk.notStopping {s : State} {ch : Channel} (h : s.stopOk) (busy : s.brc.channel = some ch)
    (code : ch.code ≠ .stopRun) : s.brc.state ≠ .stopping := fun e =>
  code (((State.stopOk_busy busy).mp h).1.mp e)

/-- The same command in another step, where it is no STOP_RUN. -/
theorem State.stopOk_setStep {s t : State} {ch : Channel} {st : CmdStep} (h : s.stopOk)
    (busy : s.brc.channel = some ch) (code : ch.code ≠ .stopRun) (state : t.brc.state = s.brc.state)
    (channel : t.brc.channel = (s.brc.setStep st).channel) : t.stopOk := by
  have moved : t.brc.channel = some { ch with step := st } := by simp [channel, Brc.setStep, busy]
  exact State.stopOk_other moved code (state ▸ h.notStopping busy code)

/-- What is at a step is in the channel. -/
theorem Brc.atStep_channel {b : Brc} {code : CmdCode} {st : CmdStep} (at' : b.atStep code st = true) :
    ∃ ch, b.channel = some ch ∧ ch.code = code ∧ ch.step = st := by
  unfold Brc.atStep at at'
  split at at'
  · next ch busy => exact ⟨ch, busy, by simpa using at'⟩
  · cases at'

/-! ## Completions -/

@[simp] theorem State.completeWith_channel (s : State) (tag : Byte8) (r : CmdResult) (d : Nat) :
    (s.completeWith tag r d).brc.channel = none := rfl

@[simp] theorem State.completeWith_state (s : State) (tag : Byte8) (r : CmdResult) (d : Nat) :
    (s.completeWith tag r d).brc.state = s.brc.state := rfl

@[simp] theorem State.completeChannel_channel (s : State) (r : CmdResult) (d : Nat) :
    (s.completeChannel r d).brc.channel = none := by
  unfold State.completeChannel
  split
  · rfl
  · next idle => exact idle

@[simp] theorem State.completeChannel_state (s : State) (r : CmdResult) (d : Nat) :
    (s.completeChannel r d).brc.state = s.brc.state := by
  unfold State.completeChannel
  split <;> rfl

@[simp] theorem State.refuse_channel (s : State) (tag : Byte8) (why : RefusalReason) :
    (s.refuse tag why).brc.channel = s.brc.channel := rfl

@[simp] theorem State.refuse_state (s : State) (tag : Byte8) (why : RefusalReason) :
    (s.refuse tag why).brc.state = s.brc.state := rfl

@[simp] theorem State.fillDone_channel (s : State) : s.fillDone.brc.channel = none := by
  simp [State.fillDone]

@[simp] theorem State.fillDone_state (s : State) : s.fillDone.brc.state = s.brc.state := by
  simp [State.fillDone]

@[simp] theorem State.enterHold_channel (s : State) (r : HoldReason) :
    (s.enterHold r).brc.channel = s.brc.channel := by
  simp [State.enterHold, State.setBoard]

@[simp] theorem State.enterHold_state (s : State) (r : HoldReason) : (s.enterHold r).brc.state = .holding := rfl

/-- A STOP_RUN in the channel ends the command in progress. -/
@[simp] theorem State.displace_channel (s : State) : s.displace.brc.channel = none := by
  unfold State.displace
  split
  · next idle => exact idle
  · split <;> simp

@[simp] theorem State.displace_state (s : State) : s.displace.brc.state = s.brc.state := by
  unfold State.displace
  split
  · rfl
  · split <;> simp

/-- The report that every rail is OFF ends the STOPPING state with its STOP_RUN. -/
theorem State.stopOk_checkStopped {s : State} (h : s.stopOk) : s.checkStopped.stopOk := by
  unfold State.checkStopped
  split
  · exact State.stopOk_free (State.completeChannel_channel _ _ _) (by simp [State.setBoard])
  · exact h

/-- A board that is not STOPPING may enter HOLDING. -/
theorem State.stopOk_enterHold {s : State} (r : HoldReason) (h : s.stopOk) (state : s.brc.state ≠ .stopping) :
    (s.enterHold r).stopOk := by
  cases busy : s.brc.channel with
  | none => exact State.stopOk_free (by simp [busy]) (by simp)
  | some ch =>
    have code : ch.code ≠ .stopRun := fun e => state (((State.stopOk_busy busy).mp h).1.mpr e)
    exact State.stopOk_other (by simp [busy]) code (by simp)

theorem State.stopOk_interlockEvent {s : State} (h : s.stopOk) : s.interlockEvent.stopOk := by
  have counted : ({ s.updAll fun _ x => x.interlockCut with brc := { s.brc with
      interlockCount := satAdd max16 s.brc.interlockCount 1 } }.raise .interlock).stopOk :=
    State.stopOk_of_brc rfl rfl h
  unfold State.interlockEvent
  dsimp only
  simp only [State.updAll_brc]
  split
  · next running => exact State.stopOk_enterHold _ counted (by simp [running])
  · next holding => exact State.stopOk_enterHold _ counted (by simp [holding])
  · exact State.stopOk_checkStopped counted
  · exact counted

/-! ## Commands -/

/-- The channel with an accepted STOP_RUN, on a board that it makes STOPPING. -/
theorem State.stopOk_stopping {s : State} {c : Command} (busy : s.brc.channel = some (c.channel .stopRun .ramping))
    (state : s.brc.state = .stopping) : s.stopOk :=
  (State.stopOk_busy busy).mpr ⟨by simp [state, Command.channel], fun _ => rfl⟩

/-- STOP_RUN takes the channel and makes the board STOPPING, or completes at once. -/
theorem State.stopOk_judgeStop {s : State} (c : Command) : (s.judgeStop c).stopOk := by
  unfold State.judgeStop
  split
  · next stopped => exact State.stopOk_free rfl (by simp [State.accept, stopped])
  · exact State.stopOk_checkStopped (State.stopOk_stopping (c := c) rfl rfl)
  all_goals
    refine State.stopOk_checkStopped (State.stopOk_stopping (c := c) ?_ rfl)
    simp [State.stopRunning, State.setBoard, State.holdChannel]

/-- Whatever is made of a command on an idle channel: a refusal and a completion leave the channel idle, and only an
accepted STOP_RUN leaves the board STOPPING. -/
theorem State.stopOk_judge {s : State} (c : Command) (idle : s.brc.channel = none)
    (state : s.brc.state ≠ .stopping ∨ c.code = some .stopRun) : (s.judge c).stopOk := by
  have refused (why : RefusalReason) (h : s.brc.state ≠ .stopping) : (s.refuse c.tag why).stopOk :=
    State.stopOk_free idle h
  have notStopping {k : Option CmdCode} (code : c.code = k) (other : k ≠ some .stopRun) :
      s.brc.state ≠ .stopping := state.resolve_right (code ▸ other)
  unfold State.judge
  split
  · next code => exact refused _ (notStopping code nofun)
  · next code =>
    unfold State.judgeStart
    (repeat' split)
    · exact refused _ (notStopping code nofun)
    · exact refused _ (notStopping code nofun)
    · exact State.stopOk_free rfl (by simp [State.beginRun])
  · next code =>
    unfold State.judgeHold
    split
    · exact refused _ (notStopping code nofun)
    · exact State.stopOk_free rfl (by simp)
  · next code =>
    unfold State.judgeResume
    split
    · exact refused _ (notStopping code nofun)
    · exact State.stopOk_free rfl (by simp [State.resumeRun, State.setBoard])
  · exact State.stopOk_judgeStop c
  · next code =>
    exact State.stopOk_other (ch := c.channel .loadLaneMap .reading) rfl nofun (notStopping code nofun)
  · next code =>
    unfold State.judgeFill
    (repeat' split)
    · exact refused _ (notStopping code nofun)
    · exact State.stopOk_other (ch := c.channel .fillLaneMap .firstHalf) rfl nofun (notStopping code nofun)
    · exact refused _ (notStopping code nofun)
  · next code =>
    unfold State.judgeClear
    split
    · exact refused _ (notStopping code nofun)
    · exact State.stopOk_free rfl (by simpa [State.clearAccounts, State.accept] using notStopping code nofun)
  · next code =>
    unfold State.judgeDiagnose
    (repeat' split)
    · exact refused _ (notStopping code nofun)
    · exact State.stopOk_free rfl (notStopping code nofun)
    · exact State.stopOk_other (ch := c.channel .diagnose .frameWait) rfl nofun (notStopping code nofun)

theorem State.stopOk_handOff {s : State} (c : Command) (h : s.stopOk) : (s.handOff c).stopOk := by
  unfold State.handOff State.takeCommand
  split
  · exact State.stopOk_of_brc rfl rfl h
  · next free =>
    refine State.stopOk_judge c (State.displace_channel _) ?_
    rw [State.displace_state]
    by_cases stop : c.code = some .stopRun
    · exact .inr stop
    · have idle : s.brc.channel = none := by simpa [stop] using free
      exact .inl ((State.stopOk_idle idle).mp h)

/-! ## Events -/

/-- A frame boundary takes a step of a load or a diagnosis only. -/
theorem State.stopOk_boundaryEvent {s : State} (h : s.stopOk) : s.boundaryEvent.stopOk := by
  have step {code : CmdCode} {st next : CmdStep} (at' : s.brc.atStep code st = true) (other : code ≠ .stopRun)
      {t : State} (state : t.brc.state = s.brc.state) (channel : t.brc.channel = (s.brc.setStep next).channel) :
      t.stopOk := by
    obtain ⟨ch, busy, is, -⟩ := Brc.atStep_channel at'
    exact State.stopOk_setStep h busy (is ▸ other) state channel
  unfold State.boundaryEvent Brc.boundary
  dsimp only
  split
  · split
    · next at' => exact step at' nofun rfl rfl
    · exact State.stopOk_of_brc rfl rfl h
  · split
    · next at' => exact step at' nofun rfl rfl
    · split
      · next at' => exact step at' nofun rfl rfl
      · exact State.stopOk_of_brc rfl rfl h

@[simp] theorem State.sweepStartEvent_brc (s : State) (n : Word32) : (s.sweepStartEvent n).brc = s.brc := by
  unfold State.sweepStartEvent
  split <;> simp [State.beginSweep, State.enterSweep]

@[simp] theorem State.sweepStart_brc (s : State) : s.sweepStart.brc = s.brc := by
  unfold State.sweepStart
  split <;> simp

theorem State.arriving_brc (s : State) (b : Bool) (f : State → State) (h : ∀ t, (f t).brc = t.brc) :
    (s.arriving b f).brc = s.brc := by
  unfold State.arriving
  (repeat' split) <;> simp [h]

theorem State.stopOk_setScanEnable {s : State} (b : Bool) (h : s.stopOk) : (s.setScanEnable b).stopOk := by
  unfold State.setScanEnable
  split
  · exact h
  · split
    · exact State.stopOk_of_brc (by simp) (by simp) h
    · dsimp only
      split
      · next running => exact State.stopOk_enterHold _ h (by simp [running])
      · exact h

@[simp] theorem State.finishCycle_brc (s : State) (c : HostCycle) (out : Option Word) :
    (s.finishCycle c out).brc = s.brc := by
  unfold State.finishCycle
  split <;> rfl

@[simp] theorem State.accessDone_brc (s : State) : s.accessDone.brc = s.brc := by
  unfold State.accessDone
  split
  · split
    · rw [State.finishCycle_brc]
      split <;> rfl
    · simp
    · rfl
  · rfl

theorem State.stopOk_writeRegister {s : State} (addr data : Word)
    (noReset : (addr.extractLsb' 0 4).toNat ≠ 0 ∨ data.getLsbD 1 = false) (h : s.stopOk) :
    (s.writeRegister addr data).stopOk := by
  unfold State.writeRegister
  split
  · next control =>
    have off : data.getLsbD 1 = false := noReset.resolve_left (absurd control)
    unfold State.writeControl
    rw [off, if_neg (by decide)]
    exact State.stopOk_setScanEnable _ h
  · exact h
  · exact h
  · exact h

/-- No event makes the board STOPPING or takes its STOP_RUN, but the report that every rail is OFF. -/
theorem State.Event.stopOk {s t : State} (e : s.Event t) (h : s.stopOk) : t.stopOk := by
  cases e with
  | senseTick => exact State.stopOk_checkStopped (State.stopOk_of_brc (by simp) (by simp) h)
  | fastTrip =>
    unfold State.fastTrip
    dsimp only
    split
    · exact State.stopOk_checkStopped (State.stopOk_of_brc (by simp) (by simp) h)
    · exact h
  | feedSample b c =>
    have tripped : ((s.updBank b fun k => { k with feed := c }).bankTrip b).brc = s.brc := by
      unfold State.bankTrip State.lockBank State.cutBank
      dsimp only
      (repeat' split) <;> simp
    unfold State.feedSample
    dsimp only
    split
    · exact State.stopOk_checkStopped (State.stopOk_of_brc (by simp [tripped]) (by simp [tripped]) h)
    · exact h
  | frameBoundary =>
    unfold State.frameBoundary
    split
    · exact State.stopOk_boundaryEvent h
    · exact h
  | interlockAssert =>
    unfold State.interlockAssert
    dsimp only
    (repeat' split)
    · exact h
    · exact h
    · exact State.stopOk_interlockEvent (State.stopOk_of_brc rfl rfl h)
  | registerWrite addr data noReset =>
    unfold State.registerWrite
    split
    · exact State.stopOk_of_brc (s := s.writeRegister addr data) rfl rfl
        (State.stopOk_writeRegister addr data noReset h)
    · exact h
  | railSample => exact State.stopOk_of_brc (by simp [State.railSample]) (by simp [State.railSample]) h
  | sensorSample => exact State.stopOk_of_brc (by simp [State.sensorSample]) (by simp [State.sensorSample]) h
  | periodStart => exact State.stopOk_of_brc (by simp [State.periodStart]) (by simp [State.periodStart]) h
  | chainStart =>
    unfold State.chainStart
    split <;> exact State.stopOk_of_brc (by simp) (by simp) h
  | socketExpiry =>
    unfold State.socketExpiry
    split <;> exact State.stopOk_of_brc (by simp) (by simp) h
  | bankExpiry =>
    unfold State.bankExpiry
    split <;> exact State.stopOk_of_brc (by simp) (by simp) h
  | pwmTick =>
    unfold State.pwmTick State.periodStart
    split <;> exact State.stopOk_of_brc (by simp) (by simp) h
  | laneVector =>
    unfold State.laneVector State.vectorEvent
    split <;> exact State.stopOk_of_brc (by simp) (by simp) h
  | selftestExpiry =>
    unfold State.selftestExpiry State.selftestTimeout
    split <;> exact State.stopOk_of_brc (by simp) (by simp) h
  | interlockRelease => exact h
  | hostRead req =>
    have kept : (s.hostRead req).brc = s.brc := by
      unfold State.hostRead
      split
      · exact s.arriving_brc _ _ fun _ => rfl
      · rfl
    exact State.stopOk_of_brc (by simp [kept]) (by simp [kept]) h
  | hostWrite req data =>
    have kept : (s.hostWrite req data).brc = s.brc := by
      unfold State.hostWrite
      dsimp only
      split
      · exact s.arriving_brc _ _ fun _ => by split <;> rfl
      · rfl
    exact State.stopOk_of_brc (by simp [kept]) (by simp [kept]) h
  | noAccess =>
    unfold State.noAccess
    (repeat' split) <;> exact h
  | accessDone => exact State.stopOk_of_brc (by simp) (by simp) h
  | strobeRelease =>
    unfold State.strobeRelease
    (repeat' split) <;> exact h
  | sweepStart => exact State.stopOk_of_brc (by simp) (by simp) h

/-! ## The ends of the transfers -/

theorem State.stopOk_visitEvents {s : State} (es : List VisitEvent) (h : s.stopOk) : (s.visitEvents es).stopOk :=
  State.visitEvents_keep (fun e => e.stopOk) s es h

theorem State.stopOk_visitSocket {s : State} (i : SocketIx) (rec : Option (List Word)) (o : VisitOrder)
    (h : s.stopOk) : (s.visitSocket i rec o).stopOk := by
  refine State.visitSocket_keeps (P := State.stopOk) i (fun e => e.stopOk) (fun t rec => ?_) (fun t => ?_)
    (fun t a w => ?_) s rec o h
  · exact State.stopOk_of_brc (by simp [State.takeRecord]) (by simp [State.takeRecord])
  · exact State.stopOk_of_brc (by simp [State.thermalWork]) (by simp [State.thermalWork])
  · exact State.stopOk_of_brc (by cases w <;> simp [State.accountWork]) (by cases w <;> simp [State.accountWork])

theorem State.stopOk_headerWork {s : State} (h : s.stopOk) : s.headerWork.stopOk := by
  have finished (t : State) (ok : t.stopOk) : t.finishCheck.stopOk := by
    unfold State.finishCheck
    split <;> exact ok
  refine finished _ ?_
  unfold State.dueCompletion
  split
  · next ch busy =>
    split
    · next done =>
      have code : ch.code ≠ .stopRun := fun e => by
        simpa [done] using ((State.stopOk_busy busy).mp h).2 e
      have state := h.notStopping busy code
      split <;> exact State.stopOk_free (by simp) (by simpa using state)
    · exact h
  · exact h

theorem State.stopOk_headerRead {s : State} (rec : Option (List Word)) (h : s.stopOk) :
    (s.headerRead rec).stopOk := by
  unfold State.headerRead
  split
  · exact State.stopOk_of_brc (by simp [State.staleHeader]) (by simp [State.staleHeader]) h
  · next r =>
    dsimp only
    split
    · have taken (t : State) (ok : t.stopOk) : (t.takeConfig r).stopOk := by
        refine State.stopOk_of_brc (s := t) ?_ ?_ ok <;>
        · unfold State.takeConfig State.adoptConfig
          dsimp only
          (repeat' split) <;> simp
      unfold State.takeTag
      split
      · exact taken _ h
      · exact State.stopOk_handOff _ (taken _ h)
    · exact h

/-- A fill takes its next step at the end of a sweep. -/
theorem State.stopOk_fillAtEnd {s : State} (h : s.stopOk) : s.fillAtEnd.stopOk := by
  unfold State.fillAtEnd
  split
  · next ch busy =>
    dsimp only
    split
    · next code _ => exact State.stopOk_setStep h busy (by simp [code]) rfl rfl
    · next code _ => exact State.stopOk_setStep h busy (by simp [code]) rfl rfl
    · exact h
  · exact h

theorem State.stopOk_endSweep {s : State} (gap : List VisitEvent) (h : s.stopOk) : (s.endSweep gap).stopOk := by
  have closed : s.closeSweep.stopOk := State.stopOk_fillAtEnd (State.stopOk_of_brc rfl rfl h)
  unfold State.endSweep
  split
  · exact State.stopOk_of_brc rfl rfl (State.stopOk_visitEvents gap (State.stopOk_of_brc rfl rfl closed))
  · exact State.stopOk_visitEvents gap closed

theorem State.stopOk_nextVisit {s : State} (i : SocketIx) (gap : List VisitEvent) (h : s.stopOk) :
    (s.nextVisit i gap).stopOk := by
  have later := State.stopOk_visitEvents gap h
  unfold State.nextVisit
  split
  · exact State.stopOk_of_brc rfl rfl later
  · split
    · exact State.stopOk_of_brc rfl rfl later
    · exact State.stopOk_endSweep gap h

theorem State.stopOk_nextMove {s : State} (i : SocketIx) (n : Nat) (b : Bool) (h : s.stopOk) :
    (s.nextMove i n b).stopOk := by
  unfold State.nextMove
  split <;> exact State.stopOk_of_brc rfl rfl h

theorem State.stopOk_takeChunk {s : State} (c : Nat) (rec : Option (List Word)) (h : s.stopOk) :
    (s.takeChunk c rec).stopOk := by
  unfold State.takeChunk
  split
  · next reading =>
    obtain ⟨ch, busy, code, -⟩ := Brc.atStep_channel reading
    have other : ch.code ≠ .stopRun := by simp [code]
    have state := h.notStopping busy other
    have failed (r : CmdResult) (d : Nat) : (s.failLoad r d).stopOk :=
      State.stopOk_free (State.completeChannel_channel _ _ _) (by simpa [State.failLoad] using state)
    split
    · exact failed _ _
    · split
      · exact failed _ _
      · unfold State.deliverChunk
        dsimp only
        split
        · exact State.stopOk_setStep h busy other rfl rfl
        · exact State.stopOk_of_brc rfl rfl h
  · exact h

/-- A reset leaves the board STOPPED with an idle channel. -/
theorem State.stopOk_atReset {s : State} (reset : s.brc = Brc.reset) : s.interlockAtReset.stopOk := by
  have stopped : s.stopOk := State.stopOk_free (by rw [reset]; rfl) (by rw [reset]; decide)
  unfold State.interlockAtReset
  split
  · exact State.stopOk_interlockEvent stopped
  · exact stopped

/-- Whatever a command does, the board is STOPPING exactly while a STOP_RUN is in progress. -/
theorem State.Does.stopOk {s t : State} {c : Instr} (d : s.Does c t) (h : s.stopOk) : t.stopOk := by
  cases d with
  | idle => exact h
  | event e => exact e.stopOk h
  | handOff k => exact State.stopOk_handOff k h
  | softReset => exact State.stopOk_of_brc (s := s.softReset) rfl rfl (State.stopOk_atReset rfl)
  | powerOnReset => exact State.stopOk_free rfl (show Brc.reset.state ≠ .stopping by decide)
  | porRelease => exact State.stopOk_atReset rfl
  | bcrDone u gap =>
    unfold State.bcrDone
    split
    · exact State.stopOk_of_brc rfl rfl (State.stopOk_visitEvents gap (State.stopOk_headerWork
        (State.stopOk_headerRead _ (State.stopOk_of_brc (s := s) rfl rfl h))))
    · exact h
  | bsrDone _ gap =>
    unfold State.bsrDone
    split
    · exact State.stopOk_of_brc rfl rfl (State.stopOk_visitEvents gap
        (State.stopOk_of_brc (s := s) (by simp) (by simp) h))
    · exact h
  | scrDone u o =>
    unfold State.scrDone
    split
    · exact State.stopOk_nextMove _ _ _ (State.stopOk_visitSocket _ _ o (State.stopOk_of_brc (s := s) rfl rfl h))
    · exact h
  | failDone _ gap =>
    unfold State.failDone
    split
    · exact State.stopOk_nextMove _ _ _ (State.stopOk_visitEvents gap
        (State.stopOk_of_brc (s := s) (by simp) (by simp) h))
    · exact h
  | ssrDone _ gap =>
    unfold State.ssrDone
    split
    · exact State.stopOk_nextVisit _ gap (State.stopOk_of_brc (s := s) (by simp) (by simp) h)
    · exact h
  | chunkDone _ u gap =>
    unfold State.chunkDone
    split
    · exact State.stopOk_endSweep gap (State.stopOk_takeChunk _ _ (State.stopOk_of_brc (s := s) rfl rfl h))
    · exact h

/-- Settles O7: only an accepted STOP_RUN makes the board STOPPING, and what ends the one ends the other. -/
theorem stepsKeepStopping : Obligations.StepsKeepStopping :=
  step_keeps (fun _ _ h => h) State.Does.stopOk

end Sys2Proof.Machine
end

section
/-! The statements about the memory, the host port, the registers and the resets (Chapter 1, sections 2.1 and 3.8). -/

namespace Sys2Proof.Machine

/-! ## Rows on a released part -/

/-- A register write row on a released part is the write cycle, whichever row names it. -/
theorem exec_registerWrites (s : State) (addr data : Word) (released : s.pins.por = false) :
    exec (.scanEnableSet addr data) s = .next (s.registerWrite addr data) ∧
    exec (.scanDisable addr data) s = .next (s.registerWrite addr data) ∧
    exec (.softReset addr data) s = .next (s.registerWrite addr data) ∧
    exec (.attentionWrite addr data) s = .next (s.registerWrite addr data) ∧
    exec (.attentionMaskWrite addr data) s = .next (s.registerWrite addr data) ∧
    exec (.registerWriteIgnored addr data) s = .next (s.registerWrite addr data) := by
  have lives : s.live (fun t => t.registerWrite addr data) = s.registerWrite addr data :=
    s.live_of_released _ released
  exact ⟨congrArg _ lives, congrArg _ lives, congrArg _ lives, congrArg _ lives, congrArg _ lives,
    congrArg _ lives⟩

theorem exec_hostCycleWithoutAccess (s : State) (n : NoAccessStrobe) (released : s.pins.por = false) :
    exec (.hostCycleWithoutAccess n) s = .next (s.noAccess n) :=
  congrArg Host.Outcome.next (s.live_of_released _ released)

theorem exec_hostStrobeRelease (s : State) (released : s.pins.por = false) :
    exec .hostStrobeRelease s = .next s.strobeRelease :=
  congrArg Host.Outcome.next (s.live_of_released _ released)

theorem exec_hostAccessComplete (s : State) (released : s.pins.por = false) :
    exec .hostAccessComplete s = .next s.accessDone :=
  congrArg Host.Outcome.next (s.live_of_released _ released)

theorem exec_sweepStart (s : State) (released : s.pins.por = false) :
    exec .sweepStart s = .next s.sweepStart :=
  congrArg Host.Outcome.next (s.live_of_released _ released)

/-! ## What changes the memory (section 1.1) -/

@[simp] theorem State.bankTrip_epoch (s : State) (b : BankIx) : (s.bankTrip b).epoch = s.epoch := by
  unfold State.bankTrip State.lockBank State.cutBank
  dsimp only
  (repeat' split) <;> simp

@[simp] theorem State.sweepStartEvent_epoch (s : State) (n : Word32) : (s.sweepStartEvent n).epoch = s.epoch := by
  unfold State.sweepStartEvent
  split <;> simp [State.beginSweep, State.enterSweep]

@[simp] theorem State.sweepStart_epoch (s : State) : s.sweepStart.epoch = s.epoch := by
  unfold State.sweepStart
  split <;> simp

theorem State.arriving_epoch (s : State) (b : Bool) (f : State → State) (h : ∀ t, (f t).epoch = t.epoch) :
    (s.arriving b f).epoch = s.epoch := by
  unfold State.arriving
  (repeat' split) <;> simp [h]

@[simp] theorem State.finishCycle_epoch (s : State) (c : HostCycle) (out : Option Word) :
    (s.finishCycle c out).epoch = s.epoch := by
  unfold State.finishCycle
  split <;> rfl

theorem State.setScanEnable_epoch (s : State) (b : Bool) : (s.setScanEnable b).epoch = s.epoch := by
  unfold State.setScanEnable
  dsimp only
  (repeat' split) <;> simp

theorem State.writeRegister_epoch (s : State) (addr data : Word)
    (noReset : (addr.extractLsb' 0 4).toNat ≠ 0 ∨ data.getLsbD 1 = false) :
    (s.writeRegister addr data).epoch = s.epoch := by
  unfold State.writeRegister
  split
  · next control =>
    have off : data.getLsbD 1 = false := noReset.resolve_left (absurd control)
    unfold State.writeControl
    rw [off, if_neg (by decide)]
    exact s.setScanEnable_epoch _
  · rfl
  · rfl
  · rfl

/-- No event is a power-on reset. -/
theorem State.Event.epoch {s t : State} (e : s.Event t) : t.epoch = s.epoch := by
  cases e with
  | senseTick => simp [State.senseTick]
  | railSample => simp [State.railSample]
  | fastTrip =>
    unfold State.fastTrip
    dsimp only
    split <;> simp
  | chainStart =>
    unfold State.chainStart
    split <;> simp
  | socketExpiry =>
    unfold State.socketExpiry
    split <;> simp
  | feedSample =>
    unfold State.feedSample
    dsimp only
    split <;> simp
  | bankExpiry =>
    unfold State.bankExpiry
    split <;> simp
  | sensorSample => simp [State.sensorSample]
  | periodStart => simp [State.periodStart]
  | pwmTick =>
    unfold State.pwmTick State.periodStart
    split <;> simp
  | frameBoundary =>
    unfold State.frameBoundary State.boundaryEvent
    split <;> simp
  | laneVector =>
    unfold State.laneVector State.vectorEvent
    split <;> simp
  | selftestExpiry =>
    unfold State.selftestExpiry State.selftestTimeout
    split <;> simp
  | interlockAssert =>
    unfold State.interlockAssert
    dsimp only
    (repeat' split) <;> simp
  | interlockRelease => rfl
  | hostRead =>
    unfold State.hostRead
    split
    · exact s.arriving_epoch _ _ fun _ => rfl
    · rfl
  | hostWrite =>
    unfold State.hostWrite
    dsimp only
    split
    · exact s.arriving_epoch _ _ fun _ => by split <;> rfl
    · rfl
  | noAccess =>
    unfold State.noAccess
    (repeat' split) <;> rfl
  | accessDone =>
    unfold State.accessDone
    split
    · split
      · rw [State.finishCycle_epoch]
        split <;> rfl
      · simp
      · rfl
    · rfl
  | strobeRelease =>
    unfold State.strobeRelease
    (repeat' split) <;> rfl
  | registerWrite addr data noReset =>
    unfold State.registerWrite
    split
    · exact s.writeRegister_epoch addr data noReset
    · rfl
  | sweepStart => simp

theorem State.visitEvents_epoch (s : State) (es : List VisitEvent) : (s.visitEvents es).epoch = s.epoch :=
  State.visitEvents_keep (P := fun t => t.epoch = s.epoch) (fun e h => e.epoch.trans h) s es rfl

theorem State.fillDone_epoch (s : State) : s.fillDone.epoch = s.epoch := by simp [State.fillDone]

theorem State.displace_epoch (s : State) : s.displace.epoch = s.epoch := by
  unfold State.displace
  split
  · rfl
  · split
    case h_3 => exact s.fillDone_epoch
    all_goals simp

theorem State.judge_epoch (s : State) (c : Command) : (s.judge c).epoch = s.epoch := by
  unfold State.judge
  split
  · rfl
  · unfold State.judgeStart
    (repeat' split) <;> simp [State.beginRun]
  · unfold State.judgeHold
    split <;> simp
  · unfold State.judgeResume
    split <;> simp [State.resumeRun]
  · unfold State.judgeStop
    split <;> simp [State.stopRunning]
  · rfl
  · unfold State.judgeFill
    (repeat' split) <;> rfl
  · unfold State.judgeClear
    split <;> simp [State.clearAccounts]
  · unfold State.judgeDiagnose
    (repeat' split) <;> rfl

theorem State.handOff_epoch (s : State) (c : Command) : (s.handOff c).epoch = s.epoch := by
  unfold State.handOff State.takeCommand
  split
  · rfl
  · exact (State.judge_epoch _ c).trans (State.displace_epoch _)

theorem State.headerRead_epoch (s : State) (rec : Option (List Word)) : (s.headerRead rec).epoch = s.epoch := by
  have taken (t : State) (r : List Word) : (t.takeConfig r).epoch = t.epoch := by
    unfold State.takeConfig State.adoptConfig
    dsimp only
    (repeat' split) <;> simp
  unfold State.headerRead
  split
  · simp [State.staleHeader]
  · dsimp only
    split
    · unfold State.takeTag
      split
      · exact taken _ _
      · exact (State.handOff_epoch _ _).trans (taken _ _)
    · rfl

theorem State.headerWork_epoch (s : State) : s.headerWork.epoch = s.epoch := by
  have finished (t : State) : t.finishCheck.epoch = t.epoch := by
    unfold State.finishCheck
    split <;> rfl
  refine (finished _).trans ?_
  unfold State.dueCompletion
  (repeat' split) <;> simp [State.fillDone]

theorem State.fillAtEnd_epoch (s : State) : s.fillAtEnd.epoch = s.epoch := by
  unfold State.fillAtEnd
  dsimp only
  (repeat' split) <;> rfl

theorem State.endSweep_epoch (s : State) (gap : List VisitEvent) : (s.endSweep gap).epoch = s.epoch := by
  have closed : s.closeSweep.epoch = s.epoch := State.fillAtEnd_epoch _
  unfold State.endSweep
  split
  · exact (State.visitEvents_epoch _ gap).trans closed
  · exact (State.visitEvents_epoch _ gap).trans closed

theorem State.nextMove_epoch (s : State) (i : SocketIx) (n : Nat) (b : Bool) : (s.nextMove i n b).epoch = s.epoch := by
  unfold State.nextMove
  split <;> rfl

theorem State.nextVisit_epoch (s : State) (i : SocketIx) (gap : List VisitEvent) :
    (s.nextVisit i gap).epoch = s.epoch := by
  unfold State.nextVisit
  split
  · exact s.visitEvents_epoch gap
  · split
    · exact s.visitEvents_epoch gap
    · exact s.endSweep_epoch gap

theorem State.takeChunk_epoch (s : State) (c : Nat) (rec : Option (List Word)) :
    (s.takeChunk c rec).epoch = s.epoch := by
  unfold State.takeChunk State.failLoad State.deliverChunk
  dsimp only
  (repeat' split) <;> simp

theorem State.visitSocket_epoch (s : State) (i : SocketIx) (rec : Option (List Word)) (o : VisitOrder) :
    (s.visitSocket i rec o).epoch = s.epoch := by
  refine State.visitSocket_keeps (P := fun t => t.epoch = s.epoch) i (fun e h => e.epoch.trans h)
    (fun t rec h => ?_) (fun t h => ?_) (fun t a w h => ?_) s rec o rfl
  · simpa [State.takeRecord] using h
  · simpa [State.thermalWork] using h
  · cases w <;> simpa [State.accountWork] using h

/-- The memory loses its contents at a power-on reset only. -/
theorem State.Does.epoch {s t : State} {c : Instr} (d : s.Does c t) (kept : c ≠ .powerOnReset) :
    t.epoch = s.epoch := by
  have reset (u : State) : u.interlockAtReset.epoch = u.epoch := by
    unfold State.interlockAtReset
    split <;> simp
  cases d with
  | idle => rfl
  | event e => exact e.epoch
  | handOff k => exact s.handOff_epoch k
  | softReset => exact (reset _).trans s.abandonTransfer_epoch
  | powerOnReset => exact absurd rfl kept
  | porRelease => exact reset _
  | bcrDone u gap =>
    unfold State.bcrDone
    split
    · exact (State.visitEvents_epoch _ gap).trans ((State.headerWork_epoch _).trans (State.headerRead_epoch _ _))
    · rfl
  | bsrDone _ gap =>
    unfold State.bsrDone
    split
    · exact (State.visitEvents_epoch _ gap).trans (by simp)
    · rfl
  | scrDone u o =>
    unfold State.scrDone
    split
    · exact (State.nextMove_epoch _ _ _ _).trans (State.visitSocket_epoch _ _ _ o)
    · rfl
  | failDone _ gap =>
    unfold State.failDone
    split
    · exact (State.nextMove_epoch _ _ _ _).trans ((State.visitEvents_epoch _ gap).trans (by simp))
    · rfl
  | ssrDone _ gap =>
    unfold State.ssrDone
    split
    · exact (State.nextVisit_epoch _ _ gap).trans (by simp)
    · rfl
  | chunkDone _ u gap =>
    unfold State.chunkDone
    split
    · exact (State.endSweep_epoch _ gap).trans (State.takeChunk_epoch _ _ _)
    · rfl

/-- What acts on a released part keeps the memory if it does there. -/
theorem State.live_mem (s : State) {f : State → State} (kept : (f s).mem = s.mem) : (s.live f).mem = s.mem := by
  unfold State.live
  split
  · rfl
  · exact kept

theorem notMem_of_contains {es : List VisitEvent} (h : es.contains .hostAccessComplete = false) :
    VisitEvent.hostAccessComplete ∉ es := fun listed => by
  rw [List.contains_iff_mem.mpr listed] at h
  cases h

/-- A command that is not listed as writing memory leaves every written word. -/
theorem exec_keeps_mem (c : Instr) (s t : State) (answers : exec c s = .next t) (none : writesMemory c = false) :
    t.mem = s.mem := by
  have whereItActs {p : Prop} [Decidable p] {u : State} (kept : u.mem = s.mem) :
      (if p then u else s).mem = s.mem := by
    split
    · exact kept
    · rfl
  cases c <;> cases answers <;> try cases none
  case bcrReadComplete u gap =>
    refine s.live_mem ?_
    exact s.bcrDone_mem u gap (notMem_of_contains none)
  case scrReadComplete u o =>
    refine s.live_mem ?_
    exact s.scrDone_mem u o (notMem_of_contains none)
  case runaway u o =>
    refine s.live_mem (whereItActs ?_)
    exact s.scrDone_mem u o (notMem_of_contains none)
  case soakTimeout u o =>
    refine s.live_mem (whereItActs ?_)
    exact s.scrDone_mem u o (notMem_of_contains none)
  case laneMapChunkReadComplete u gap =>
    refine s.live_mem ?_
    exact s.chunkDone_mem u gap (notMem_of_contains none)
  case porRelease => exact whereItActs s.porRelease_mem
  case settleTimeout | dropout | openContact | sensorLost | pwmPeriodStart | startPulseBegin | startPulseEnd =>
    refine s.live_mem (whereItActs ?_)
    simp
  case fastTrip i level => exact s.fastTrip_mem i level
  case interlockAssert => exact s.interlockAssert_mem
  case interlockRelease => exact s.interlockRelease_mem
  all_goals
    refine s.live_mem ?_
    simp

/-- Settles O11: a command not listed keeps the written words, and only a power-on reset changes what an unwritten one
reads as. -/
theorem onlyTransfersAndTheHostWriteMemory : Obligations.OnlyTransfersAndTheHostWriteMemory := by
  intro c s t answers none a
  have notPower : c ≠ .powerOnReset := fun e => by subst e; exact Bool.noConfusion none
  exact State.readWord_of_mem (exec_keeps_mem c s t answers none) ((exec_does c s t answers).epoch notPower) a

/-! ## The arbiter (section 1.3) -/

/-- The port becomes free, or a waiting request has it. -/
theorem Smc.released_release (m : Smc) : released m m.release := by
  refine ⟨fun host scan => ?_, fun host scan => ?_, fun t scan => ⟨fun turn => ?_, fun host last => ?_⟩⟩
  · simp [Smc.release, host, scan]
  · simp [Smc.release, host, scan, Smc.grantHost]
  · cases host : m.hostWaiting with
    | false => simp [Smc.release, host, scan, Smc.grantScan]
    | true =>
      have last : m.lastGranted = .host := by simpa [host] using turn
      simp [Smc.release, host, scan, last, Smc.grantScan]
  · simp [Smc.release, host, scan, last, Smc.grantHost]

@[simp] theorem Smc.release_mask (m : Smc) : m.release.mask = m.mask := by
  unfold Smc.release
  dsimp only
  (repeat' split) <;> rfl

@[simp] theorem Smc.release_attention (m : Smc) : m.release.attention = m.attention := by
  unfold Smc.release
  dsimp only
  (repeat' split) <;> rfl

@[simp] theorem Smc.release_faultAddr (m : Smc) : m.release.faultAddr = m.faultAddr := by
  unfold Smc.release
  dsimp only
  (repeat' split) <;> rfl

@[simp] theorem Smc.release_faultKind (m : Smc) : m.release.faultKind = m.faultKind := by
  unfold Smc.release
  dsimp only
  (repeat' split) <;> rfl

theorem Smc.requestScan_eq (m : Smc) (t : Transfer) : m.requestScan t = requested m t := rfl

/-- A sweep start that has come due (R23, R25, R26). -/
theorem State.sweepStart_due (s : State) (due : s.sweepDue = true) :
    s.sweepStart = sweepStarted s (if s.scu.running then s.smc else requested s.smc .bcrRead) := by
  unfold State.sweepStart sweepStarted State.sweepStartEvent
  rw [if_pos due]
  cases runs : s.scu.running <;>
    simp [State.beginSweep, State.enterSweep, State.requestScan, State.raise, satAdd, max16, Smc.requestScan_eq]

theorem State.sweepStart_notDue (s : State) (notDue : s.sweepDue = false) : s.sweepStart = s := by
  simp [State.sweepStart, notDue]

/-- Settles O25. -/
theorem sweepStartsBeginOrAreDeferred : Obligations.SweepStartsBeginOrAreDeferred := by
  intro s released due
  rw [exec_sweepStart s released, s.sweepStart_due due]

/-- A host event that arrives with no sweep start due is an ordinary one. -/
theorem State.arriving_notDue (s : State) (f : State → State) (notDue : s.sweepDue = false)
    (unmoved : (f s).sweepDue = s.sweepDue) : s.arriving true f = f s := by
  unfold State.arriving
  rw [s.sweepStart_notDue notDue, (f s).sweepStart_notDue (unmoved.trans notDue)]
  simp

/-- An access and a sweep start that arrive together make both requests (R12). -/
theorem State.arriving_access (s : State) (kind : CycleKind) (due : s.sweepDue = true) :
    s.arriving true (fun t => t.beginAccess kind) =
      let m : Smc := { s.smc with cycle := some ⟨kind, true, false⟩, rdy := false }
      sweepStarted s (if s.scu.running then
        (if s.smc.owner = .none then { m with owner := .host, lastGranted := .host, hostWaiting := false }
          else { m with hostWaiting := true })
        else bothRequested m .bcrRead) := by
  have later : (s.beginAccess kind).sweepDue = true := due
  unfold State.arriving
  rw [s.sweepStart_due due, State.sweepStart_due _ later]
  unfold State.beginAccess sweepStarted bothRequested requested Smc.requestHost Smc.grantHost
  by_cases owner : s.smc.owner = .none <;> cases last : s.smc.lastGranted <;> cases runs : s.scu.running <;>
    simp [owner, last, runs]

/-- A write into a part-written region, dropped at once (R9, R21). -/
def State.dropWrite (s : State) (addr data : Word) : State :=
  (s.hostFault .writeProtect addr .writeProtect).cycleDone (.memoryWrite addr data) none

/-- A write dropped at once takes no part in the arbitration of the sweep start it arrives with. -/
theorem State.dropWrite_sweepStarted (s : State) (addr data : Word) :
    (sweepStarted s (if s.scu.running then s.smc else requested s.smc .bcrRead)).dropWrite addr data =
      sweepStarted (s.dropWrite addr data) (if s.scu.running then (s.dropWrite addr data).smc
        else requested (s.dropWrite addr data).smc .bcrRead) := by
  have causes (a : BitVec 11) : a ||| Cause.sweepOverrun.mask ||| Cause.writeProtect.mask =
      a ||| Cause.writeProtect.mask ||| Cause.sweepOverrun.mask := by
    rw [BitVec.or_assoc, BitVec.or_assoc, BitVec.or_comm Cause.sweepOverrun.mask]
  unfold State.dropWrite State.hostFault State.cycleDone State.raise sweepStarted requested
  by_cases owner : s.smc.owner = .none <;> cases runs : s.scu.running <;> simp [owner, runs, causes]

theorem State.arriving_dropped (s : State) (addr data : Word) (due : s.sweepDue = true) :
    s.arriving true (fun t => t.dropWrite addr data) =
      sweepStarted (s.dropWrite addr data) (if s.scu.running then (s.dropWrite addr data).smc
        else requested (s.dropWrite addr data).smc .bcrRead) := by
  have later : (s.dropWrite addr data).sweepDue = true := due
  unfold State.arriving
  rw [s.sweepStart_due due, State.sweepStart_due _ later]
  simp only [if_true, s.dropWrite_sweepStarted]
  exact ite_self _

/-- Settles O17: by the two waiting requests at a release, and by the owner, the last granted and the running sweep
where a cycle arrives with a sweep start. -/
theorem theArbiterAlternates : Obligations.TheArbiterAlternates := by
  refine ⟨Smc.released_release, fun s addr data live noCycle => ⟨fun due => ⟨?_, fun hostArea => ?_, fun partArea => ?_⟩,
    fun notDue => ⟨?_, ?_⟩⟩⟩
  · rw [exec_hostMemoryRead s _ live]
    simp [State.hostRead, noCycle, s.arriving_access _ due]
  · rw [exec_hostMemoryWrite s _ _ live]
    simp [State.hostWrite, noCycle, hostArea, s.arriving_access _ due]
  · refine ⟨_, exec_hostMemoryWrite s _ _ live, ?_⟩
    rw [exec_hostMemoryWrite s _ _ live, s.hostWrite_dropped _ _ noCycle partArea]
    have dropped := s.arriving_dropped addr data due
    unfold State.hostWrite
    simp only [State.portFree_iff, noCycle, partArea, if_true]
    exact congrArg _ dropped
  · rw [exec_hostMemoryRead s _ live, exec_hostMemoryRead s _ live]
    have alone := s.arriving_notDue (fun t => t.beginAccess (.memoryRead addr)) notDue rfl
    simp [State.hostRead, noCycle, alone]
  · rw [exec_hostMemoryWrite s _ _ live, exec_hostMemoryWrite s _ _ live]
    simp only [State.hostWrite, State.portFree_iff, noCycle, if_true, State.arriving_alone]
    rw [s.arriving_notDue _ notDue (by split <;> rfl)]

/-! ## Cycles without access, and the ends of cycles (section 1.2) -/

/-- A field of a word made from a number. -/
theorem natWord_field (n k m v : Nat) (h : n / 2 ^ k % 2 ^ m = v % 2 ^ m) (inside : k + m ≤ 16) :
    (natWord n).extractLsb' k m = BitVec.ofNat m v := by
  apply BitVec.eq_of_toNat_eq
  have width : 2 ^ 16 = 2 ^ k * 2 ^ (16 - k) := by rw [← Nat.pow_add, Nat.add_sub_cancel' (by omega)]
  rw [natWord, BitVec.extractLsb'_toNat, BitVec.toNat_ofNat, BitVec.toNat_ofNat, Nat.shiftRight_eq_div_pow, width,
    Nat.mod_mul_right_div_self, Nat.mod_mod_of_dvd _ (Nat.pow_dvd_pow 2 (by omega)), h]

/-- A bit of a word made from a number. -/
theorem natWord_bit (n k : Nat) (b : Bool) (h : n / 2 ^ k % 2 = b.toNat) (inside : k < 16) :
    (natWord n).getLsbD k = b := by
  rw [natWord, BitVec.getLsbD_ofNat, Nat.testBit_eq_decide_div_mod_eq, h]
  cases b <;> simp [inside]

/-- The STATUS word, field by field (TABLE 1-6). -/
theorem State.status_fields (s : State) : statusFields s s.status := by
  have board : s.brc.state.code < 4 := by cases s.brc.state <;> decide
  have shown : s.brc.shownReason.code < 4 := by cases s.brc.shownReason <;> decide
  have fault : s.smc.faultKind.code < 3 := by cases s.smc.faultKind <;> decide
  have running := s.scu.running.toNat_lt
  have interlock := s.pins.interlock.toNat_lt
  have busy := s.brc.channel.isSome.toNat_lt
  have sync := s.scu.syncFlag.toNat_lt
  have reason : (if s.brc.state = .holding then s.brc.reason.code else 0) = s.brc.shownReason.code := by
    unfold Brc.shownReason
    split <;> rfl
  unfold statusFields State.status
  rw [reason]
  exact ⟨natWord_field _ _ _ _ (by omega) (by omega), natWord_field _ _ _ _ (by omega) (by omega),
    natWord_bit _ _ _ (by omega) (by omega), natWord_bit _ _ _ (by omega) (by omega),
    natWord_bit _ _ _ (by omega) (by omega), natWord_bit _ _ _ (by omega) (by omega),
    natWord_field _ _ _ _ (by omega) (by omega), natWord_field _ _ _ 0 (by omega) (by omega)⟩

/-- The word of a register read, by the offset. -/
theorem State.readRegister_holds (s : State) (addr : Word) :
    registerHolds s (registerOffset addr) (s.readRegister addr) := by
  unfold registerHolds State.readRegister registerOffset
  refine ⟨fun h => ?_, fun h => ?_, fun h => ?_, fun h => ?_, fun h => ?_, fun h => ?_⟩
  · cases s.scu.scanEnable <;> simp [h, natWord]
  · simpa [h] using s.status_fields
  · simp [h]
  · simp [h]
  · simp [h]
  · split <;> first | omega | rfl

/-- Settles O14: by the strobe and select combination, and by whether the cycle was completed at the release. -/
theorem cyclesWithoutAccessAndTheirEnd : Obligations.CyclesWithoutAccessAndTheirEnd := by
  intro s live
  refine ⟨fun noCycle => ?_, fun c cycle => ⟨fun done => ?_, fun waits => ?_⟩⟩
  · have answered (n : NoAccessStrobe) (t : State) (is : s.noAccess n = t) :
        exec (.hostCycleWithoutAccess n) s = .next t := is ▸ exec_hostCycleWithoutAccess s n live
    refine ⟨answered _ _ ?_, answered _ _ ?_, answered _ _ ?_, answered _ _ ?_, fun addr =>
      ⟨s.readRegister addr, s.readRegister_holds addr, answered _ _ ?_⟩⟩
    all_goals simp [State.noAccess, noCycle, State.cycleDone]
  · rw [exec_hostStrobeRelease s live]
    simp [State.strobeRelease, cycle, done]
  · rw [exec_hostStrobeRelease s live]
    simp [State.strobeRelease, cycle, waits]

/-! ## The ends of host accesses (sections 1.2 to 1.4) -/

/-- Settles O15: by the parity of the word read and by the strobe. -/
theorem hostReadsCheckParity : Obligations.HostReadsCheckParity := by
  intro s a strobe done live owner cycle
  refine ⟨_, exec_hostAccessComplete s live, ?_⟩
  have arbiter := s.smc.released_release
  unfold State.accessDone
  rw [owner, cycle]
  cases parity : goodParity (s.readWord a.toNat) <;> cases strobe <;>
    simpa [parity, State.finishCycle, State.releasePort, State.hostFault, State.raise, released] using arbiter

/-- Settles O16: by the strobe. -/
theorem hostWritesStoreTheirWord : Obligations.HostWritesStoreTheirWord := by
  intro s a d strobe done live owner cycle
  refine ⟨_, exec_hostAccessComplete s live, ?_⟩
  have arbiter := s.smc.released_release
  have inside : a.toNat < 65536 := a.isLt
  have done' : s.accessDone = ((s.writeWord a.toNat d).releasePort).finishCycle
      ⟨.memoryWrite a d, strobe, done⟩ none := by
    simp [State.accessDone, owner, cycle]
  have reads (b : Nat) : s.accessDone.readWord b = (s.writeWord a.toNat d).readWord b := by
    rw [done']
    exact State.readWord_of_mem (by simp) (by simp) b
  refine ⟨?_, ?_, ?_, fun b other => ?_, ?_⟩
  · rw [done']
    cases strobe <;> rfl
  · rw [reads, s.readWord_writeWord_same _ _ inside, data_withParity]
  · rw [reads, s.readWord_writeWord_same _ _ inside, goodParity_withParity]
  · rw [reads, s.readWord_writeWord_other _ _ _ inside other]
  · rw [done']
    cases strobe <;>
      simpa [State.finishCycle, State.releasePort, released] using arbiter

/-! ## The registers (section 1.6) -/

/-- A register write at a free host port completes its cycle. -/
theorem State.registerWrite_done (s : State) (addr data : Word) (noCycle : s.smc.cycle = none) :
    s.registerWrite addr data = registerDone (s.writeRegister addr data) := by
  simp [State.registerWrite, noCycle, State.cycleDone, registerDone]

theorem State.writeRegister_control (s : State) (addr data : Word) (offset : registerOffset addr = 0) :
    s.writeRegister addr data = s.writeControl data := by
  have is : (addr.extractLsb' 0 4).toNat = 0 := offset
  simp [State.writeRegister, is]

/-- Settles O18: by the offset. -/
theorem registerWritesTakeTheirBits : Obligations.RegisterWritesTakeTheirBits := by
  intro s addr data live noCycle
  obtain ⟨-, -, -, attention, mask, ignored⟩ := exec_registerWrites s addr data live
  rw [attention, mask, ignored, s.registerWrite_done addr data noCycle]
  refine ⟨fun offset => ?_, fun offset => ?_, fun offset => ?_⟩
  · have is : (addr.extractLsb' 0 4).toNat = 2 := by simpa [Instr.wellFormed, registerOffset] using offset
    simp [State.writeRegister, is]
  · have is : (addr.extractLsb' 0 4).toNat = 3 := by simpa [Instr.wellFormed, registerOffset] using offset
    simp [State.writeRegister, is]
  · obtain ⟨⟨not0, not2⟩, not3⟩ : ((addr.extractLsb' 0 4).toNat ≠ 0 ∧ (addr.extractLsb' 0 4).toNat ≠ 2) ∧
        (addr.extractLsb' 0 4).toNat ≠ 3 := by
      simpa [Instr.wellFormed, registerOffset] using offset
    unfold State.writeRegister
    split <;> first | contradiction | rfl

/-- Settles O19: a word is not 0 exactly when it has a bit set. -/
theorem attentionLineFollowsTheRegisters : Obligations.AttentionLineFollowsTheRegisters := by
  intro s
  have someBit (w : BitVec 11) : w ≠ 0 ↔ ∃ k : Nat, w.getLsbD k = true := by
    constructor
    · intro set
      refine Classical.byContradiction fun none => ?_
      refine set (BitVec.eq_of_getLsbD_eq fun k _ => ?_)
      simpa using fun is => none ⟨k, is⟩
    · rintro ⟨k, is⟩ rfl
      simp at is
  have both := someBit (s.smc.attention &&& s.smc.mask)
  simpa [State.attn] using fun _ => both

/-- Settles O20: by the value stored before and the running sweep. -/
theorem scanEnableBeginsASweep : Obligations.ScanEnableBeginsASweep := by
  intro s addr data live noCycle formed
  obtain ⟨⟨offset, noReset⟩, one⟩ : (registerOffset addr = 0 ∧ data.getLsbD 1 = false) ∧ data.getLsbD 0 = true := by
    simpa [Instr.wellFormed] using formed
  have writes : s.writeRegister addr data = s.setScanEnable true := by
    rw [s.writeRegister_control addr data offset, State.writeControl, noReset, one]
    rfl
  obtain ⟨answers, -⟩ := exec_registerWrites s addr data live
  rw [answers, s.registerWrite_done addr data noCycle, writes]
  refine ⟨fun on => ?_, fun off idle => ?_, fun off runs => ?_⟩
  · simp [State.setScanEnable, on]
  · simp [State.setScanEnable, off, State.sweepStartEvent, idle, State.beginSweep, State.enterSweep,
      State.requestScan, Smc.requestScan_eq]
  · simp [State.setScanEnable, off, State.sweepStartEvent, runs, State.raise, satAdd, max16]

end Sys2Proof.Machine
end

section
/-! The statements about holds by SCAN_ENABLE, the resets, the acknowledgements and the levels of the lanes. -/

namespace Sys2Proof.Machine

/-! ## Events of every socket that keep its phase or hold it -/

/-- An event of every socket that makes none COMPLETE or RETIRED leaves ATTENTION. -/
theorem State.updAll_smc (s : State) (f : SocketIx → Socket → Socket)
    (quiet : ∀ (i : SocketIx) (x : Socket), x.ends (f i x) = false) : (s.updAll f).smc = s.smc := by
  rw [s.updAll_quiet f fun i => quiet i _]

theorem State.updAll_sockets (s : State) (f : SocketIx → Socket → Socket) :
    (s.updAll f).sockets = Vector.ofFn fun i => f i s.sockets[i] := by
  rw [State.updAll_eq]

theorem Socket.interlockCut_phase (x : Socket) : x.interlockCut.acct.phase = x.acct.phase := rfl

theorem Socket.interlockCut_quiet (x : Socket) : x.ends x.interlockCut = false :=
  Socket.ends_of_phase _ _ x.interlockCut_phase

/-- A hold puts an active socket in HELD, with its phase as Resume Phase. -/
theorem Socket.hold_active (x : Socket) (active : x.acct.phase.asResume ≠ .none) :
    x.hold = (x.changePhase .held x.acct.phase.asResume).reportSpoil true := by
  unfold Socket.hold
  cases e : x.acct.phase <;> simp_all [Phase.asResume]

/-- A hold leaves a socket in no active phase, but for the spoil report. -/
theorem Socket.hold_inactive (x : Socket) (inactive : x.acct.phase.asResume = .none) :
    x.hold = x.reportSpoil true := by
  unfold Socket.hold
  cases e : x.acct.phase <;> simp_all [Phase.asResume]

theorem Socket.hold_phase (x : Socket) :
    x.hold.acct.phase = if x.acct.phase.asResume = .none then x.acct.phase else .held := by
  split
  · next inactive => rw [x.hold_inactive inactive]; rfl
  · next active => rw [x.hold_active active]; rfl

theorem Socket.hold_quiet (x : Socket) : x.ends x.hold = false := by
  unfold Socket.ends
  rw [x.hold_phase]
  split
  · simp
  · simp [Phase.terminal]

/-- A change to a phase other than SOAKING leaves sensor and thermal state. -/
@[simp] theorem Socket.changePhase_thermal (x : Socket) (p : Phase) (r : ResumePhase) (other : p ≠ .soaking) :
    (x.changePhase p r).thermal = x.thermal := by
  simp [Socket.changePhase, other]

@[simp] theorem Socket.changePhase_sensor (x : Socket) (p : Phase) (r : ResumePhase) (other : p ≠ .soaking) :
    (x.changePhase p r).sensor = x.sensor := by
  simp [Socket.changePhase, other]

theorem Socket.hold_thermal (x : Socket) : x.hold.thermal = x.thermal := by
  by_cases active : x.acct.phase.asResume = .none
  · rw [x.hold_inactive active]; rfl
  · rw [x.hold_active active]; simp

theorem Socket.hold_sensor (x : Socket) : x.hold.sensor = x.sensor := by
  by_cases active : x.acct.phase.asResume = .none
  · rw [x.hold_inactive active]; rfl
  · rw [x.hold_active active]; simp

theorem Socket.hold_spoil (x : Socket) : x.hold.acct.spoil = true := by
  simp [Socket.hold, Socket.reportSpoil]

/-- A hold pauses the exercise of a STRESSING socket and leaves any other. -/
theorem Socket.hold_ex (x : Socket) : x.hold.ex = if x.acct.phase = .stressing then x.ex.pause else x.ex := by
  by_cases active : x.acct.phase.asResume = .none
  · rw [x.hold_inactive active]
    cases e : x.acct.phase <;> simp_all [Phase.asResume]
  · rw [x.hold_active active]
    cases e : x.acct.phase <;> simp_all [Phase.asResume, Exercise.followPhase]

theorem Socket.hold_exerciseHeld (x : Socket) : exerciseHeld x x.hold := by
  refine ⟨fun stressing runs => ?_, fun stressing notArmed notRunning => ?_, fun other => ?_⟩
  · rcases runs with is | is <;> simp [x.hold_ex, stressing, Exercise.pause, is, Exercise.abandon]
  · rw [x.hold_ex, if_pos stressing]
    cases e : x.ex.st <;> simp_all [Exercise.pause]
  · rw [x.hold_ex, if_neg other]

theorem State.enterHold_smc (s : State) (r : HoldReason) : (s.enterHold r).smc = s.smc :=
  s.updAll_smc _ fun _ x => x.hold_quiet

theorem State.enterHold_sock (s : State) (r : HoldReason) (i : SocketIx) :
    (s.enterHold r).sock i = (s.sock i).hold := by
  rw [State.enterHold]
  exact s.sock_updAll _ i

/-- A hold changes Board Run Control and the sockets only. -/
theorem State.enterHold_eq (s : State) (r : HoldReason) :
    s.enterHold r = { s with brc := { s.brc with state := .holding, reason := r },
                             sockets := (s.enterHold r).sockets } := by
  unfold State.enterHold
  rw [s.updAll_quiet _ fun i => Socket.hold_quiet _]
  rfl

/-- Settles O21: by SCAN_ENABLE and the board state, and in a held socket by its phase and exercise state. -/
theorem scanDisableHoldsARunningBoard : Obligations.ScanDisableHoldsARunningBoard := by
  intro s addr data live noCycle formed
  obtain ⟨⟨offset, noReset⟩, zero⟩ : (registerOffset addr = 0 ∧ data.getLsbD 1 = false) ∧
      data.getLsbD 0 = false := by
    simpa [Instr.wellFormed] using formed
  have writes : s.writeRegister addr data = s.setScanEnable false := by
    rw [s.writeRegister_control addr data offset, State.writeControl, noReset, zero]
    rfl
  obtain ⟨-, answers, -⟩ := exec_registerWrites s addr data live
  rw [answers, s.registerWrite_done addr data noCycle, writes]
  refine ⟨fun off => ?_, fun on stands => ?_, fun on runs => ⟨_, rfl, ?_⟩⟩
  · simp [State.setScanEnable, off]
  · simp [State.setScanEnable, on, stands]
  · have held : s.setScanEnable false =
        State.enterHold { s with scu := { s.scu with scanEnable := false, deferred := false } } .scanOff := by
      simp [State.setScanEnable, on, runs]
    rw [held, State.enterHold_eq]
    refine ⟨rfl, rfl, rfl, rfl, fun i => ?_⟩
    have sock : State.sock (registerDone { ({ s with scu := { s.scu with scanEnable := false, deferred := false } } :
        State) with brc := { s.brc with state := .holding, reason := .scanOff }, sockets := (State.enterHold
          { s with scu := { s.scu with scanEnable := false, deferred := false } } .scanOff).sockets }) i =
        (s.sock i).hold := State.enterHold_sock _ .scanOff i
    refine ⟨fun active => ?_, fun inactive => ?_, ?_, ?_, ?_, ?_⟩
    · rw [sock, Socket.hold_active _ active]
      exact ⟨rfl, rfl⟩
    · rw [sock, Socket.hold_inactive _ inactive]
      rfl
    · rw [sock]; exact Socket.hold_exerciseHeld _
    · rw [sock]; exact Socket.hold_spoil _
    · rw [sock]; exact Socket.hold_rail _
    · rw [sock]; exact Socket.hold_thermal _

/-! ## Resets (sections 1.7 and 3.7) -/

/-- An interlock event of a STOPPED board counts, sets INTERLOCK and cuts its sockets. -/
theorem State.interlockEvent_stopped (s : State) (stopped : s.brc.state = .stopped) :
    s.interlockEvent = { s with
      sockets := Vector.ofFn fun i => s.sockets[i].interlockCut
      brc := { s.brc with interlockCount := satAdd max16 s.brc.interlockCount 1 }
      smc := { s.smc with attention := s.smc.attention ||| Cause.interlock.mask } } := by
  unfold State.interlockEvent
  dsimp only
  rw [s.updAll_quiet _ fun i => Socket.interlockCut_quiet _]
  split
  · next other => exact BoardState.noConfusion (stopped.symm.trans other)
  · next other => exact BoardState.noConfusion (stopped.symm.trans other)
  · next other => exact BoardState.noConfusion (stopped.symm.trans other)
  · rfl

/-- What a reset that finds INTERLOCK_N asserted leaves of Board Run Control and the controller, and what it keeps. -/
theorem State.interlockAtReset_asserted (s : State) (brc : s.brc = Brc.reset) (asserted : s.pins.interlock = true) :
    s.interlockAtReset = { s with
      sockets := Vector.ofFn fun i => s.sockets[i].interlockCut
      brc := { Brc.reset with interlockCount := 1 }
      smc := { s.smc with attention := s.smc.attention ||| Cause.interlock.mask } } := by
  unfold State.interlockAtReset
  rw [if_pos asserted, s.interlockEvent_stopped (by rw [brc]; rfl), brc]
  rfl

theorem State.interlockAtReset_released (s : State) (released : s.pins.interlock = false) :
    s.interlockAtReset = s := by
  simp [State.interlockAtReset, released]

/-- A read transfer, or none, leaves nothing to abandon. -/
theorem State.abandonTransfer_none (s : State) (none : s.smc.transfer.bind Transfer.payload = none) :
    s.abandonTransfer = s := by
  simp [State.abandonTransfer, none]

/-- A well-formed SOFT_RESET resets every block and stands completed. -/
theorem exec_softReset (s : State) (addr data : Word) (live : s.pins.por = false) (noCycle : s.smc.cycle = none)
    (formed : (Instr.softReset addr data).wellFormed = true) :
    exec (.softReset addr data) s = .next (registerDone s.softReset) := by
  obtain ⟨offset, reset⟩ : registerOffset addr = 0 ∧ data.getLsbD 1 = true := by
    simpa [Instr.wellFormed] using formed
  obtain ⟨-, -, answers, -⟩ := exec_registerWrites s addr data live
  rw [answers, s.registerWrite_done addr data noCycle, s.writeRegister_control addr data offset, State.writeControl,
    reset, if_pos rfl]

/-- Settles O22: by the level of INTERLOCK_N. -/
theorem softResetResetsEveryBlock : Obligations.SoftResetResetsEveryBlock := by
  intro s addr data live noCycle formed
  rw [exec_softReset s addr data live noCycle formed]
  have pins : s.abandonTransfer.resetBlocks.pins = s.pins := s.abandonTransfer_pins
  have unabandoned (none : s.smc.transfer.bind Transfer.payload = none) : s.abandonTransfer.mem = s.mem := by
    rw [s.abandonTransfer_none none]
  refine ⟨⟨_, rfl, ?_⟩, fun released none => ?_, fun asserted => ⟨_, rfl, ?_⟩⟩
  · unfold State.softReset
    cases level : s.pins.interlock with
    | false =>
      rw [State.interlockAtReset_released _ (pins ▸ level)]
      exact ⟨s.abandonTransfer_time, s.abandonTransfer_pins, s.abandonTransfer_epoch, rfl, rfl, rfl, rfl, rfl, rfl, rfl,
        fun none => unabandoned none⟩
    | true =>
      rw [State.interlockAtReset_asserted _ rfl (pins ▸ level)]
      exact ⟨s.abandonTransfer_time, s.abandonTransfer_pins, s.abandonTransfer_epoch, rfl, rfl, rfl, rfl, rfl, rfl, rfl,
        fun none => unabandoned none⟩
  · unfold State.softReset
    rw [State.interlockAtReset_released _ (pins ▸ released), s.abandonTransfer_none none]
    rfl
  · unfold State.softReset
    rw [State.interlockAtReset_asserted _ rfl (pins ▸ asserted)]
    exact ⟨rfl, (by decide : Smc.reset.attention ||| Cause.interlock.mask = Cause.interlock.mask)⟩

/-- The words of a record, some of them written: each address reads as before, or as its word of the record. -/
theorem State.readWord_writeRecordIf (keep : Nat → Bool) (s : State) (base : Nat) (ws : List Word) (n a : Nat)
    (inside : base + n + ws.length ≤ 65536) :
    (State.writeRecordIf keep s base ws n).readWord a = s.readWord a ∨
      ∃ k : Nat, a = base + n + k ∧ k < ws.length ∧
        (State.writeRecordIf keep s base ws n).readWord a = withParity (ws.getD k 0) := by
  induction ws generalizing s n with
  | nil => exact .inl rfl
  | cons d rest ih =>
    simp only [List.length_cons] at inside
    rw [State.writeRecordIf]
    rcases ih (if keep n then s.writeWord (base + n) d else s) (n + 1) (by omega) with kept | ⟨k, at', short, reads⟩
    · split at kept
      · next written =>
        rw [if_pos written, kept]
        by_cases here : a = base + n
        · subst here
          exact .inr ⟨0, by omega, by simp, s.readWord_writeWord_same _ d (by omega)⟩
        · exact .inl (s.readWord_writeWord_other _ _ d (by omega) here)
      · next skipped => exact .inl (by rw [if_neg skipped, kept])
    · exact .inr ⟨k + 1, by omega, by simpa using short, by simpa using reads⟩

theorem State.softReset_mem (s : State) : s.softReset.mem = s.abandonTransfer.mem := by
  simp [State.softReset]

/-- Settles O23: by the words of the record, whichever of them the free value names. -/
theorem abandonedWritesLeaveOldOrNewWords : Obligations.AbandonedWritesLeaveOldOrNewWords := by
  intro s base ws inside transfer
  have oldOrNew (a : Nat) : s.abandonTransfer.readWord a = s.readWord a ∨
      ∃ k : Nat, a = base + k ∧ k < ws.length ∧ s.abandonTransfer.readWord a = withParity (ws.getD k 0) := by
    have some := s.readWord_writeRecordIf (fun i => (Config.abandonedWords s.freeCount).getLsbD i) base ws 0 a inside
    unfold State.abandonTransfer
    rw [transfer]
    exact some
  refine ⟨oldOrNew, fun addr data live noCycle formed => ⟨_, exec_softReset s addr data live noCycle formed, ?_⟩⟩
  have reads (a : Nat) : (registerDone s.softReset).readWord a = s.abandonTransfer.readWord a := by
    refine State.readWord_of_mem s.softReset_mem ?_ a
    have reset (u : State) : u.interlockAtReset.epoch = u.epoch := by
      unfold State.interlockAtReset
      split <;> simp
    exact reset _
  have port := s.abandonTransfer.resetBlocks.interlockAtReset_keepsPort.1
  obtain ⟨owner, none, -, -⟩ := (Smc.port_eq_iff _ _).mp port
  refine ⟨?_, owner, none, fun a => by rw [reads]; exact oldOrNew a⟩
  have scu (u : State) : u.interlockAtReset.scu = u.scu := by
    unfold State.interlockAtReset
    split <;> simp
  exact scu _

/-- Settles O24: by the level of INTERLOCK_N. -/
theorem powerOnResetAndRelease : Obligations.PowerOnResetAndRelease := by
  intro s
  have releases (held : s.pins.por = true) : exec .porRelease s = .next s.porRelease :=
    congrArg Host.Outcome.next (if_pos held)
  refine ⟨fun live => ⟨_, congrArg Host.Outcome.next (s.live_of_released _ live), rfl, fun a => rfl⟩,
    fun held released => ?_, fun held asserted => ⟨_, releases held, ?_⟩⟩
  · have kept := State.interlockAtReset_released { s.resetBlocks with
      pins := { s.pins with por := false }, time := { runMs := 0, pwmTick := 0 } } released
    exact (releases held).trans (congrArg Host.Outcome.next kept)
  · have cut : s.porRelease = _ := State.interlockAtReset_asserted { s.resetBlocks with
      pins := { s.pins with por := false }, time := { runMs := 0, pwmTick := 0 } } rfl asserted
    rw [cut]
    exact ⟨rfl, rfl, rfl, (by decide : Smc.reset.attention ||| Cause.interlock.mask = Cause.interlock.mask)⟩

/-! ## Acknowledgements (section 2.8) -/

/-- Settles O31. -/
theorem acknowledgementsWithinEight : Obligations.AcknowledgementsWithinEight := by
  intro g ack
  by_cases within : (g.failWritten - ack).toNat ≤ 8
  · have taken : g.takeAck ack = { g with acked := ack } := if_pos within
    rw [taken]
    exact ⟨fun _ => rfl, fun beyond => absurd within (Nat.not_le.mpr beyond), fun _ => within, rfl⟩
  · have kept : g.takeAck ack = g := if_neg within
    rw [kept]
    exact ⟨fun accepted => absurd accepted within, fun _ => rfl, id, rfl⟩

/-! ## The levels of the lanes (sections 8.2 to 8.4) -/

theorem mem_bankSockets (b : BankIx) (j : SocketIx) : j ∈ bankSockets b ↔ bankOf j = b := by
  unfold bankSockets bankOf
  simp only [List.mem_map, List.mem_finRange, true_and, Fin.ext_iff]
  constructor
  · rintro ⟨k, is⟩
    omega
  · intro is
    exact ⟨⟨j.val % 4, by omega⟩, by dsimp only; omega⟩

theorem LaneEntry.sourceBit_eq (p : Pxr) (h : Bool) (e : LaneEntry) :
    e.sourceBit p.gens p.vectorIndex h = streamBit p h e := by
  unfold LaneEntry.sourceBit streamBit
  cases e.invert <;> cases e.source <;> simp [Gen.output]

theorem RailState.live_iff (r : RailState) : r.live = true ↔ r = .on ∨ r = .slew := by
  cases r <;> simp [RailState.live]

/-- A lane of a rail that is neither ON nor SLEW, or of an entry that does not drive, is not driven. -/
theorem State.laneLevel_none (s : State) (i : SocketIx) (l : LaneIx) (h : Bool)
    (stands : ¬((s.sock i).rail.st.live = true ∧ s.pxr.vectorMap[i][l].direction = .drive)) :
    s.laneLevel i l h = none := by
  unfold State.laneLevel
  rw [if_neg (by simpa using stands)]

/-- A driven lane follows TABLE 8-3. -/
theorem State.laneLevel_driven (s : State) (i : SocketIx) (l : LaneIx) (h : Bool)
    (live : (s.sock i).rail.st.live = true) (drives : s.pxr.vectorMap[i][l].direction = .drive) :
    s.laneLevel i l h =
      if (s.sock i).acct.phase = .stressing ∧ (s.sock i).ex.st = .running then
        match (s.sock i).ex.mode with
        | .idle => s.pxr.vectorMap[i][l].idle.level
        | .pattern => some (s.pxr.vectorMap[i][l].sourceBit s.pxr.gens s.pxr.vectorIndex h)
        | .selftest =>
          if (s.sock i).ex.startLane (s.sock i).gate.shadow.num = l.val then
            if (s.sock i).ex.cycle = .startPulse then some true else s.pxr.vectorMap[i][l].idle.level
          else some (s.pxr.vectorMap[i][l].sourceBit s.pxr.gens s.pxr.vectorIndex h)
      else s.pxr.vectorMap[i][l].idle.level := by
  unfold State.laneLevel
  simp only [live, drives, beq_self_eq_true, Bool.and_true, if_true] <;> rfl

/-- Settles O12: by the rail, the entry, the phase, the exercise state and the mode. -/
theorem lanesDriveOnlyOnLiveRails : Obligations.LanesDriveOnlyOnLiveRails := by
  intro s i l h
  refine ⟨fun driven => ?_, fun notDrive => ?_, fun rail drives => ?_, fun diag => ?_, fun other => ?_, ?_⟩
  · refine Decidable.byContradiction fun off => ?_
    have none := s.laneLevel_none i l h fun ⟨live, _⟩ => off ((RailState.live_iff _).mp live)
    rw [none] at driven
    cases driven
  · exact s.laneLevel_none i l h fun ⟨_, drives⟩ => notDrive drives
  · rw [s.laneLevel_driven i l h ((RailState.live_iff _).mpr rail) drives, LaneEntry.sourceBit_eq]
    refine ⟨fun stands => (if_neg stands).trans rfl, fun runs mode => ?_, fun runs mode => ?_, fun c runs mode latched =>
      ⟨fun other => ?_, fun start pulse => ?_, fun start noPulse => ?_⟩⟩
    · rw [if_pos runs, mode]
      rfl
    · rw [if_pos runs, mode]
    all_goals
      rw [if_pos runs, mode]
      simp only [Exercise.startLane, latched]
    · rw [if_neg (Ne.symm other)]
    · rw [if_pos start.symm, if_pos pulse]
    · rw [if_pos start.symm, if_neg noPulse]
      rfl
  · simp [State.loopbackLevel, diag, Gen.output]
  · simp [State.loopbackLevel, other]
  · simp [State.loopbackControl, mem_bankSockets]

end Sys2Proof.Machine
end

section
/-! Conditions as the statements speak of them, and the statements about the board commands (Chapter 3). -/

namespace Sys2Proof.Machine

/-! ## Conditions (sections 11.2 to 11.6) -/

/-- What a statement about a condition reads of the socket after it stands in `z` as in `y`. -/
structure Socket.SameAccounts (y z : Socket) : Prop where
  phase : z.acct.phase = y.acct.phase
  resume : z.acct.resume = y.acct.resume
  retireKind : z.acct.retireKind = y.acct.retireKind
  bin : z.acct.bin = y.acct.bin
  strikes : z.acct.strikes = y.acct.strikes
  records : y.acct.SameRecords z.acct
  voltage : z.rail.voltage = y.rail.voltage
  current : z.rail.current = y.rail.current

/-- A condition taken stays taken under what leaves the accounts. -/
theorem conditionTaken_of_same {k : Kind} {sub : Nat} {d : List Word} {dwell : Nat} {x y z : Socket}
    (taken : conditionTaken k sub d dwell x y) (same : y.SameAccounts z) : conditionTaken k sub d dwell x z := by
  obtain ⟨phase, resume, retireKind, bin, strikes, ⟨kindCount, failTotal, firstFailDwell, staging, detailLost⟩,
    voltage, current⟩ := same
  simpa only [conditionTaken, phase, resume, retireKind, bin, strikes, kindCount, failTotal, firstFailDwell, staging,
    detailLost, voltage, current] using taken

/-- A condition taken reads of the socket before it only the accounts, and the settings in force. -/
theorem conditionTaken_of_before {k : Kind} {sub : Nat} {d : List Word} {dwell : Nat} {w x y : Socket}
    (taken : conditionTaken k sub d dwell x y) (gate : w.gate.shadow = x.gate.shadow) (phase : w.acct.phase = x.acct.phase)
    (bin : w.acct.bin = x.acct.bin) (strikes : w.acct.strikes = x.acct.strikes)
    (records : w.acct.SameRecords x.acct) : conditionTaken k sub d dwell w y := by
  obtain ⟨kindCount, failTotal, firstFailDwell, staging, detailLost⟩ := records
  simpa only [conditionTaken, conditionEnds, gate, phase, bin, strikes, kindCount, failTotal, firstFailDwell, staging,
    detailLost] using taken

@[simp] theorem Rail.takedown_voltage (r : Rail) : r.takedown.voltage = r.voltage := by
  unfold Rail.takedown
  split <;> rfl

@[simp] theorem Rail.takedown_current (r : Rail) : r.takedown.current = r.current := by
  unfold Rail.takedown
  split <;> rfl

@[simp] theorem Rail.takedown_trips (r : Rail) : r.takedown.trips = r.trips := by
  unfold Rail.takedown
  split <;> rfl

@[simp] theorem Socket.strike_rail_voltage (x : Socket) (k : Kind) : (x.strike k).rail.voltage = x.rail.voltage := by
  unfold Socket.strike
  dsimp only
  split <;> simp

@[simp] theorem Socket.strike_rail_current (x : Socket) (k : Kind) : (x.strike k).rail.current = x.rail.current := by
  unfold Socket.strike
  dsimp only
  split <;> simp

section
variable (c : Ctx) (k : Kind) (sub : Nat) (d : List Word) (x : Socket)

@[simp] theorem Socket.takeCondition_voltage : (x.takeCondition c k sub d).rail.voltage = x.rail.voltage := by
  unfold Socket.takeCondition
  (repeat' split) <;> simp

@[simp] theorem Socket.takeCondition_current : (x.takeCondition c k sub d).rail.current = x.rail.current := by
  unfold Socket.takeCondition
  (repeat' split) <;> simp

/-- A strike is counted by the action STRIKE, and by no other. -/
theorem Socket.takeCondition_strikes (reports : x.acct.phase.reporting = true) :
    (x.takeCondition c k sub d).acct.strikes =
      if x.gate.shadow.actionFor k sub = .strike then x.acct.strikes + 1 else x.acct.strikes := by
  cases act : x.gate.shadow.actionFor k sub with
  | ignore => rw [x.takeCondition_ignore c k sub d reports act]; simp [Socket.counted, Account.countKind]
  | log => rw [x.takeCondition_log c k sub d reports act]; simp
  | strike => rw [x.takeCondition_strike c k sub d reports act]; simp
  | retire => rw [x.takeCondition_retire c k sub d reports act]; simp

/-- The record of a condition, where it is not ignored. -/
theorem Socket.takeCondition_records (reports : x.acct.phase.reporting = true)
    (act : x.gate.shadow.actionFor k sub ≠ .ignore) :
    let b := (x.takeCondition c k sub d).acct
    b.failTotal = x.acct.failTotal + 1 ∧
      b.firstFailDwell = (if x.acct.firstFailDwell = 0xFFFFFFFF then BitVec.ofNat 32 x.acct.dwellSec
        else x.acct.firstFailDwell) ∧
      (x.acct.staging.length < 4 →
        b.staging = x.acct.staging ++ [(x.counted k).buildRecord c k sub d (x.acct.failTotal + 1)]) ∧
      (4 ≤ x.acct.staging.length → b.staging = x.acct.staging ∧ b.detailLost = x.acct.detailLost + 1) := by
  obtain ⟨-, failTotal, firstFailDwell, staging, detailLost⟩ := x.takeCondition_sameRecords c k sub d reports act
  dsimp only
  rw [failTotal, firstFailDwell, staging, detailLost]
  exact ⟨Socket.record_failTotal c k sub d _, Socket.record_firstFailDwell _ c k sub d,
    fun room => ((x.counted k).record_staged c k sub d room).1, (x.counted k).record_lost c k sub d⟩

/-- A condition other than a THERMAL ABS_LIMIT is accounted by its Kind Action. -/
theorem Socket.takeCondition_conditionTaken (other : k ≠ .thermal ∨ sub ≠ subAbsLimit) :
    conditionTaken k sub d x.acct.dwellSec x (x.takeCondition c k sub d) := by
  have action := Settings.actionFor_kindAction x.gate.shadow k sub other
  refine ⟨fun dropped => ?_, fun reports => ⟨?_, ?_, fun ignores => ?_, fun acts => ?_⟩, fun ⟨reports, ends⟩ => ?_⟩
  · rw [x.takeCondition_dropped c k sub d dropped]
    exact ⟨rfl, rfl, rfl, rfl, rfl, rfl, rfl⟩
  · rw [x.takeCondition_kindCount c k sub d reports]
    exact x.acct.countKind_same k
  · rw [x.takeCondition_strikes c k sub d reports, action]
  · rw [x.takeCondition_ignore c k sub d reports (action.trans ignores)]
    exact ⟨rfl, rfl, rfl⟩
  · obtain ⟨failTotal, firstFailDwell, staged, lost⟩ :=
      x.takeCondition_records c k sub d reports (fun ignores => acts (action.symm.trans ignores))
    refine ⟨failTotal, firstFailDwell, fun room => ⟨_, staged room, rfl, rfl, rfl, rfl, rfl, ?_, ?_, rfl⟩, lost⟩
    · simp [Socket.buildRecord, Socket.counted]
    · simp [Socket.buildRecord, Socket.counted]
  · obtain ⟨z, retires, -, -, -⟩ := x.takeCondition_ends c k sub d reports (by simpa [action] using ends)
    rw [retires]
    exact ⟨rfl, rfl, rfl, rfl⟩

/-- A condition that does not end the run leaves the phase. -/
theorem Socket.takeCondition_phase_stays (other : k ≠ .thermal ∨ sub ≠ subAbsLimit) (stays : ¬conditionEnds k x) :
    (x.takeCondition c k sub d).acct.phase = x.acct.phase := by
  have action := Settings.actionFor_kindAction x.gate.shadow k sub other
  by_cases reports : x.acct.phase.reporting = true
  · have goesOn : ¬(x.gate.shadow.actionFor k sub = .retire ∨ (x.gate.shadow.actionFor k sub = .strike ∧
        x.gate.shadow.num.strikeLimit ≤ x.acct.strikes + 1)) := fun ends => stays ⟨reports, by rwa [action] at ends⟩
    cases act : x.gate.shadow.actionFor k sub with
    | ignore => exact (x.takeCondition_passive c k sub d reports (.inl act)).1
    | log => exact (x.takeCondition_passive c k sub d reports (.inr act)).1
    | strike =>
      exact (x.takeCondition_strike_below c k sub d reports act
        (Nat.lt_of_not_le fun limit => goesOn (.inr ⟨act, limit⟩))).1
    | retire => exact absurd (.inl act) goesOn
  · rw [x.takeCondition_dropped c k sub d (by simpa using reports)]

end

/-! ## Causes -/

theorem Cause.raised (a : BitVec 11) (c : Cause) : (a ||| c.mask).getLsbD c.bit = true := by
  cases c <;> simp [Cause.mask, Cause.bit]

/-- A cause set stays set when another is raised. -/
theorem Cause.stays {a : BitVec 11} {k : Nat} (c : Cause) (set : a.getLsbD k = true) :
    (a ||| c.mask).getLsbD k = true := by
  simp [BitVec.getLsbD_or, set]

/-- A cause that is not raised stands. -/
theorem Cause.stands (a : BitVec 11) (k : Nat) (c : Cause) (other : k ≠ c.bit) :
    (a ||| c.mask).getLsbD k = a.getLsbD k := by
  simp [Cause.mask, BitVec.getLsbD_or, BitVec.getLsbD_twoPow, Ne.symm other]

/-- A socket that enters COMPLETE or RETIRED sets SOCKET_ENDED. -/
theorem State.updAll_ended (s : State) (f : SocketIx → Socket → Socket) (i : SocketIx)
    (ended : (s.sock i).ends (f i (s.sock i)) = true) :
    (s.updAll f).smc.attention.getLsbD Cause.socketEnded.bit = true := by
  have some : ((List.finRange 32).any fun i => s.sockets[i].ends (f i s.sockets[i])) = true :=
    List.any_eq_true.mpr ⟨i, List.mem_finRange i, ended⟩
  rw [State.updAll_eq, some]
  exact Cause.raised _ _

theorem State.updSock_ended (s : State) (i : SocketIx) (f : Socket → Socket)
    (ended : (s.sock i).ends (f (s.sock i)) = true) :
    (s.updSock i f).smc.attention.getLsbD Cause.socketEnded.bit = true := by
  have is : s.sockets[i].ends (f s.sockets[i]) = true := ended
  rw [State.updSock_eq, is]
  exact Cause.raised _ _

/-- A socket that was not RETIRED and is retired has ended. -/
theorem Socket.ends_of_retired {x y : Socket} (before : x.acct.phase ≠ .retired) (after : y.acct.phase = .retired) :
    x.ends y = true := by
  simp [Socket.ends, after, Phase.terminal, before]

/-! ## Commands on an idle channel (section 3.2) -/

/-- The state with a command's tag taken as Seen Tag (R36). -/
def State.seen (s : State) (tag : Byte8) : State := { s with scu := { s.scu with seenTag := tag } }

/-- On an idle channel a hand-off is the judgement of the command. -/
theorem State.handOff_idle (s : State) (c : Command) (idle : s.brc.channel = none) :
    s.handOff c = (s.seen c.tag).judge c := by
  simp [State.handOff, State.takeCommand, State.displace, State.seen, idle]

/-- A hand-off while a command is in progress is refused, but for STOP_RUN. -/
theorem State.handOff_busy (s : State) (c : Command) {ch : Channel} (busy : s.brc.channel = some ch)
    (other : c.code ≠ some .stopRun) : s.handOff c = refusedState s c.tag .busy := by
  simp [State.handOff, State.takeCommand, busy, other, State.refuse, State.raise, refusedState, satAdd, max16]

/-- A command without a mask and without fill words. -/
def Command.plain (code : CmdCode) (tag : Byte8) : Command :=
  { code := some code, tag := tag, mask := 0, fillDirection := 0, fillLevel := 0 }

section
variable (s : State) (tag : Byte8) (live : s.pins.por = false)
include live

theorem exec_startRun : exec (.startRun tag) s = .next (s.handOff (.plain .startRun tag)) :=
  congrArg Host.Outcome.next (s.live_of_released _ live)

theorem exec_hold : exec (.hold tag) s = .next (s.handOff (.plain .hold tag)) :=
  congrArg Host.Outcome.next (s.live_of_released _ live)

theorem exec_resume : exec (.resume tag) s = .next (s.handOff (.plain .resume tag)) :=
  congrArg Host.Outcome.next (s.live_of_released _ live)

theorem exec_stopRun : exec (.stopRun tag) s = .next (s.handOff (.plain .stopRun tag)) :=
  congrArg Host.Outcome.next (s.live_of_released _ live)

theorem exec_loadLaneMap : exec (.loadLaneMap tag) s = .next (s.handOff (.plain .loadLaneMap tag)) :=
  congrArg Host.Outcome.next (s.live_of_released _ live)

theorem exec_fillLaneMap (d l : Word) : exec (.fillLaneMap tag d l) s =
    .next (s.handOff { Command.plain .fillLaneMap tag with fillDirection := d, fillLevel := l }) :=
  congrArg Host.Outcome.next (s.live_of_released _ live)

theorem exec_clearAccounts (m : Word32) : exec (.clearAccounts tag m) s =
    .next (s.handOff { Command.plain .clearAccounts tag with mask := m }) :=
  congrArg Host.Outcome.next (s.live_of_released _ live)

theorem exec_diagnose (m : Word32) : exec (.diagnose tag m) s =
    .next (s.handOff { Command.plain .diagnose tag with mask := m }) :=
  congrArg Host.Outcome.next (s.live_of_released _ live)

end

/-- A refusal after the tag was taken. -/
theorem State.refuse_seen (s : State) (tag : Byte8) (why : RefusalReason) :
    (s.seen tag).refuse tag why = refusedState s tag why := by
  simp [State.refuse, State.seen, State.raise, refusedState, satAdd, max16]

/-! ## START_RUN -/

/-- A chain entry order to a rail in OFF of an unlocked bank. -/
theorem Socket.chainEntry_enters (c : Ctx) (x : Socket) (unlocked : c.bank.locked = false)
    (off : x.rail.st = .off) : entersChain c.bank (x.chainEntry c) := by
  have enters : x.chainEntry c = x.setRail (x.rail.joinChain c.bank) := by
    simp [Socket.chainEntry, unlocked, Rail.chainEntry, off]
  rw [enters]
  refine ⟨fun none => ?_, fun e some => ?_⟩
  · simp [Rail.joinChain, none]
  · simp [Rail.joinChain, some]

/-- A chain entry order keeps the phase in an unlocked bank. -/
theorem Socket.chainEntry_unlocked (c : Ctx) (x : Socket) (unlocked : c.bank.locked = false) :
    x.chainEntry c = x.setRail (x.rail.chainEntry c.bank) := by
  simp [Socket.chainEntry, unlocked]

/-- In a locked bank it retires a socket in a reporting phase. -/
theorem Socket.chainEntry_locked (c : Ctx) (x : Socket) (locked : c.bank.locked = true)
    (reports : x.acct.phase.reporting = true) : x.chainEntry c = x.retire .bankLock := by
  simp [Socket.chainEntry, locked, Socket.report, reports]

/-- In a locked bank it leaves any other. -/
theorem Socket.chainEntry_locked_dropped (c : Ctx) (x : Socket) (locked : c.bank.locked = true)
    (silent : x.acct.phase.reporting = false) : x.chainEntry c = x := by
  simp [Socket.chainEntry, locked, Socket.report, silent]

/-- Settles O37: by the two refusals, and in a socket by its phase and the lock of its bank. -/
theorem startRunBeginsTheRun : Obligations.StartRunBeginsTheRun := by
  intro s tag live idle
  rw [exec_startRun s tag live, s.handOff_idle _ idle]
  have judged : (s.seen (Command.plain .startRun tag).tag).judge (.plain .startRun tag) =
      (s.seen tag).judgeStart (.plain .startRun tag) := rfl
  rw [judged, State.judgeStart]
  refine ⟨fun refused => ?_, fun stopped released plain => ?_, fun stopped released adopted => ⟨_, rfl, ?_⟩⟩
  · exact congrArg Host.Outcome.next ((if_pos refused).trans (s.refuse_seen tag _))
  · rw [if_neg (by simp [State.seen, stopped, released])]
    exact congrArg Host.Outcome.next ((if_pos plain).trans (s.refuse_seen tag _))
  · rw [if_neg (by simp [State.seen, stopped, released]), if_neg (by simp [State.seen, adopted])]
    have sock (i : SocketIx) : (((s.seen tag).accept (.plain .startRun tag)).beginRun.completeWith (Command.plain .startRun tag).tag .success 0).sock
        i = (s.sock i).runStart (s.ctx i) := State.sock_updAll _ _ i
    refine ⟨?_, ?_, ?_, Cause.raised _ _, fun b => ?_, fun i => ⟨fun other => ?_, fun waits locked => ?_,
      fun waits unlocked off => ?_⟩⟩
    · unfold State.beginRun
      rw [State.updAll_eq]
      rfl
    · unfold State.beginRun
      rw [State.updAll_eq]
      rfl
    · unfold State.beginRun
      rw [State.updAll_eq]
      rfl
    · simp [State.beginRun, State.completeWith, State.seen, State.accept]
    · rw [sock, Socket.runStart, if_neg other]
    · rw [sock, Socket.runStart, if_pos waits, Socket.chainEntry_locked _ _ locked (by rw [waits]; rfl)]
      exact ⟨rfl, rfl, rfl⟩
    · have entered := Socket.chainEntry_enters (s.ctx i) (s.sock i) unlocked off
      rw [sock, Socket.runStart, if_pos waits]
      refine ⟨?_, entered.1, entered.2⟩
      rw [Socket.chainEntry_unlocked _ _ unlocked]
      exact waits

/-! ## HOLD -/

/-- Settles O38: by the board state, and in a held socket by its phase. -/
theorem holdPausesTheRun : Obligations.HoldPausesTheRun := by
  intro s tag live idle
  rw [exec_hold s tag live, s.handOff_idle _ idle]
  have judged : (s.seen (Command.plain .hold tag).tag).judge (.plain .hold tag) =
      (s.seen tag).judgeHold (.plain .hold tag) := rfl
  rw [judged, State.judgeHold]
  refine ⟨fun stands => ?_, fun runs => ⟨_, rfl, ?_⟩⟩
  · exact congrArg Host.Outcome.next ((if_pos stands).trans (s.refuse_seen tag _))
  · rw [if_neg (by simp [State.seen, runs])]
    have sock (i : SocketIx) :
        ((((s.seen tag).accept (.plain .hold tag)).enterHold .command).completeWith (Command.plain .hold tag).tag .success 0).sock i =
          (s.sock i).hold := State.enterHold_sock _ .command i
    have smc := ((s.seen tag).accept (.plain .hold tag)).enterHold_smc .command
    refine ⟨?_, ?_, ?_, fun i => ?_⟩
    · rw [State.enterHold_eq]
      rfl
    · rw [State.enterHold_eq]
      rfl
    · rw [State.enterHold_eq]
      rfl
    · rw [sock]
      refine ⟨fun active => ?_, fun inactive => ?_, Socket.hold_exerciseHeld _, Socket.hold_spoil _,
        Socket.hold_rail _, Socket.hold_thermal _, Socket.hold_sensor _, Socket.hold_gate _⟩
      · rw [Socket.hold_active _ active]
        exact ⟨rfl, rfl⟩
      · rw [Socket.hold_inactive _ inactive]
        rfl

/-! ## RESUME -/

/-- A socket that comes back from HELD starts no soak. -/
theorem Socket.changePhase_thermal_of (x : Socket) (p : Phase) (r : ResumePhase) (other : x.acct.phase ≠ .powering) :
    (x.changePhase p r).thermal = x.thermal := by
  simp [Socket.changePhase, other]

/-- A return to STRESSING arms the exercise, or suspends it while its flag is set. -/
theorem Exercise.followPhase_stress (e : Exercise) (old : Phase) (from' : old ≠ .stressing) :
    e.followPhase old .stressing = e.beginStress := by
  simp [Exercise.followPhase, from']

section
variable (c : Ctx) (x : Socket)

theorem Socket.resume_held (prior : HoldReason) (held : x.acct.phase = .held) (other : prior ≠ .interlock) :
    x.resume c prior = x.changePhase x.acct.resume.phase .none := by
  unfold Socket.resume
  rw [held]
  cases prior <;> first | rfl | exact absurd rfl other

theorem Socket.resume_held_interlock (held : x.acct.phase = .held) :
    x.resume c .interlock = (x.changePhase .powering .none).chainEntry c := by
  unfold Socket.resume
  rw [held]

theorem Socket.resume_waiting_interlock (waits : x.acct.phase = .waiting) :
    x.resume c .interlock = x.chainEntry c := by
  unfold Socket.resume
  rw [waits]
  rfl

theorem Socket.resume_complete (prior : HoldReason) (done : x.acct.phase = .complete) :
    x.resume c prior =
      if prior = .interlock ∧ x.gate.shadow.endAction = .holdPowered then x.chainEntry c else x := by
  unfold Socket.resume
  rw [done]

/-- After any other hold only HELD sockets are resumed. -/
theorem Socket.resume_other (prior : HoldReason) (notHeld : x.acct.phase ≠ .held) (other : prior ≠ .interlock) :
    x.resume c prior = x := by
  unfold Socket.resume
  cases e : x.acct.phase <;> simp_all

/-- Active, EMPTY and RETIRED sockets stand. -/
theorem Socket.resume_stands (prior : HoldReason) (stands : x.acct.phase.asResume ≠ .none ∨ x.acct.phase = .empty ∨
    x.acct.phase = .retired) : x.resume c prior = x := by
  unfold Socket.resume
  cases e : x.acct.phase <;> simp_all [Phase.asResume]

end

/-- Settles O39: by the Hold Reason, and in a socket by its phase and the lock of its bank. -/
theorem resumeRestoresTheRun : Obligations.ResumeRestoresTheRun := by
  intro s tag live idle
  rw [exec_resume s tag live, s.handOff_idle _ idle]
  have judged : (s.seen (Command.plain .resume tag).tag).judge (.plain .resume tag) =
      (s.seen tag).judgeResume (.plain .resume tag) := rfl
  rw [judged, State.judgeResume]
  refine ⟨fun refused => ?_, fun holds released scans => ⟨_, rfl, ?_⟩⟩
  · exact congrArg Host.Outcome.next ((if_pos refused).trans (s.refuse_seen tag _))
  · rw [if_neg (by simp [State.seen, holds, released, scans])]
    have sock (i : SocketIx) :
        (((s.seen tag).accept (.plain .resume tag)).resumeRun.completeWith (Command.plain .resume tag).tag .success 0).sock i =
          (s.sock i).resume (s.ctx i) s.brc.reason := State.sock_updAll _ _ i
    have ended (i : SocketIx) (is : (s.sock i).ends ((s.sock i).resume (s.ctx i) s.brc.reason) = true) :
        (((s.seen tag).accept (.plain .resume tag)).resumeRun.completeWith (Command.plain .resume tag).tag .success 0).smc.attention.getLsbD
          Cause.socketEnded.bit = true :=
      Cause.stays _ (State.updAll_ended ((s.seen tag).accept (.plain .resume tag)) _ i is)
    refine ⟨?_, ?_, Cause.raised _ _, fun i => ?_⟩
    · unfold State.resumeRun
      rw [State.updAll_eq]
      rfl
    · unfold State.resumeRun
      rw [State.updAll_eq]
      rfl
    rw [sock]
    have bank : (s.ctx i).bank = s.banks[bankOf i] := rfl
    refine ⟨fun held other => ?_, fun held interlock unlocked => ?_, fun waits interlock unlocked => ?_,
      fun held interlock locked => ?_, fun done interlock keeps => ?_, fun done off => ?_, fun notHeld other => ?_,
      fun stands => ?_⟩
    · rw [Socket.resume_held _ _ _ held other]
      refine ⟨rfl, Socket.changePhase_rail _ _ _, Socket.changePhase_thermal_of _ _ _ (by simp [held]),
        fun back => by rw [back]; rfl, fun back => by rw [back]; rfl, fun back => ?_⟩
      rw [back]
      refine ⟨rfl, fun clear => ?_, fun set => ?_⟩ <;>
        simp [ResumePhase.phase, Exercise.followPhase_stress, Exercise.beginStress, *, Exercise.arm]
    · rw [interlock, Socket.resume_held_interlock _ _ held]
      refine ⟨?_, ?_, fun off => ?_⟩
      · rw [Socket.chainEntry_unlocked _ _ unlocked]; rfl
      · rw [Socket.chainEntry_unlocked _ _ unlocked]; rfl
      · exact Socket.chainEntry_enters (s.ctx i) _ unlocked ((congrArg Rail.st (Socket.changePhase_rail _ _ _)).trans off)
    · rw [interlock, Socket.resume_waiting_interlock _ _ waits]
      refine ⟨?_, fun off => Socket.chainEntry_enters (s.ctx i) _ unlocked off⟩
      rw [Socket.chainEntry_unlocked _ _ unlocked]
      exact waits
    · have retires : ∃ y : Socket, (s.sock i).resume (s.ctx i) s.brc.reason = y.retire .bankLock := by
        rw [interlock]
        rcases held with held | waits
        · rw [Socket.resume_held_interlock _ _ held]
          exact ⟨_, Socket.chainEntry_locked _ _ locked rfl⟩
        · rw [Socket.resume_waiting_interlock _ _ waits]
          exact ⟨_, Socket.chainEntry_locked _ _ locked (by rw [waits]; rfl)⟩
      obtain ⟨y, is⟩ := retires
      have raisesEnded := ended i (Socket.ends_of_retired (by rcases held with h | h <;> simp [h]) (by rw [is]; rfl))
      rw [is]
      exact ⟨rfl, rfl, rfl, raisesEnded⟩
    · rw [Socket.resume_complete _ _ _ done, if_pos ⟨interlock, keeps⟩]
      cases lock : s.banks[bankOf i].locked with
      | true =>
        have stands := Socket.chainEntry_locked_dropped (s.ctx i) (s.sock i) lock (by rw [done]; rfl)
        rw [stands]
        exact ⟨done, rfl, fun _ => rfl, nofun⟩
      | false =>
        refine ⟨?_, ?_, nofun, fun _ off => Socket.chainEntry_enters (s.ctx i) _ lock off⟩
        · rw [Socket.chainEntry_unlocked _ _ lock]
          exact done
        · rw [Socket.chainEntry_unlocked _ _ lock]
          rfl
    · rw [Socket.resume_complete _ _ _ done, if_neg (by simp [off])]
    · exact Socket.resume_other _ _ _ notHeld other
    · exact Socket.resume_stands _ _ _ stands

end Sys2Proof.Machine
end

section
/-! The statements about STOP_RUN, the busy channel, the long commands and CLEAR_ACCOUNTS (Chapter 3). -/

namespace Sys2Proof.Machine

/-! ## STOP_RUN (section 3.4) -/

/-- A stop ends every exercise but a diagnosis. -/
theorem Exercise.halt_st (e : Exercise) (other : e.st ≠ .diag) : e.halt.st = .stopped := by
  unfold Exercise.halt
  cases is : e.st <;> simp_all

/-- An exercise that is stopped stays stopped in WAITING. -/
theorem Exercise.followPhase_waiting (e : Exercise) (old : Phase) (stopped : e.st = .stopped) :
    (e.followPhase old .waiting).st = .stopped := by
  have halted : e.halt.st = .stopped := e.halt_st (by simp [stopped])
  unfold Exercise.followPhase
  (repeat' split) <;> simp_all

/-- What a stop makes of a socket before it takes it out of its run. -/
def Socket.shutDown (x : Socket) : Socket :=
  let y : Socket := { x.takedown with thermal := x.thermal.stop }
  y.setEx y.ex.halt

theorem Socket.stop_reporting (x : Socket) (reports : x.acct.phase.reporting = true) :
    x.stop = (let z := x.shutDown.changePhase .waiting .none
      { z with acct := { z.acct with bin := .incomplete } }) := by
  have same : x.shutDown.acct.phase.reporting = true := reports
  unfold Socket.stop
  exact if_pos same

theorem Socket.stop_silent (x : Socket) (silent : x.acct.phase.reporting = false) : x.stop = x.shutDown := by
  have same : ¬x.shutDown.acct.phase.reporting = true := by
    simpa [Socket.shutDown, Socket.takedown] using silent
  unfold Socket.stop
  exact if_neg same

/-- A stop takes the rail down, puts the thermal output to 0 and ends the exercise. -/
theorem Socket.stop_blocks (x : Socket) :
    x.stop.rail = x.rail.takedown ∧ x.stop.thermal = x.thermal.stop ∧
      (x.ex.st ≠ .diag → x.stop.ex.st = .stopped) ∧ x.stop.acct.dwellSec = x.acct.dwellSec := by
  cases reports : x.acct.phase.reporting with
  | false =>
    rw [x.stop_silent reports]
    exact ⟨rfl, rfl, fun other => x.ex.halt_st other, rfl⟩
  | true =>
    rw [x.stop_reporting reports]
    refine ⟨Socket.changePhase_rail x.shutDown .waiting .none, Socket.changePhase_thermal x.shutDown .waiting .none nofun, fun other => ?_, ?_⟩
    · have stopped : x.shutDown.ex.st = .stopped := x.ex.halt_st other
      have follows := Exercise.followPhase_waiting x.shutDown.ex x.shutDown.acct.phase stopped
      simpa using follows
    · simp [Socket.changePhase, Socket.shutDown, Socket.takedown, Socket.setRail, Socket.setEx]

theorem Socket.stop_quiet (x : Socket) : x.ends x.stop = false := by
  cases reports : x.acct.phase.reporting with
  | false =>
    rw [x.stop_silent reports]
    exact Socket.ends_of_phase _ _ rfl
  | true =>
    rw [x.stop_reporting reports]
    rfl

/-- A takedown by the state of the rail (R81). -/
theorem Rail.takedown_dac (r : Rail) : r.takedown.dac = r.dac := by
  unfold Rail.takedown
  split <;> rfl

theorem Rail.takedown_off (r : Rail) (waits : r.st = .chainWait ∨ r.st = .holdOff ∨ r.st = .off) :
    r.takedown.st = .off := by
  rcases waits with is | is | is <;> simp [Rail.takedown, is]

theorem Rail.takedown_rampDown (r : Rail) (falls : r.st = .rampDown) :
    r.takedown = { r with pendingEntry := false } := by
  simp [Rail.takedown, falls]

/-- A STOP_RUN accepted on a board that runs or holds. -/
theorem State.stopRunning_eq (s : State) :
    s.stopRunning = { s with brc := { s.brc with state := .stopping, reason := .none },
                             sockets := s.stopRunning.sockets } := by
  unfold State.stopRunning
  rw [s.updAll_quiet _ fun i => Socket.stop_quiet _]
  rfl

theorem State.checkStopped_sock (s : State) (i : SocketIx) : s.checkStopped.sock i = s.sock i := by
  simp [State.sock]

/-- The answer of a STOPPING board to the report that every rail is OFF. -/
theorem State.checkStopped_allOff (s : State) (ch : Channel) (stopping : s.brc.state = .stopping)
    (busy : s.brc.channel = some ch) (off : ∀ i : SocketIx, (s.sock i).rail.st = .off) :
    s.checkStopped = { s with
      brc := { s.brc with state := .stopped, reason := .none, completedTag := ch.tag, result := .success
                          detail := 0, channel := none }
      smc := commandDoneSmc s.smc } := by
  rw [s.checkStopped_done ch stopping busy off]
  rfl

/-- Settles O40: by the board state, and in a stopped socket by its phase and rail. -/
theorem stopRunBringsTheBoardDown : Obligations.StopRunBringsTheBoardDown := by
  intro s tag live idle
  rw [exec_stopRun s tag live, s.handOff_idle _ idle]
  have judged : (s.seen (Command.plain .stopRun tag).tag).judge (.plain .stopRun tag) =
      (s.seen tag).judgeStop (.plain .stopRun tag) := rfl
  rw [judged]
  let ch := (Command.plain .stopRun tag).channel .stopRun .ramping
  let u := ((s.seen tag).accept (.plain .stopRun tag)).holdChannel (.plain .stopRun tag) .stopRun .ramping
  refine ⟨fun stopped => ?_, fun stopping => ⟨fun ⟨i, up⟩ => ⟨ch, rfl, rfl, rfl, ?_⟩, fun off => ?_⟩, fun active => ?_⟩
  · have is : (s.seen tag).brc.state = .stopped := stopped
    rw [State.judgeStop, is]
    rfl
  · have is : (s.seen tag).brc.state = .stopping := stopping
    rw [State.judgeStop, is]
    refine congrArg Host.Outcome.next ((State.checkStopped_of_rail (u.setBoard .stopping .none) i up).trans ?_)
    rw [← stopping]
    rfl
  · have is : (s.seen tag).brc.state = .stopping := stopping
    rw [State.judgeStop, is]
    exact congrArg Host.Outcome.next (State.checkStopped_allOff (u.setBoard .stopping .none) ch rfl rfl off)
  · have stops : (s.seen tag).judgeStop (.plain .stopRun tag) = u.stopRunning.checkStopped := by
      rcases active with is | is
      · have is' : (s.seen tag).brc.state = .running := is
        rw [State.judgeStop, is']
      · have is' : (s.seen tag).brc.state = .holding := is
        rw [State.judgeStop, is']
    have sock (i : SocketIx) : u.stopRunning.checkStopped.sock i = (s.sock i).stop :=
      (State.checkStopped_sock _ i).trans (State.sock_updAll _ _ i)
    have rail (i : SocketIx) : u.stopRunning.checkStopped.sock i = u.stopRunning.sock i :=
      State.checkStopped_sock _ i
    have quiet := u.stopRunning_eq
    rw [stops]
    refine ⟨_, rfl, ?_, fun off => ?_, fun i up => ?_, fun i => ?_⟩
    · by_cases off : ∀ i : SocketIx, (u.stopRunning.sock i).rail.st = .off
      · rw [State.checkStopped_allOff _ ch rfl (by rw [quiet]; rfl) off, quiet]
        rfl
      · obtain ⟨i, up⟩ := Classical.not_forall.mp off
        rw [State.checkStopped_of_rail _ i up, quiet]
        rfl
    · rw [State.checkStopped_allOff _ ch rfl (by rw [quiet]; rfl) fun i => by rw [← rail]; exact off i, quiet]
      exact ⟨rfl, rfl⟩
    · rw [State.checkStopped_of_rail _ i (by rw [← rail]; exact up), quiet]
      exact ⟨rfl, rfl, rfl, rfl, rfl, ch, rfl, rfl, rfl, rfl⟩
    · obtain ⟨railIs, thermalIs, exIs, dwellIs⟩ := (s.sock i).stop_blocks
      rw [sock, railIs, thermalIs]
      refine ⟨fun reports => ?_, fun silent => ?_, fun up => ⟨Rail.takedown_checked _ up, Rail.takedown_dac _⟩,
        Rail.takedown_off _, fun falls => ?_, exIs, rfl, rfl, rfl, rfl, dwellIs⟩
      · rw [Socket.stop_reporting _ reports]
        exact ⟨rfl, rfl, rfl⟩
      · rw [Socket.stop_silent _ silent]
        exact ⟨rfl, rfl⟩
      · rw [Rail.takedown_rampDown _ falls]
        exact ⟨falls, rfl⟩

/-! ## The end of the command in progress (sections 3.2 and 3.11) -/

/-- The completion of a command in progress. -/
theorem State.completeChannel_busy (s : State) {ch : Channel} (busy : s.brc.channel = some ch) (r : CmdResult)
    (d : Nat) : s.completeChannel r d = { s with
      brc := { s.brc with completedTag := ch.tag, result := r, detail := d, channel := none }
      smc := commandDoneSmc s.smc } := by
  simp [State.completeChannel, busy, State.completeWith, State.raise, commandDoneSmc]

theorem Socket.checkRoles_phase (m : LaneMap) (i : SocketIx) (x : Socket) :
    (x.checkRoles m i).acct.phase = x.acct.phase := by
  unfold Socket.checkRoles
  split <;> rfl

theorem Socket.checkRoles_quiet (m : LaneMap) (i : SocketIx) (x : Socket) : x.ends (x.checkRoles m i) = false :=
  Socket.ends_of_phase _ _ (x.checkRoles_phase m i)

/-- The lane-role check suspends an unfit SELFTEST socket and leaves any other. -/
theorem Socket.checkRoles_rolesChecked (m : LaneMap) (i : SocketIx) (x : Socket) :
    rolesChecked m i x (x.checkRoles m i) := by
  unfold rolesChecked Socket.checkRoles
  refine ⟨fun fit => if_neg fit, fun unfit => ?_⟩
  rw [if_pos unfit]
  refine ⟨?_, rfl, fun runs => ?_, fun notArmed notRunning => ?_⟩
  · simp only [Socket.setEx_ex, Exercise.suspend]
    split <;> rfl
  · rcases runs with is | is <;> simp [Exercise.suspend, is, Exercise.abandon]
  · simp only [Socket.setEx_ex, Exercise.suspend]

/-- The completion of a fill (R58). -/
theorem State.fillDone_busy (s : State) {ch : Channel} (busy : s.brc.channel = some ch) :
    s.fillDone = { s with
      brc := { s.brc with completedTag := ch.tag, result := .success, detail := 0, channel := none
                          mapGeneration := s.brc.mapGeneration + 1 }
      smc := commandDoneSmc s.smc
      sockets := Vector.ofFn fun i => s.sockets[i].checkRoles s.pxr.active i } := by
  unfold State.fillDone
  rw [s.updAll_quiet _ fun i => Socket.checkRoles_quiet _ i _]
  refine (State.completeChannel_busy _ (ch := ch) ?_ .success 0).trans rfl
  exact busy

theorem State.fillDone_sock (s : State) (i : SocketIx) :
    s.fillDone.sock i = (s.sock i).checkRoles s.pxr.active i := by
  unfold State.fillDone
  simp [State.sock, State.updAll_sockets]

theorem Socket.endDiag_acct (x : Socket) : x.endDiag.acct = x.acct := by
  unfold Socket.endDiag
  split <;> rfl

theorem Socket.endDiag_quiet (x : Socket) : x.ends x.endDiag = false :=
  Socket.ends_of_phase _ _ (by rw [x.endDiag_acct])

section
variable (s : State) {ch : Channel} (busy : s.brc.channel = some ch)
include busy

/-- A STOP_RUN ends the command in progress by its code and step (R55). -/
theorem State.displace_busy : s.displace =
    match ch.code, ch.step with
    | .loadLaneMap, .doneWait => s.completeChannel .success 0
    | .loadLaneMap, _ => { s with pxr := s.pxr.discard }.completeChannel .aborted 0
    | .fillLaneMap, .doneWait => s.fillDone
    | .diagnose, .doneWait => s.completeChannel .success (s.diagFails ch.mask)
    | .diagnose, _ => (s.updAll fun _ x => x.endDiag).completeChannel .aborted 0
    | _, _ => s.completeChannel .aborted 0 := by
  unfold State.displace
  rw [busy] <;> rfl

theorem State.endDiag_busy : (s.updAll fun _ x => x.endDiag).completeChannel .aborted 0 = { s with
      brc := { s.brc with completedTag := ch.tag, result := .aborted, detail := 0, channel := none }
      smc := commandDoneSmc s.smc
      sockets := Vector.ofFn fun i : SocketIx => s.sockets[i].endDiag } := by
  rw [s.updAll_quiet _ fun i => Socket.endDiag_quiet _]
  refine (State.completeChannel_busy _ (ch := ch) ?_ .aborted 0).trans rfl
  exact busy

/-- Seen Tag has no part in it. -/
theorem State.displace_seen (tag : Byte8) : (s.seen tag).displace = s.displace.seen tag := by
  have busy' : (s.seen tag).brc.channel = some ch := busy
  rw [State.displace_busy _ busy', State.displace_busy _ busy]
  split
  · rw [State.completeChannel_busy _ busy', State.completeChannel_busy _ busy]
    rfl
  · have discarded (u : State) (is : u.brc.channel = some ch) :=
      State.completeChannel_busy { u with pxr := u.pxr.discard } is .aborted 0
    rw [discarded _ busy', discarded _ busy]
    rfl
  · rw [State.fillDone_busy _ busy', State.fillDone_busy _ busy]
    rfl
  · rw [State.completeChannel_busy _ busy', State.completeChannel_busy _ busy]
    rfl
  · rw [State.endDiag_busy _ busy', State.endDiag_busy _ busy]
    rfl
  · rw [State.completeChannel_busy _ busy', State.completeChannel_busy _ busy]
    rfl

end

/-- A STOP_RUN on a busy channel is one on the channel that it has made idle. -/
theorem State.handOff_stopRun (s : State) (c : Command) {ch : Channel} (busy : s.brc.channel = some ch)
    (stop : c.code = some .stopRun) : s.handOff c = s.displace.handOff c := by
  have idle : s.displace.brc.channel = none := s.displace_channel
  rw [State.handOff_idle _ c idle]
  have displaced := s.displace_seen busy c.tag
  unfold State.handOff State.takeCommand
  rw [if_neg (by simp [stop])]
  exact congrArg (State.judge · c) displaced

/-- Settles O41: by the code and the step of the command in progress. -/
theorem busyChannelRefusesOrIsDisplaced : Obligations.BusyChannelRefusesOrIsDisplaced := by
  intro s ch tag live busy
  have refused (c : Command) (other : c.code ≠ some .stopRun) : s.handOff c = refusedState s c.tag .busy :=
    s.handOff_busy c busy other
  refine ⟨⟨?_, ?_, ?_, ?_, fun d l => ?_, fun m => ⟨?_, ?_⟩⟩, ?_, s.displace_channel, fun code step => ?_,
    fun code step => ?_, fun code step => ?_, fun code step => ⟨?_, fun i => ?_⟩, fun code step => ?_,
    fun code step => ?_, fun code => ?_⟩
  · rw [exec_startRun s tag live, refused _ (by simp [Command.plain])]; rfl
  · rw [exec_hold s tag live, refused _ (by simp [Command.plain])]; rfl
  · rw [exec_resume s tag live, refused _ (by simp [Command.plain])]; rfl
  · rw [exec_loadLaneMap s tag live, refused _ (by simp [Command.plain])]; rfl
  · rw [exec_fillLaneMap s tag live, refused _ (by simp [Command.plain])]; rfl
  · rw [exec_clearAccounts s tag live, refused _ (by simp [Command.plain])]; rfl
  · rw [exec_diagnose s tag live, refused _ (by simp [Command.plain])]; rfl
  · rw [exec_stopRun s tag live, exec_stopRun _ tag (s.displace_pins ▸ live), s.handOff_stopRun _ busy rfl]
  all_goals rw [s.displace_busy busy, code]
  · rcases step with step | step <;> rw [step] <;>
      exact State.completeChannel_busy { s with pxr := s.pxr.discard } busy .aborted 0
  · rw [step]
    exact s.completeChannel_busy busy .success 0
  · rcases step with step | step <;> rw [step] <;> exact s.completeChannel_busy busy .aborted 0
  · rw [step]
    dsimp only
    rw [s.fillDone_busy busy]
  · rw [step]
    dsimp only
    rw [s.fillDone_sock i]
    exact Socket.checkRoles_rolesChecked _ _ _
  · have ends : ∀ t : State, t = (s.updAll fun _ x => x.endDiag).completeChannel .aborted 0 →
        t.brc = { s.brc with completedTag := ch.tag, result := .aborted, detail := 0, channel := none } ∧
        t.smc = commandDoneSmc s.smc ∧ ∀ i : SocketIx, (t.sock i).ex.diagResult = (s.sock i).ex.diagResult ∧
          (t.sock i).ex.diagErrors = (s.sock i).ex.diagErrors ∧ (t.sock i).ex.st ≠ .diag ∧
          (t.sock i).acct = (s.sock i).acct := by
      rintro t rfl
      rw [s.endDiag_busy busy]
      refine ⟨rfl, rfl, fun i => ?_⟩
      have is : State.sock { s with
          brc := { s.brc with completedTag := ch.tag, result := .aborted, detail := 0, channel := none }
          smc := commandDoneSmc s.smc
          sockets := Vector.ofFn fun i : SocketIx => s.sockets[i].endDiag } i = (s.sock i).endDiag := by
        simp [State.sock]
      rw [is, Socket.endDiag_acct]
      unfold Socket.endDiag
      split
      · exact ⟨rfl, rfl, nofun, rfl⟩
      · next other => exact ⟨rfl, rfl, other, rfl⟩
    rcases step with step | step <;> rw [step] <;> exact ends _ rfl
  · rw [step]
    exact s.completeChannel_busy busy .success _
  · exact s.completeChannel_busy busy .aborted 0

/-! ## The long commands (sections 3.5 and 3.6) -/

/-- Settles O42: by the tests of each command. -/
theorem longCommandsBegin : Obligations.LongCommandsBegin := by
  intro s tag live idle
  refine ⟨⟨(Command.plain .loadLaneMap tag).channel .loadLaneMap .reading, rfl, rfl, rfl, ?_⟩,
    fun d l => ⟨fun undefined => ?_, fun dir lev direction level => ⟨fun active => ?_, fun still => ?_⟩⟩,
    fun mask => ⟨fun runs => ?_, fun stopped empty => ?_, fun stopped some =>
      ⟨({ Command.plain .diagnose tag with mask := mask }).channel .diagnose .frameWait, rfl, rfl, rfl, rfl, ?_⟩⟩⟩
  · rw [exec_loadLaneMap s tag live, s.handOff_idle _ idle]
    rfl
  all_goals
    first
    | rw [exec_fillLaneMap s tag live, s.handOff_idle _ idle]
    | rw [exec_diagnose s tag live, s.handOff_idle _ idle]
    refine congrArg Host.Outcome.next ?_
  · have none : ({ Command.plain .fillLaneMap tag with fillDirection := d, fillLevel := l } : Command).fill.isNone :=
      by
        unfold Command.fill
        rcases undefined with is | is
        · simp [is]
        · cases fillDirectionOf d <;> simp [is]
    exact (if_pos none).trans (s.refuse_seen tag _)
  · have fill : ({ Command.plain .fillLaneMap tag with fillDirection := d, fillLevel := l } : Command).fill =
        some (dir, lev) := by
      simp [Command.fill, direction, level]
    have notStill : ¬((s.seen tag).brc.state = .stopped ∨ (s.seen tag).brc.state = .holding) := by
      rcases active with is | is <;> simp [State.seen, is]
    exact (if_neg (by simp [fill])).trans ((if_neg notStill).trans (s.refuse_seen tag _))
  · have fill : ({ Command.plain .fillLaneMap tag with fillDirection := d, fillLevel := l } : Command).fill =
        some (dir, lev) := by
      simp [Command.fill, direction, level]
    refine (if_neg (by simp [fill])).trans ((if_pos still).trans ?_)
    unfold State.holdChannel Command.channel
    rw [fill]
    rfl
  · exact (if_pos runs).trans (s.refuse_seen tag _)
  · exact (if_neg (fun other => other stopped)).trans (if_pos empty)
  · exact (if_neg (fun other => other stopped)).trans (if_neg some)

end Sys2Proof.Machine
end

section
/-! What a condition leaves of its socket, and the statement about CLEAR_ACCOUNTS (section 3.6). -/

namespace Sys2Proof.Machine

/-! ## What a condition changes of its socket -/

/-- The accounts that a retirement leaves. -/
theorem Socket.retire_acct (x : Socket) (k : RetireKind) : (x.retire k).acct = { x.acct with
    phase := .retired, resume := .none, retireKind := k, bin := k.bin
    spoil := (x.retire k).acct.spoil, leftStress := (x.retire k).acct.leftStress } := by
  simp [Socket.retire, Socket.changePhase, Socket.setRail, Socket.setEx]

/-- A socket with the counts, the records and the strikes of other accounts. -/
def Socket.accounted (x : Socket) (a : Account) : Socket := { x with acct := { x.acct with
  kindCount := a.kindCount, failTotal := a.failTotal, firstFailDwell := a.firstFailDwell, staging := a.staging
  detailLost := a.detailLost, strikes := a.strikes } }

section
variable (c : Ctx) (k : Kind) (sub : Nat) (d : List Word) (x : Socket)

theorem Socket.counted_accounted : x.counted k = x.accounted (x.counted k).acct := rfl

theorem Socket.recorded_accounted : x.recorded c k sub d = x.accounted (x.recorded c k sub d).acct := by
  simp only [Socket.recorded, Socket.record, Account.stage, Socket.accounted]
  split <;> rfl

theorem Socket.strike_accounted (k : Kind) :
    (∃ a, x.strike k = x.accounted a) ∨ ∃ a, x.strike k = (x.accounted a).retire (.kind k) := by
  rcases Nat.lt_or_ge (x.acct.strikes + 1) x.gate.shadow.num.strikeLimit with below | limit
  · exact .inl ⟨{ x.acct with strikes := x.acct.strikes + 1 }, x.strike_below k below⟩
  · exact .inr ⟨{ x.acct with strikes := x.acct.strikes + 1 }, x.strike_limit k limit⟩

/-- A condition counts, records and strikes; beyond that it retires its socket, out of a reporting phase, or
leaves it. -/
theorem Socket.takeCondition_cases : (∃ a, x.takeCondition c k sub d = x.accounted a) ∨
    x.acct.phase.reporting = true ∧ ∃ a, x.takeCondition c k sub d = (x.accounted a).retire (.kind k) := by
  by_cases reports : x.acct.phase.reporting = true
  case neg => exact .inl ⟨x.acct, x.takeCondition_dropped c k sub d (by simpa using reports)⟩
  cases act : x.gate.shadow.actionFor k sub with
  | ignore => exact .inl ⟨(x.counted k).acct, x.takeCondition_ignore c k sub d reports act⟩
  | log => exact .inl ⟨_, (x.takeCondition_log c k sub d reports act).trans (x.recorded_accounted c k sub d)⟩
  | strike =>
    rw [x.takeCondition_strike c k sub d reports act, x.recorded_accounted c k sub d]
    rcases (x.accounted (x.recorded c k sub d).acct).strike_accounted k with ⟨a, is⟩ | ⟨a, is⟩
    · exact .inl ⟨a, is⟩
    · exact .inr ⟨reports, a, is⟩
  | retire =>
    rw [x.takeCondition_retire c k sub d reports act, x.recorded_accounted c k sub d]
    exact .inr ⟨reports, _, rfl⟩

/-- A condition that leaves its socket in the phase it had changes nothing but counts, records and strikes. -/
theorem Socket.takeCondition_accounted (stays : (x.takeCondition c k sub d).acct.phase = x.acct.phase) :
    ∃ a, x.takeCondition c k sub d = x.accounted a := by
  rcases x.takeCondition_cases c k sub d with is | ⟨reports, a, is⟩
  · exact is
  · rw [← stays, is] at reports
    cases reports

@[simp] theorem Socket.takeCondition_sensor : (x.takeCondition c k sub d).sensor = x.sensor := by
  rcases x.takeCondition_cases c k sub d with ⟨a, is⟩ | ⟨-, a, is⟩ <;> rw [is]
  · rfl
  · rw [Socket.retire_sensor]
    rfl

@[simp] theorem Socket.takeCondition_trips : (x.takeCondition c k sub d).rail.trips = x.rail.trips := by
  rcases x.takeCondition_cases c k sub d with ⟨a, is⟩ | ⟨-, a, is⟩ <;> rw [is]
  · rfl
  · rw [Socket.retire_rail, Rail.takedown_trips]
    rfl

/-- A condition leaves what the accounts hold beside the phase, the spoil, the counts, the records and the bin. -/
theorem Socket.takeCondition_dwell :
    let a := x.acct
    let b := (x.takeCondition c k sub d).acct
    b.dwellSec = a.dwellSec ∧ b.dwellMs = a.dwellMs ∧ b.oosSec = a.oosSec ∧ b.oosMs = a.oosMs ∧
      b.lateCount = a.lateCount ∧ b.prevVisit = a.prevVisit ∧ b.stressedAtStart = a.stressedAtStart := by
  dsimp only
  rcases x.takeCondition_cases c k sub d with ⟨e, is⟩ | ⟨-, e, is⟩ <;> rw [is]
  · exact ⟨rfl, rfl, rfl, rfl, rfl, rfl, rfl⟩
  · rw [Socket.retire_acct]
    exact ⟨rfl, rfl, rfl, rfl, rfl, rfl, rfl⟩

/-- Outside the reporting phases, and in WAITING and POWERING and SOAKING, a condition leaves the exercise. -/
theorem Socket.takeCondition_ex (calm : x.acct.phase ≠ .stressing ∧ x.acct.phase ≠ .held) :
    (x.takeCondition c k sub d).ex = x.ex := by
  rcases x.takeCondition_cases c k sub d with ⟨a, is⟩ | ⟨reports, a, is⟩ <;> rw [is]
  · rfl
  · obtain ⟨notStress, notHeld⟩ := calm
    rw [Socket.retire_ex]
    cases p : x.acct.phase <;> simp_all [Socket.accounted, Exercise.followPhase]

/-- Detail Lost counts only the records that find the staging FIFO full. -/
theorem Socket.takeCondition_detailLost (room : x.acct.staging.length < 4) :
    (x.takeCondition c k sub d).acct.detailLost = x.acct.detailLost := by
  by_cases reports : x.acct.phase.reporting = true
  case neg => rw [x.takeCondition_dropped c k sub d (by simpa using reports)]
  by_cases act : x.gate.shadow.actionFor k sub = .ignore
  · rw [x.takeCondition_ignore c k sub d reports act]
    rfl
  · rw [(x.takeCondition_sameRecords c k sub d reports act).detailLost]
    exact ((x.counted k).record_staged c k sub d room).2

end

/-! ## CLEAR_ACCOUNTS (section 3.6) -/

/-- A cleared socket whose sensor is not LOST, or that its Enable leaves EMPTY, has no loss to hand on. -/
theorem Socket.lossAfterClear_clear (c : Ctx) (x : Socket)
    (noLoss : x.gate.shadow.enable = false ∨ x.sensor.st ≠ .lost) : x.clear.lossAfterClear c = x.clear := by
  rcases noLoss with off | found
  · have empty : x.clear.acct.phase ≠ .waiting := by simp [Socket.clear, Account.cleared, off]
    exact if_neg empty
  · have here : x.clear.reportLoss c = x.clear := if_neg found
    unfold Socket.lossAfterClear
    rw [here, ite_self]

/-- One in WAITING with its sensor LOST takes the loss as a condition. -/
theorem Socket.lossAfterClear_lost (c : Ctx) (x : Socket) (on : x.gate.shadow.enable = true)
    (lost : x.sensor.st = .lost) :
    x.clear.lossAfterClear c = x.clear.takeCondition c .sensorLost 0 [x.sensor.raw] := by
  have waits : x.clear.acct.phase = .waiting := by simp [Socket.clear, Account.cleared, on]
  have here : x.clear.reportLoss c = x.clear.takeCondition c .sensorLost 0 [x.sensor.raw] := if_pos lost
  exact (if_pos waits).trans here

/-- Either way the other blocks of the socket stand as the clear left them. -/
theorem Socket.lossAfterClear_blocks (c : Ctx) (x : Socket) :
    let y := x.clear.lossAfterClear c
    y.gate = x.clear.gate ∧ y.rail.trips = 0 ∧ y.sensor = x.sensor ∧ y.ex = x.ex.cleared := by
  have standing : x.clear.acct.phase ≠ .stressing ∧ x.clear.acct.phase ≠ .held := by
    cases on : x.gate.shadow.enable <;> simp [Socket.clear, Account.cleared, on]
  unfold Socket.lossAfterClear Socket.reportLoss
  (repeat' split) <;> simp [Socket.takeCondition_ex _ _ _ _ _ standing] <;> exact ⟨rfl, rfl, rfl⟩

theorem Socket.clear_quiet (x : Socket) : x.ends x.clear = false := by
  cases on : x.gate.shadow.enable <;> simp [Socket.clear, Account.cleared, on, Socket.ends, Phase.terminal]

/-- Whether a bank is cleared. -/
theorem bankMasked_iff (mask : Word32) (b : BankIx) :
    bankMasked mask b = true ↔ ∀ i : SocketIx, bankOf i = b → mask.getLsbD i.val = true := by
  simp [bankMasked, mem_bankSockets]

/-- The sockets after CLEAR_ACCOUNTS. -/
theorem State.clearAccounts_sock (s : State) (mask : Word32) (i : SocketIx) : (s.clearAccounts mask).sock i =
    if mask.getLsbD i.val then (s.sock i).clear.lossAfterClear (s.ctx i) else s.sock i := by
  let t := s.updAll fun i x => if mask.getLsbD i.val then x.clear else x
  have first : t.sock i = if mask.getLsbD i.val then (s.sock i).clear else s.sock i := State.sock_updAll s _ i
  have second : (s.clearAccounts mask).sock i =
      if mask.getLsbD i.val then (t.sock i).lossAfterClear (s.ctx i) else t.sock i :=
    State.sock_updAll t (fun i x => if mask.getLsbD i.val then x.lossAfterClear (s.ctx i) else x) i
  rw [second, first]
  split <;> rfl

/-- Beside the sockets it changes banks and ATTENTION. -/
theorem State.clearAccounts_eq (s : State) (mask : Word32) : s.clearAccounts mask = { s with
    smc := (s.clearAccounts mask).smc, sockets := (s.clearAccounts mask).sockets
    banks := Vector.ofFn fun b =>
      if bankMasked mask b then { s.banks[b] with tripCount := 0, runTrips := 0, locked := false }
      else s.banks[b] } := by
  simp only [State.clearAccounts, State.updAll_eq]

/-- A socket that its loss retires has ended. -/
theorem State.clearAccounts_ended (s : State) (mask : Word32) (i : SocketIx) (masked : mask.getLsbD i.val = true)
    (retired : ((s.clearAccounts mask).sock i).acct.phase = .retired) :
    (s.clearAccounts mask).smc.attention.getLsbD Cause.socketEnded.bit = true := by
  let t := s.updAll fun i x => if mask.getLsbD i.val then x.clear else x
  have first : t.sock i = (s.sock i).clear := (State.sock_updAll s _ i).trans (if_pos masked)
  have before : (t.sock i).acct.phase ≠ .retired := by
    rw [first]
    cases on : (s.sock i).gate.shadow.enable <;> simp [Socket.clear, Account.cleared, on]
  exact State.updAll_ended t (fun i x => if mask.getLsbD i.val then x.lossAfterClear (s.ctx i) else x) i
    (Socket.ends_of_retired before ((congrArg (·.acct.phase) (State.sock_updAll t
      (fun i x => if mask.getLsbD i.val then x.lossAfterClear (s.ctx i) else x) i)).symm.trans retired))

/-- Settles O43: by the board state, and in a masked socket by its Enable and its sensor. -/
theorem clearAccountsStartsAfresh : Obligations.ClearAccountsStartsAfresh := by
  intro s tag mask live idle
  rw [exec_clearAccounts s tag live, s.handOff_idle _ idle]
  let c : Command := { Command.plain .clearAccounts tag with mask := mask }
  have judged : (s.seen c.tag).judge c = (s.seen tag).judgeClear c := rfl
  refine ⟨fun runs => ?_, fun stopped => ⟨_, rfl, ?_⟩⟩ <;> rw [judged, State.judgeClear]
  · exact congrArg Host.Outcome.next ((if_pos runs).trans (s.refuse_seen tag _))
  rw [if_neg (by simp [State.seen, stopped])]
  let u := (s.seen tag).accept c
  have sock (i : SocketIx) : ((u.clearAccounts mask).completeWith c.tag .success 0).sock i =
      if mask.getLsbD i.val then (s.sock i).clear.lossAfterClear (s.ctx i) else s.sock i :=
    State.clearAccounts_sock u mask i
  have banks (b : BankIx) : ((u.clearAccounts mask).completeWith c.tag .success 0).banks[b] =
      if bankMasked mask b then { s.banks[b] with tripCount := 0, runTrips := 0, locked := false } else s.banks[b] := by
    rw [u.clearAccounts_eq mask]
    exact Vector.getElem_ofFn _
  refine ⟨?_, Cause.raised _ _, fun b => ⟨fun all => ?_, fun i within spared => ?_⟩, fun i => ⟨fun spared => ?_, fun masked => ?_⟩⟩
  · rw [u.clearAccounts_eq mask]
    rfl
  · rw [banks, if_pos ((bankMasked_iff mask b).mpr all)]
  · rw [banks, if_neg fun all => absurd ((bankMasked_iff mask b).mp all i within) (by rw [spared]; nofun)]
  · rw [sock, if_neg (by rw [spared]; nofun)]
  · have blocks := (s.sock i).lossAfterClear_blocks (s.ctx i)
    obtain ⟨gate, trips, sensor, ex⟩ := blocks
    have ended := u.clearAccounts_ended mask i masked
    rw [State.clearAccounts_sock, if_pos masked] at ended
    rw [sock, if_pos masked, gate, ex]
    refine ⟨rfl, trips, sensor, rfl, rfl, rfl, rfl, rfl, rfl, rfl, rfl, fun noLoss => ?_, fun on lost => ?_⟩
    · rw [Socket.lossAfterClear_clear _ _ noLoss]
      rfl
    · have acct : (s.sock i).clear.acct =
          { Account.reset with phase := .waiting, prevVisit := (s.sock i).acct.prevVisit } := by
        simp [Socket.clear, Account.cleared, on]
      have reports : (s.sock i).clear.acct.phase.reporting = true := by rw [acct]; rfl
      let fresh : Socket := { s.sock i with acct := { Account.reset with phase := .waiting } }
      have same : conditionEnds .sensorLost (s.sock i).clear ↔ conditionEnds .sensorLost fresh := by
        unfold conditionEnds
        rw [acct]
        exact .rfl
      have lossTaken := Socket.takeCondition_conditionTaken (s.ctx i) .sensorLost 0 [(s.sock i).sensor.raw]
        (s.sock i).clear (.inl nofun)
      have lossEnds : conditionEnds .sensorLost fresh →
          ((s.sock i).clear.lossAfterClear (s.ctx i)).acct.phase = .retired := fun ends => by
        rw [Socket.lossAfterClear_lost _ _ on lost]
        exact (lossTaken.2.2 (same.mpr ends)).1
      rw [Socket.lossAfterClear_lost _ _ on lost]
      obtain ⟨sec, ms, oosSec, oosMs, late, prev, -⟩ :=
        Socket.takeCondition_dwell (s.ctx i) .sensorLost 0 [(s.sock i).sensor.raw] (s.sock i).clear
      have detail := Socket.takeCondition_detailLost (s.ctx i) .sensorLost 0 [(s.sock i).sensor.raw] (s.sock i).clear
        (by rw [acct]; exact Nat.zero_lt_succ 3)
      have phaseStays := Socket.takeCondition_phase_stays (s.ctx i) .sensorLost 0 [(s.sock i).sensor.raw]
        (s.sock i).clear (.inl nofun)
      rw [acct] at sec ms oosSec oosMs late prev detail lossTaken
      refine ⟨conditionTaken_of_before lossTaken rfl ?_ ?_ ?_ ?_, sec, ms, oosSec, oosMs, late, detail, prev,
        fun k other => ?_, fun stays => ?_, fun ends => Cause.stays _ (ended (lossEnds ends))⟩
      · rw [acct]
      · rw [acct]
      · rw [acct]
      · rw [acct]; exact ⟨rfl, rfl, rfl, rfl, rfl⟩
      · rw [Socket.takeCondition_kindCount _ _ _ _ _ reports]
        refine ((s.sock i).clear.acct.countKind_other _ k other).trans ?_
        rw [acct]
        exact Vector.getElem_replicate _
      · rw [phaseStays (fun ends => stays (same.mp ends)), acct]

end Sys2Proof.Machine
end

section
/-! The statement about the sense tick (sections 2.1, 4.3, 4.5, 4.8, 7.6 and 10.8). -/

namespace Sys2Proof.Machine

/-! ## The ramp work of a tick -/

section
variable (n : Numbers) (b : Bank) (r : Rail)

/-- A rail that climbs, or slews, and arrives. -/
theorem Rail.rampTick_arrives (moves : r.st = .rampUp ∨ r.st = .slew)
    (arrives : toward r.dac n.railSetpoint n.rampRate = n.railSetpoint) :
    r.rampTick n b = { r with
      st := .settle, dac := n.railSetpoint, settleCount := 0, worstSettle := 0
      ownSample := decide (r.st = .rampUp), settleFromSlew := decide (r.st = .slew) } := by
  rcases moves with is | is <;> simp [Rail.rampTick, is, arrives]

theorem Rail.rampTick_climbs (moves : r.st = .rampUp ∨ r.st = .slew)
    (short : toward r.dac n.railSetpoint n.rampRate ≠ n.railSetpoint) :
    r.rampTick n b = { r with dac := toward r.dac n.railSetpoint n.rampRate, ownSample := false } := by
  rcases moves with is | is <;> simp [Rail.rampTick, is, short]

theorem Rail.rampTick_falls (falls : r.st = .rampDown) (above : n.rampRate < r.dac) :
    r.rampTick n b = { r with dac := r.dac - n.rampRate, ownSample := false } := by
  have left : r.dac - n.rampRate ≠ 0 := by omega
  simp [Rail.rampTick, falls, left]

/-- A rail that has fallen to 0. -/
theorem Rail.rampTick_down (falls : r.st = .rampDown) (down : r.dac ≤ n.rampRate) :
    r.rampTick n b = if r.pendingEntry then { r with ownSample := false }.joinChain b
      else { r with ownSample := false, st := .off, dac := 0 } := by
  simp [Rail.rampTick, falls, Nat.sub_eq_zero_of_le down]

theorem Rail.rampTick_other (up : r.st ≠ .rampUp) (slew : r.st ≠ .slew) (down : r.st ≠ .rampDown) :
    r.rampTick n b = { r with ownSample := false } := by
  cases is : r.st <;> simp_all [Rail.rampTick]

theorem Rail.joinChain_keeps :
    (r.joinChain b).voltage = r.voltage ∧ (r.joinChain b).current = r.current ∧ (r.joinChain b).trips = r.trips := by
  unfold Rail.joinChain
  split <;> exact ⟨rfl, rfl, rfl⟩

theorem Rail.rampTick_keeps : (r.rampTick n b).voltage = r.voltage ∧ (r.rampTick n b).current = r.current ∧
    (r.rampTick n b).trips = r.trips := by
  unfold Rail.rampTick
  dsimp only
  (repeat' split) <;> first | exact ⟨rfl, rfl, rfl⟩ | exact Rail.joinChain_keeps _ _

end

/-! ## The tick of one socket -/

/-- The spoil that a tick finds (section 10.8): of the rail after the ramp work, of the window, of the exercise and
of the board. -/
def Socket.spoilAtTick (c : Ctx) (q : Rail) (x : Socket) : Bool :=
  !q.st.live || !x.sensor.inWindow ||
    (x.acct.phase == .stressing && x.ex.st != .running && x.ex.mode != .idle) || c.board == .holding

/-- A tick changes the rail, the soak timer of a SOAKING socket, and the spoil. -/
theorem Socket.senseTick_eq (c : Ctx) (x : Socket) : x.senseTick c = (let q := x.rail.rampTick x.gate.shadow.num c.bank
    { x with
      rail := q
      thermal := { x.thermal with soakMs :=
        if x.acct.phase = .soaking then satAdd max32 x.thermal.soakMs 1 else x.thermal.soakMs }
      acct := { x.acct with spoil :=
        x.acct.spoil || (q.st != x.rail.st && !q.st.live) || x.spoilAtTick c q } }) := by
  unfold Socket.senseTick Socket.soakTick
  split <;> simp_all [Socket.setRail, Socket.reportSpoil, Socket.spoilAtTick]

theorem Socket.spoilAtTick_iff (c : Ctx) (q : Rail) (x : Socket) : x.spoilAtTick c q = true ↔
    (q.st ≠ .on ∧ q.st ≠ .slew) ∨ x.sensor.inWindow = false ∨
      (x.acct.phase = .stressing ∧ x.ex.st ≠ .running ∧ x.ex.mode ≠ .idle) ∨ c.board = .holding := by
  simp only [Socket.spoilAtTick, Bool.or_eq_true, Bool.and_eq_true, Bool.not_eq_true', bne_iff_ne, beq_iff_eq,
    ← Bool.not_eq_true, RailState.live_iff, not_or, or_assoc, and_assoc]

/-- A spoil stands, and a rail that enters a state other than ON or SLEW reports no more than the tick finds. -/
theorem Socket.senseTick_spoil (c : Ctx) (x : Socket) : (x.senseTick c).acct.spoil = true ↔ x.acct.spoil = true ∨
    x.spoilAtTick c (x.senseTick c).rail = true := by
  rw [Socket.senseTick_eq]
  simp only [Socket.spoilAtTick]
  cases (x.rail.rampTick x.gate.shadow.num c.bank).st.live <;> simp

/-- The report that every rail is OFF reaches Board Run Control and ATTENTION only. -/
theorem State.checkStopped_eq (s : State) :
    s.checkStopped = { s with brc := s.checkStopped.brc, smc := s.checkStopped.smc } := by
  unfold State.checkStopped State.completeChannel State.setBoard
  split
  · split <;> rfl
  · rfl

/-- The state before that report of a tick. -/
def State.ticked (s : State) : State := { s with
  time := { s.time with runMs := s.time.runMs + 1 }
  banks := Vector.ofFn fun b => { s.banks[b] with chainDue := true }
  sockets := Vector.ofFn fun i => s.sockets[i].senseTick (s.ctx i) }

theorem State.ticked_sock (s : State) (i : SocketIx) : s.ticked.sock i = (s.sock i).senseTick (s.ctx i) :=
  Vector.getElem_ofFn _

theorem State.senseTick_ticked (s : State) : s.senseTick = s.ticked.checkStopped := by
  let u : State := { s with time := { s.time with runMs := s.time.runMs + 1 } }
  have quiet : u.updAll (fun i x => x.senseTick (u.ctx i)) =
      { u with sockets := Vector.ofFn fun i => s.sockets[i].senseTick (s.ctx i) } :=
    u.updAll_quiet (fun i x => x.senseTick (u.ctx i)) fun i => Socket.ends_of_phase _ _ (by rw [Socket.senseTick_eq])
  exact congrArg (fun t : State =>
    { t with banks := Vector.ofFn fun b => { t.banks[b] with chainDue := true } }.checkStopped) quiet

/-- Settles O44: by the ramp work of each rail state, and by the report that every rail is OFF. -/
theorem senseTicksAdvanceTheRails : Obligations.SenseTicksAdvanceTheRails := by
  intro s live
  refine ⟨s.senseTick, congrArg Host.Outcome.next (s.live_of_released _ live), ?_⟩
  have sock (i : SocketIx) : s.ticked.checkStopped.sock i = (s.sock i).senseTick (s.ctx i) :=
    (s.ticked.checkStopped_sock i).trans (s.ticked_sock i)
  rw [s.senseTick_ticked]
  refine ⟨?_, fun b => ?_, fun other => ?_, fun i up => ?_, fun ch stopping busy off => ?_, fun i => ?_⟩
  · rw [s.ticked.checkStopped_eq]
    rfl
  · rw [s.ticked.checkStopped_eq]
    exact Vector.getElem_ofFn _
  · rw [s.ticked.checkStopped_of_state other]
    exact ⟨rfl, rfl⟩
  · rw [s.ticked.checkStopped_of_rail i (by rwa [← s.ticked.checkStopped_sock i])]
    exact ⟨rfl, rfl⟩
  · rw [s.ticked.checkStopped_allOff ch stopping busy fun i => by rw [← s.ticked.checkStopped_sock i]; exact off i]
    exact ⟨rfl, rfl⟩
  · rw [sock]
    have spoils := (s.sock i).senseTick_spoil (s.ctx i)
    rw [Socket.spoilAtTick_iff] at spoils
    have eq := (s.sock i).senseTick_eq (s.ctx i)
    have rail := congrArg Socket.rail eq
    obtain ⟨voltage, current, trips⟩ := Rail.rampTick_keeps (s.sock i).gate.shadow.num (s.ctx i).bank (s.sock i).rail
    refine ⟨Socket.senseTick_gate _ _, Socket.senseTick_sensor _ _, Socket.senseTick_ex _ _, by rw [eq], by rw [rail]; exact voltage,
      by rw [rail]; exact current, by rw [rail]; exact trips, by rw [eq]; rfl, ?_, fun falls => ⟨fun above => ?_, fun down => ?_⟩, ?_, ?_, spoils⟩
    · intro moves
      rw [rail]
      exact ⟨(s.sock i).rail.rampTick_arrives _ _ moves, (s.sock i).rail.rampTick_climbs _ _ moves⟩
    · rw [rail]
      exact (s.sock i).rail.rampTick_falls _ _ falls above
    · have ended := (s.sock i).rail.rampTick_down (s.sock i).gate.shadow.num (s.ctx i).bank falls down
      rw [rail.trans ended]
      refine ⟨?_, fun alone => ?_, fun pending idle => ?_, fun e pending runs => ?_⟩
      · unfold Rail.joinChain
        (repeat' split) <;> rfl
      · rw [alone]
        rfl
      · have bank : (s.ctx i).bank.holdOff = none := idle
        rw [pending]
        simp [Rail.joinChain, bank]
      · have bank : (s.ctx i).bank.holdOff = some e := runs
        rw [pending]
        simp [Rail.joinChain, bank]
    · intro up slew down
      rw [rail]
      exact (s.sock i).rail.rampTick_other _ _ up slew down
    · rw [eq]

end Sys2Proof.Machine
end

section
/-! Socket-caused trips and the checks of a rail sample (sections 4.3, 4.4, 4.7), and the statements about them. -/

namespace Sys2Proof.Machine

/-! ## Conditions that end the run, and those that do not -/

section
variable (c : Ctx) (k : Kind) (sub : Nat) (d : List Word) (x : Socket)

theorem Socket.takeCondition_stays (other : k ≠ .thermal ∨ sub ≠ subAbsLimit) (stays : ¬conditionEnds k x) :
    ∃ a, x.takeCondition c k sub d = x.accounted a :=
  x.takeCondition_accounted c k sub d (x.takeCondition_phase_stays c k sub d other stays)

theorem Socket.takeCondition_retired (other : k ≠ .thermal ∨ sub ≠ subAbsLimit) (ends : conditionEnds k x) :
    ∃ a, x.takeCondition c k sub d = (x.accounted a).retire (.kind k) := by
  have retired := ((x.takeCondition_conditionTaken c k sub d other).2.2 ends).1
  rcases x.takeCondition_cases c k sub d with ⟨a, is⟩ | ⟨-, is⟩
  · have reports := ends.1
    rw [is] at retired
    rw [show x.acct.phase = .retired from retired] at reports
    cases reports
  · exact is

end

/-! ## Interruptions (R162) -/

/-- Whether an interruption of power changes anything. -/
def Socket.interrupted (x : Socket) : Prop := x.acct.phase = .soaking ∨ x.acct.phase = .stressing ∨
  x.acct.phase = .held ∧ (x.acct.resume = .soaking ∨ x.acct.resume = .stressing)

theorem Socket.interruptPower_soak (x : Socket) (runs : x.acct.phase = .soaking ∨ x.acct.phase = .stressing) :
    x.interruptPower = x.changePhase .powering .none := by
  unfold Socket.interruptPower
  rcases runs with is | is <;> rw [is]

theorem Socket.interruptPower_held (x : Socket) (held : x.acct.phase = .held) :
    x.interruptPower = { x with acct := { x.acct with resume :=
      if x.acct.resume = .soaking ∨ x.acct.resume = .stressing then .powering else x.acct.resume } } := by
  unfold Socket.interruptPower
  rw [held]
  cases is : x.acct.resume with
  | soaking | stressing => simp
  | none | powering =>
    rw [if_neg (by simp)]
    exact congrArg (fun r => ({ x with acct := { x.acct with resume := r } } : Socket)) is

theorem Socket.interruptPower_other (x : Socket) (soak : x.acct.phase ≠ .soaking) (stress : x.acct.phase ≠ .stressing)
    (held : x.acct.phase ≠ .held) : x.interruptPower = x := by
  unfold Socket.interruptPower
  cases is : x.acct.phase <;> simp_all

/-- An interruption changes phase, Resume Phase and exercise, and of the accounts nothing that counts. -/
theorem Socket.interruptPower_keeps (x : Socket) : x.interruptPower.sensor = x.sensor ∧
    x.interruptPower.thermal = x.thermal ∧ x.interruptPower.acct.strikes = x.acct.strikes ∧
    x.acct.SameRecords x.interruptPower.acct := by
  by_cases runs : x.acct.phase = .soaking ∨ x.acct.phase = .stressing
  · rw [x.interruptPower_soak runs]
    refine ⟨Socket.changePhase_sensor _ _ _ nofun, Socket.changePhase_thermal _ _ _ nofun, ?_, ?_, ?_, ?_, ?_, ?_⟩ <;>
      simp [Socket.changePhase, Socket.setEx]
  · obtain ⟨soak, stress⟩ := not_or.mp runs
    by_cases held : x.acct.phase = .held
    · rw [x.interruptPower_held held]
      exact ⟨rfl, rfl, rfl, rfl, rfl, rfl, rfl, rfl⟩
    · rw [x.interruptPower_other soak stress held]
      exact ⟨rfl, rfl, rfl, .refl _⟩

/-- An interruption leaves a condition taken. -/
theorem conditionTaken_interruptPower {k : Kind} {sub : Nat} {d : List Word} {dwell : Nat} {x y : Socket}
    (taken : conditionTaken k sub d dwell x y) : conditionTaken k sub d dwell x y.interruptPower := by
  obtain ⟨dropped, counted, ended⟩ := taken
  obtain ⟨-, -, strikes, kindCount, failTotal, firstFailDwell, staging, detailLost⟩ := y.interruptPower_keeps
  have rail := y.interruptPower_rail
  have stands (calm : y.acct.phase.reporting = false) : y.interruptPower = y :=
    y.interruptPower_other (by rintro is; simp [is, Phase.reporting] at calm)
      (by rintro is; simp [is, Phase.reporting] at calm) (by rintro is; simp [is, Phase.reporting] at calm)
  refine ⟨fun silent => ?_, fun reports => ?_, fun ends => ?_⟩
  · rw [stands (by rw [(dropped silent).1]; exact silent)]
    exact dropped silent
  · rw [kindCount, strikes, failTotal, firstFailDwell, staging, detailLost, rail]
    exact counted reports
  · rw [stands (by rw [(ended ends).1]; rfl)]
    exact ended ends

/-! ## Trips (R78) -/

section
variable (c : Ctx) (k : Kind) (sub : Nat) (d : List Word) (x : Socket)

/-- The rail of a trip that ends no run. -/
theorem Socket.trip_rail (other : k ≠ .thermal ∨ sub ≠ subAbsLimit) (stays : ¬conditionEnds k x) :
    (x.trip c k sub d).rail = x.rail.tripped c.runMs x.gate.shadow.num.tripHoldOff := by
  obtain ⟨a, is⟩ := Socket.takeCondition_stays c k sub d
    (x.setRail (x.rail.tripped c.runMs x.gate.shadow.num.tripHoldOff)) other stays
  unfold Socket.trip
  rw [Socket.interruptPower_rail, is]
  rfl

/-- The rail of one that ends it. -/
theorem Socket.trip_rail_ended (other : k ≠ .thermal ∨ sub ≠ subAbsLimit) (ends : conditionEnds k x) :
    (x.trip c k sub d).rail = { x.rail.tripped c.runMs x.gate.shadow.num.tripHoldOff with st := .off, holdOff := none } := by
  obtain ⟨a, is⟩ := Socket.takeCondition_retired c k sub d
    (x.setRail (x.rail.tripped c.runMs x.gate.shadow.num.tripHoldOff)) other ends
  unfold Socket.trip
  rw [Socket.interruptPower_rail, is, Socket.retire_rail]
  rfl

/-- A trip is the cut with its condition, whatever the state of the rail before. -/
theorem Socket.trip_tripTaken (other : k ≠ .thermal ∨ sub ≠ subAbsLimit) :
    tripTaken c.runMs k sub d x (x.trip c k sub d) := by
  let z := x.setRail (x.rail.tripped c.runMs x.gate.shadow.num.tripHoldOff)
  have taken : conditionTaken k sub d x.acct.dwellSec x (z.takeCondition c k sub d) :=
    z.takeCondition_conditionTaken c k sub d other
  have rail : (x.trip c k sub d).rail.trips = x.rail.trips + 1 ∧ (x.trip c k sub d).rail.dac = 0 ∧
      (x.trip c k sub d).rail.window = [] ∧ (x.trip c k sub d).rail.dropCount = 0 ∧
      (x.trip c k sub d).rail.settleCount = 0 ∧ (x.trip c k sub d).rail.openArmed = false := by
    by_cases ends : conditionEnds k x
    · rw [x.trip_rail_ended c k sub d other ends]
      exact ⟨rfl, rfl, rfl, rfl, rfl, rfl⟩
    · rw [x.trip_rail c k sub d other ends]
      exact ⟨rfl, rfl, rfl, rfl, rfl, rfl⟩
  have sensor : (x.trip c k sub d).sensor = x.sensor :=
    (Socket.interruptPower_keeps _).1.trans (z.takeCondition_sensor c k sub d)
  obtain ⟨trips, dac, window, dropCount, settleCount, openArmed⟩ := rail
  refine ⟨Socket.trip_gate .., by rw [sensor], trips, dac, window, dropCount, settleCount, openArmed,
    conditionTaken_interruptPower taken, fun stays => ?_, fun ends => ?_⟩
  · obtain ⟨a, is⟩ := z.takeCondition_stays c k sub d other stays
    have tripped : x.trip c k sub d = (z.accounted a).interruptPower := congrArg Socket.interruptPower is
    refine ⟨by rw [x.trip_rail c k sub d other stays]; rfl, by rw [x.trip_rail c k sub d other stays]; rfl, fun runs => ?_,
      fun soak stress => ?_, fun held => ?_⟩
    · rw [tripped, (z.accounted a).interruptPower_soak runs]
      rfl
    · rw [tripped]
      by_cases held : x.acct.phase = .held
      · rw [(z.accounted a).interruptPower_held held]
        rfl
      · rw [(z.accounted a).interruptPower_other soak stress held]
        rfl
    · rw [tripped, (z.accounted a).interruptPower_held held]
      rfl
  · rw [x.trip_rail_ended c k sub d other ends]
    exact ⟨rfl, rfl⟩

/-- A tripped rail is not in ON. -/
theorem tripTaken_notOn {now : Word32} {k : Kind} {sub : Nat} {d : List Word} {x y : Socket} (taken : tripTaken now k sub d x y) :
    y.rail.st ≠ .on := by
  obtain ⟨-, -, -, -, -, -, -, -, -, stays, ends⟩ := taken
  by_cases e : conditionEnds k x
  · rw [(ends e).1]
    nofun
  · rw [(stays e).1]
    nofun

/-- A trip counts its own kind only. -/
theorem Socket.trip_kindCount (o : Kind) (not : o ≠ k) :
    (x.trip c k sub d).acct.kindCount[o.ix] = x.acct.kindCount[o.ix] := by
  let z := x.setRail (x.rail.tripped c.runMs x.gate.shadow.num.tripHoldOff)
  have interrupted := (Socket.interruptPower_keeps (z.takeCondition c k sub d)).2.2.2.kindCount
  have counts : (x.trip c k sub d).acct.kindCount = (z.takeCondition c k sub d).acct.kindCount := interrupted
  rw [counts]
  cases reports : z.acct.phase.reporting with
  | false =>
    rw [z.takeCondition_dropped c k sub d reports]
    rfl
  | true =>
    rw [z.takeCondition_kindCount c k sub d reports]
    exact z.acct.countKind_other k o not

end

end Sys2Proof.Machine
end

section
/-! The checks of a rail sample (sections 4.3 and 4.4), and the statements about them. -/

namespace Sys2Proof.Machine

/-! ## Samples -/

/-- A sample, taken as the latest. -/
def Socket.sampled (v c : Word) (x : Socket) : Socket :=
  { x with rail := { x.rail with voltage := v, current := c, ownSample := false } }

theorem worstOf_farther (setpoint count worst : Nat) (v : Word) :
    worstOf setpoint count worst v.toNat = farther setpoint count worst v := by
  unfold worstOf farther
  by_cases first : count = 0 <;> simp [first]

/-- The window after a sample. -/
def windowAfter (w : List Nat) (i : Nat) : List Nat := w.drop (w.length - 15) ++ [i]

theorem pushWindow_eq (w : List Nat) (i : Nat) : pushWindow w i = windowAfter w i := by
  unfold pushWindow windowAfter
  split
  · rw [Nat.sub_eq_zero_of_le (by omega), List.drop_zero]
  · rfl

theorem windowAfter_full (w : List Nat) (i : Nat) : (windowAfter w i).length = 16 ↔ 15 ≤ w.length := by
  simp only [windowAfter, List.length_append, List.length_drop, List.length_singleton]
  omega

theorem windowAfter_short (w : List Nat) (i : Nat) : (windowAfter w i).length < 16 ↔ ¬15 ≤ w.length := by
  simp only [windowAfter, List.length_append, List.length_drop, List.length_singleton]
  omega

theorem outOfTolerance_iff (n : Numbers) (v : Nat) :
    outOfTolerance n v = true ↔ n.regTolerance < distance v n.railSetpoint := by
  simp [outOfTolerance]

theorem outOfTolerance_not (n : Numbers) (v : Nat) :
    outOfTolerance n v = false ↔ ¬n.regTolerance < distance v n.railSetpoint := by
  simp [outOfTolerance]

section
variable (c : Ctx) (x : Socket)

/-! ## The slow-trip check (R73) -/

/-- The socket with a sample joined to the slow-trip window. -/
def Socket.windowed (x : Socket) : Socket :=
  { x with rail := { x.rail with window := windowAfter x.rail.window x.rail.current.toNat } }

theorem Socket.slowCheck_off (off : x.rail.st ≠ .on) : x.slowCheck c = x := if_neg off

theorem Socket.slowCheck_on (on : x.rail.st = .on) : x.slowCheck c =
    (let w := windowAfter x.rail.window x.rail.current.toNat
    if w.length = 16 ∧ x.gate.shadow.num.slowLimit < w.sum / 16 then
      x.windowed.trip c .railTrip subSlow [natWord x.rail.trips, natWord (w.sum / 16)]
    else x.windowed) := by
  unfold Socket.slowCheck
  rw [if_pos on]
  simp only [pushWindow_eq]
  rfl

theorem Socket.slowCheck_passes (on : x.rail.st = .on)
    (low : (windowAfter x.rail.window x.rail.current.toNat).length < 16 ∨
      (windowAfter x.rail.window x.rail.current.toNat).sum / 16 ≤ x.gate.shadow.num.slowLimit) :
    x.slowCheck c = x.windowed :=
  (x.slowCheck_on c on).trans (if_neg (by omega))

/-! ## The dropout check (R74) -/

/-- The socket with a dropout sample counted, or the count cleared. -/
def Socket.dropCounted (x : Socket) : Socket :=
  let n := x.gate.shadow.num
  if outOfTolerance n x.rail.voltage.toNat then { x with rail := { x.rail with
    dropCount := x.rail.dropCount + 1
    worstDrop := farther n.railSetpoint x.rail.dropCount x.rail.worstDrop x.rail.voltage } }
  else { x with rail := { x.rail with dropCount := 0, worstDrop := 0 } }

theorem Socket.dropCheck_off (off : x.rail.st ≠ .on) : x.dropCheck c = x := if_neg off

theorem Socket.dropCheck_on (on : x.rail.st = .on) : x.dropCheck c =
    (let n := x.gate.shadow.num
    if outOfTolerance n x.rail.voltage.toNat = true ∧ 8 ≤ x.rail.dropCount + 1 then
      x.dropCounted.trip c .railRegulation subDropout [natWord n.railSetpoint,
        natWord (farther n.railSetpoint x.rail.dropCount x.rail.worstDrop x.rail.voltage)]
    else x.dropCounted) := by
  unfold Socket.dropCheck Socket.dropCounted
  rw [if_pos on]
  simp only [worstOf_farther]
  by_cases out : outOfTolerance x.gate.shadow.num x.rail.voltage.toNat = true <;> simp [out]

theorem Socket.dropCheck_passes (on : x.rail.st = .on)
    (few : ¬outOfTolerance x.gate.shadow.num x.rail.voltage.toNat = true ∨ x.rail.dropCount + 1 < 8) :
    x.dropCheck c = x.dropCounted :=
  (x.dropCheck_on c on).trans (if_neg fun ⟨out, many⟩ => few.elim (· out) fun _ => by omega)

/-! ## The open-contact check (R75) -/

theorem Socket.openCheck_off (off : x.rail.st ≠ .on) : x.openCheck c = x := if_neg fun h => off h.1

theorem Socket.openCheck_unarmed (unarmed : x.rail.openArmed = false) : x.openCheck c = x :=
  if_neg fun h => by rw [unarmed] at h; cases h.2

theorem Socket.openCheck_counts (on : x.rail.st = .on) (armed : x.rail.openArmed = true)
    (few : x.rail.openCount + 1 < 1000) : x.openCheck c = { x with rail := { x.rail with
      openCount := x.rail.openCount + 1
      openSum := x.rail.openSum + (if 985 ≤ x.rail.openCount + 1 then x.rail.current.toNat else 0) } } := by
  unfold Socket.openCheck
  rw [if_pos ⟨on, armed⟩]
  exact if_neg (by omega)

/-- A sample that is not the 1,000th. -/
theorem Socket.openCheck_continues (on : x.rail.st = .on)
    (few : x.rail.openArmed = false ∨ x.rail.openCount + 1 < 1000) : x.openCheck c = { x with rail := { x.rail with
      openCount := if x.rail.openArmed then x.rail.openCount + 1 else x.rail.openCount
      openSum := if x.rail.openArmed then
        x.rail.openSum + (if 985 ≤ x.rail.openCount + 1 then x.rail.current.toNat else 0) else x.rail.openSum } } := by
  cases armed : x.rail.openArmed with
  | true =>
    exact x.openCheck_counts c on armed (few.resolve_left fun no => by rw [armed] at no; cases no)
  | false => exact x.openCheck_unarmed c armed

/-- The socket with the 1,000th sample counted. -/
def Socket.openCounted (x : Socket) : Socket := { x with rail := { x.rail with
  openCount := x.rail.openCount + 1, openSum := x.rail.openSum + x.rail.current.toNat, openArmed := false } }

theorem Socket.openCheck_made (on : x.rail.st = .on) (armed : x.rail.openArmed = true)
    (full : 999 ≤ x.rail.openCount) : x.openCheck c =
    (let mean := (x.rail.openSum + x.rail.current.toNat) / 16
    if x.gate.shadow.num.minCurrent ≠ 0 ∧ mean < x.gate.shadow.num.minCurrent then
      x.openCounted.takeCondition c .openContact 0 [natWord mean]
    else x.openCounted) := by
  have last : 985 ≤ x.rail.openCount + 1 := by omega
  unfold Socket.openCheck
  rw [if_pos ⟨on, armed⟩]
  simp only [last, if_true]
  exact if_pos (by omega)

/-- What the check of the 1,000th sample leaves. -/
theorem Socket.openCheck_checked (on : x.rail.st = .on) (armed : x.rail.openArmed = true)
    (full : 999 ≤ x.rail.openCount) : openContactChecked x.rail.current x (x.openCheck c) := by
  rw [x.openCheck_made c on armed full]
  dsimp only
  split
  · next fails =>
    have stays := Socket.takeCondition_stays c .openContact 0
      [natWord ((x.rail.openSum + x.rail.current.toNat) / 16)] x.openCounted (.inl nofun)
    have retired := Socket.takeCondition_retired c .openContact 0
      [natWord ((x.rail.openSum + x.rail.current.toNat) / 16)] x.openCounted (.inl nofun)
    refine ⟨?_, fun _ _ => ⟨Socket.takeCondition_conditionTaken c .openContact 0 _ x.openCounted (.inl nofun),
      fun ends => ?_, fun goesOn => ?_⟩, fun passes => by omega⟩
    · by_cases ends : conditionEnds .openContact x.openCounted
      · obtain ⟨a, is⟩ := retired ends
        rw [is, Socket.retire_rail]
        simp [Socket.accounted, Socket.openCounted, Rail.takedown, on, Rail.clearChecks]
      · obtain ⟨a, is⟩ := stays ends
        rw [is]
        rfl
    · obtain ⟨a, is⟩ := retired ends
      rw [is, Socket.retire_rail]
      simp [Socket.accounted, Socket.openCounted, Rail.takedown, on, Rail.clearChecks]
    · obtain ⟨a, is⟩ := stays goesOn
      rw [is]
      exact ⟨on, rfl⟩
  · next passes => exact ⟨rfl, fun low less => absurd ⟨low, less⟩ passes, fun _ => ⟨rfl, on⟩⟩

/-! ## The settle check (R72) -/

/-- The socket with a settle sample counted. -/
def Socket.settleCounted (x : Socket) : Socket := { x with rail := { x.rail with
  settleCount := x.rail.settleCount + 1
  worstSettle := farther x.gate.shadow.num.railSetpoint x.rail.settleCount x.rail.worstSettle x.rail.voltage } }

theorem Socket.settleCheck_eq : x.settleCheck c = (let n := x.gate.shadow.num
    if outOfTolerance n x.rail.voltage.toNat = false then x.settleCounted.enterOn
    else if n.settleTimeout ≤ x.rail.settleCount + 1 then
      x.settleCounted.trip c .railRegulation subSettleTimeout [natWord n.railSetpoint,
        natWord (farther n.railSetpoint x.rail.settleCount x.rail.worstSettle x.rail.voltage)]
    else x.settleCounted) := by
  unfold Socket.settleCheck
  simp only [worstOf_farther]
  rfl

end

/-! ## The order of the checks (log entry 11) -/

theorem Socket.onChecks_slowFirst (c : Ctx) (x : Socket) :
    x.onChecks c .slowFirst = ((x.slowCheck c).dropCheck c).openCheck c := rfl

theorem Socket.onChecks_dropFirst (c : Ctx) (x : Socket) :
    x.onChecks c .dropFirst = ((x.dropCheck c).slowCheck c).openCheck c := rfl

theorem Socket.onChecks_openFirst (c : Ctx) (x : Socket) :
    x.onChecks c .openFirst = ((x.openCheck c).slowCheck c).dropCheck c := rfl

/-! ## Entry to ON (R72, R161, R162) -/

section
variable (x : Socket)

theorem Socket.enterOn_slewed (slewed : x.rail.settleFromSlew = true) : x.enterOn = x.setRail x.rail.enterOn :=
  if_pos slewed

theorem Socket.enterOn_powering (climbed : x.rail.settleFromSlew = false) (powers : x.acct.phase = .powering) :
    x.enterOn = (x.setRail x.rail.enterOn).changePhase .soaking .none := by
  unfold Socket.enterOn
  rw [if_neg (by rw [climbed]; nofun)]
  simp [powers]

theorem Socket.enterOn_held (climbed : x.rail.settleFromSlew = false) (held : x.acct.phase = .held)
    (resumes : x.acct.resume = .powering) : x.enterOn =
      (let y := (x.setRail x.rail.enterOn).beginSoak
      { y with acct := { y.acct with resume := .soaking } }) := by
  have resume : (x.setRail x.rail.enterOn).acct.resume = .powering := resumes
  unfold Socket.enterOn
  rw [if_neg (by rw [climbed]; nofun)]
  simp [held, resume]

theorem Socket.enterOn_other (notPowers : x.acct.phase ≠ .powering)
    (other : x.acct.phase ≠ .held ∨ x.acct.resume ≠ .powering) : x.enterOn = x.setRail x.rail.enterOn := by
  unfold Socket.enterOn
  dsimp only
  split
  · rfl
  · split
    · next is => exact absurd is notPowers
    · next held resumes => exact absurd resumes (other.resolve_left fun no => no held)
    · rfl

/-- A soak that starts out of POWERING has its timers at 0. -/
theorem Socket.changePhase_soaks (powers : x.acct.phase = .powering) :
    (x.changePhase .soaking .none).sensor.inWindowMs = 0 ∧ (x.changePhase .soaking .none).thermal.soakMs = 0 := by
  simp [Socket.changePhase, powers, Socket.beginSoak]

theorem Rail.enterOn_st (r : Rail) : r.enterOn.st = .on ∧ r.enterOn.window = [] ∧ r.enterOn.dropCount = 0 ∧
    r.enterOn.voltage = r.voltage ∧ r.enterOn.current = r.current := by
  unfold Rail.enterOn
  dsimp only
  split <;> exact ⟨rfl, rfl, rfl, rfl, rfl⟩

theorem Rail.enterOn_arms (r : Rail) (climbed : r.settleFromSlew = false) :
    r.enterOn.openArmed = true ∧ r.enterOn.openCount = 0 := by
  unfold Rail.enterOn
  rw [if_neg (by rw [climbed]; nofun)]
  exact ⟨rfl, rfl⟩

theorem Socket.enterOn_rail : x.enterOn.rail = x.rail.enterOn := by
  unfold Socket.enterOn
  dsimp only
  (repeat' split) <;> simp

end

/-! ## The statements about samples -/

/-- An event of one socket changes sockets and ATTENTION only. -/
theorem State.updSock_only (s : State) (i : SocketIx) (f : Socket → Socket) :
    s.updSock i f = { s with sockets := (s.updSock i f).sockets, smc := (s.updSock i f).smc } := by
  rw [State.updSock_eq]

/-- A sample outside the checks. -/
theorem Socket.railSample_unchecked (c : Ctx) (o : CheckOrder) (v a : Word) (x : Socket)
    (calm : x.rail.st ≠ .settle ∨ x.rail.ownSample = true) (notOn : x.rail.st ≠ .on) :
    x.railSample c o v a = x.sampled v a := by
  unfold Socket.railSample
  cases is : x.rail.st <;> simp_all [Socket.sampled]

theorem Socket.railSample_settle (c : Ctx) (o : CheckOrder) (v a : Word) (x : Socket) (settles : x.rail.st = .settle)
    (later : x.rail.ownSample = false) : x.railSample c o v a = (x.sampled v a).settleCheck c := by
  unfold Socket.railSample
  simp [settles, later, Socket.sampled]

theorem Socket.railSample_on (c : Ctx) (o : CheckOrder) (v a : Word) (x : Socket) (on : x.rail.st = .on) :
    x.railSample c o v a = (x.sampled v a).onChecks c o := by
  unfold Socket.railSample
  rw [on]
  rfl

/-- The settle sample that reaches Settle Timeout. -/
theorem Socket.settleCheck_trips (c : Ctx) (v a : Word) (x : Socket)
    (out : x.gate.shadow.num.regTolerance < distance v.toNat x.gate.shadow.num.railSetpoint)
    (last : x.gate.shadow.num.settleTimeout ≤ x.rail.settleCount + 1) :
    tripTaken c.runMs .railRegulation 1 [BitVec.ofNat 16 x.gate.shadow.num.railSetpoint, BitVec.ofNat 16
      (farther x.gate.shadow.num.railSetpoint x.rail.settleCount x.rail.worstSettle v)] x
      ((x.sampled v a).settleCheck c) := by
  have isOut : ¬outOfTolerance x.gate.shadow.num v.toNat = false := by simp [outOfTolerance, out]
  have trips : (x.sampled v a).settleCheck c = (x.sampled v a).settleCounted.trip c .railRegulation subSettleTimeout
      [natWord x.gate.shadow.num.railSetpoint,
        natWord (farther x.gate.shadow.num.railSetpoint x.rail.settleCount x.rail.worstSettle v)] :=
    (Socket.settleCheck_eq c (x.sampled v a)).trans ((if_neg isOut).trans (if_pos last))
  rw [trips]
  exact Socket.trip_tripTaken c .railRegulation subSettleTimeout _ (x.sampled v a).settleCounted (.inl nofun)

/-- The eighth dropout sample. -/
theorem Socket.dropCheck_trips (c : Ctx) (x : Socket) (on : x.rail.st = .on)
    (out : x.gate.shadow.num.regTolerance < distance x.rail.voltage.toNat x.gate.shadow.num.railSetpoint)
    (last : 7 ≤ x.rail.dropCount) :
    tripTaken c.runMs .railRegulation 2 [BitVec.ofNat 16 x.gate.shadow.num.railSetpoint, BitVec.ofNat 16
      (farther x.gate.shadow.num.railSetpoint x.rail.dropCount x.rail.worstDrop x.rail.voltage)] x (x.dropCheck c) := by
  have isOut : outOfTolerance x.gate.shadow.num x.rail.voltage.toNat = true := (outOfTolerance_iff _ _).mpr out
  have trips := (x.dropCheck_on c on).trans (if_pos ⟨isOut, by omega⟩)
  have counted : x.dropCounted = { x with rail := { x.rail with
      dropCount := x.rail.dropCount + 1
      worstDrop := farther x.gate.shadow.num.railSetpoint x.rail.dropCount x.rail.worstDrop x.rail.voltage } } :=
    if_pos isOut
  rw [trips, counted]
  exact Socket.trip_tripTaken c .railRegulation subDropout _ _ (.inl nofun)

/-- A sample in ON that no check of another kind stops at. -/
theorem Socket.slowCheck_trips (c : Ctx) (x : Socket) (on : x.rail.st = .on) (full : 15 ≤ x.rail.window.length)
    (high : x.gate.shadow.num.slowLimit < (windowAfter x.rail.window x.rail.current.toNat).sum / 16) :
    tripTaken c.runMs .railTrip 2 [BitVec.ofNat 16 x.rail.trips,
      BitVec.ofNat 16 ((windowAfter x.rail.window x.rail.current.toNat).sum / 16)] x (x.slowCheck c) := by
  have trips := (x.slowCheck_on c on).trans (if_pos ⟨(windowAfter_full _ _).mpr full, high⟩)
  rw [trips]
  exact Socket.trip_tripTaken c .railTrip subSlow _ x.windowed (.inl nofun)

/-- Settles O46: the failing sample meets its check first. -/
theorem failedSettlesAndDropoutsTrip : Obligations.FailedSettlesAndDropoutsTrip := by
  intro s i v c live x n out
  have row (f : State → State) : Host.Outcome.next (s.live f) = (.next (f s) : Host.Outcome State Fault Refusal) :=
    congrArg Host.Outcome.next (s.live_of_released f live)
  refine ⟨fun settles later last => ?_, fun on many => ?_⟩
  · have fails : x.failsSettle v = true := by
      simpa [Socket.failsSettle, settles, later, outOfTolerance] using And.intro out last
    refine ⟨s.railSample i .slowFirst v c, ?_, s.updSock_only i _, fun j other => s.sock_updSock_other i j _ other, ?_⟩
    · exact (row fun t => if (t.sock i).failsSettle v then t.railSample i .slowFirst v c else t).trans
        (congrArg Host.Outcome.next (if_pos fails))
    · have sock : (s.railSample i .slowFirst v c).sock i = (x.sampled v c).settleCheck (s.ctx i) :=
        (s.sock_updSock_same i _).trans (Socket.railSample_settle (s.ctx i) .slowFirst v c x settles later)
      rw [sock]
      exact x.settleCheck_trips (s.ctx i) v c out last
  · have drops : x.dropsOut v = true := by
      simpa [Socket.dropsOut, on, outOfTolerance, many] using out
    refine ⟨s.railSample i .dropFirst v c, ?_, s.updSock_only i _, fun j other => s.sock_updSock_other i j _ other, ?_⟩
    · exact (row fun t => t.dropoutSample i v c).trans (congrArg Host.Outcome.next (if_pos drops))
    · have taken := Socket.dropCheck_trips (s.ctx i) (x.sampled v c) on out many
      have notOn := tripTaken_notOn taken
      have sock : (s.railSample i .dropFirst v c).sock i = (x.sampled v c).dropCheck (s.ctx i) := by
        refine (s.sock_updSock_same i _).trans ((Socket.railSample_on (s.ctx i) .dropFirst v c x on).trans ?_)
        rw [Socket.onChecks_dropFirst, Socket.slowCheck_off (s.ctx i) _ notOn, Socket.openCheck_off (s.ctx i) _ notOn]
      rw [sock]
      exact taken

end Sys2Proof.Machine
end

section
/-! The statements about rail samples and the open-contact check (sections 4.2 to 4.4). -/

namespace Sys2Proof.Machine

/-! ## The latest sample (R67) -/

/-- Whether two sockets have the same latest sample. -/
def Socket.SameSample (x y : Socket) : Prop := y.rail.voltage = x.rail.voltage ∧ y.rail.current = x.rail.current

theorem Socket.SameSample.trans {x y z : Socket} (one : x.SameSample y) (two : y.SameSample z) : x.SameSample z :=
  ⟨two.1.trans one.1, two.2.trans one.2⟩

section
variable (c : Ctx) (x : Socket)

theorem Socket.trip_sample (k : Kind) (sub : Nat) (d : List Word) : x.SameSample (x.trip c k sub d) := by
  unfold Socket.trip Socket.SameSample
  simp [Rail.tripped, Rail.clearChecks]

theorem Socket.slowCheck_sample : x.SameSample (x.slowCheck c) := by
  by_cases on : x.rail.st = .on
  · rw [x.slowCheck_on c on]
    dsimp only
    split
    · exact Socket.trip_sample c x.windowed _ _ _
    · exact ⟨rfl, rfl⟩
  · rw [x.slowCheck_off c on]
    exact ⟨rfl, rfl⟩

theorem Socket.dropCounted_sample : x.SameSample x.dropCounted := by
  unfold Socket.dropCounted
  dsimp only
  split <;> exact ⟨rfl, rfl⟩

theorem Socket.dropCheck_sample : x.SameSample (x.dropCheck c) := by
  by_cases on : x.rail.st = .on
  · rw [x.dropCheck_on c on]
    dsimp only
    split
    · exact x.dropCounted_sample.trans (Socket.trip_sample c x.dropCounted _ _ _)
    · exact x.dropCounted_sample
  · rw [x.dropCheck_off c on]
    exact ⟨rfl, rfl⟩

theorem Socket.openCheck_sample : x.SameSample (x.openCheck c) := by
  unfold Socket.openCheck Socket.SameSample
  dsimp only
  (repeat' split) <;> simp

theorem Socket.settleCheck_sample : x.SameSample (x.settleCheck c) := by
  rw [Socket.settleCheck_eq]
  dsimp only
  (repeat' split)
  · obtain ⟨-, -, -, voltage, current⟩ := x.settleCounted.rail.enterOn_st
    unfold Socket.SameSample
    rw [Socket.enterOn_rail, voltage, current]
    exact ⟨rfl, rfl⟩
  · exact Socket.trip_sample c x.settleCounted _ _ _
  · exact ⟨rfl, rfl⟩

theorem Socket.onChecks_sample (o : CheckOrder) : x.SameSample (x.onChecks c o) := by
  cases o with
  | slowFirst => exact (x.slowCheck_sample c).trans ((Socket.dropCheck_sample c _).trans (Socket.openCheck_sample c _))
  | dropFirst => exact (x.dropCheck_sample c).trans ((Socket.slowCheck_sample c _).trans (Socket.openCheck_sample c _))
  | openFirst => exact (x.openCheck_sample c).trans ((Socket.slowCheck_sample c _).trans (Socket.dropCheck_sample c _))

/-- A sample is the latest after its checks. -/
theorem Socket.railSample_sample (o : CheckOrder) (v a : Word) :
    (x.railSample c o v a).rail.voltage = v ∧ (x.railSample c o v a).rail.current = a := by
  unfold Socket.railSample
  split
  · split
    · exact ⟨rfl, rfl⟩
    · exact Socket.settleCheck_sample c (x.sampled v a)
  · exact Socket.onChecks_sample c (x.sampled v a) o
  · exact ⟨rfl, rfl⟩

end

/-! ## Samples in ON -/

/-- What the dropout check leaves of a sample it passes. -/
theorem Socket.dropCounted_out (x : Socket)
    (out : x.gate.shadow.num.regTolerance < distance x.rail.voltage.toNat x.gate.shadow.num.railSetpoint) :
    x.dropCounted = { x with rail := { x.rail with
      dropCount := x.rail.dropCount + 1
      worstDrop := farther x.gate.shadow.num.railSetpoint x.rail.dropCount x.rail.worstDrop x.rail.voltage } } :=
  if_pos ((outOfTolerance_iff _ _).mpr out)

theorem Socket.dropCounted_within (x : Socket)
    (within : ¬x.gate.shadow.num.regTolerance < distance x.rail.voltage.toNat x.gate.shadow.num.railSetpoint) :
    x.dropCounted = { x with rail := { x.rail with dropCount := 0, worstDrop := 0 } } :=
  if_neg (by rw [outOfTolerance_iff]; exact within)

/-- A sample in ON that passes the slow-trip and the dropout check. -/
theorem Socket.railSample_passes (c : Ctx) (v a : Word) (x : Socket) (on : x.rail.st = .on)
    (low : (windowAfter x.rail.window a.toNat).length < 16 ∨
      (windowAfter x.rail.window a.toNat).sum / 16 ≤ x.gate.shadow.num.slowLimit)
    (few : ¬x.gate.shadow.num.regTolerance < distance v.toNat x.gate.shadow.num.railSetpoint ∨ x.rail.dropCount + 1 < 8) :
    x.railSample c .slowFirst v a = (x.sampled v a).windowed.dropCounted.openCheck c := by
  rw [x.railSample_on c .slowFirst v a on]
  have slow := Socket.slowCheck_passes c (x.sampled v a) on low
  have drop := Socket.dropCheck_passes c (x.sampled v a).windowed on
    (few.imp_left fun within is => within ((outOfTolerance_iff _ _).mp is))
  rw [Socket.onChecks_slowFirst, slow, drop]

/-- What the two checks leave of a sample they pass. -/
theorem Socket.dropCounted_keeps (x : Socket) : ∃ count worst,
    x.dropCounted = { x with rail := { x.rail with dropCount := count, worstDrop := worst } } := by
  unfold Socket.dropCounted
  dsimp only
  split <;> exact ⟨_, _, rfl⟩

/-- Settles O45: by the state of the rail, and in ON by the first check that the sample fails. -/
theorem railSamplesAreRecordedAndChecked : Obligations.RailSamplesAreRecordedAndChecked := by
  intro s i v c live x n off w
  refine ⟨s.railSample i .slowFirst v c, congrArg Host.Outcome.next (s.live_of_released _ live), s.updSock_only i _,
    fun j other => s.sock_updSock_other i j _ other, ?_⟩
  have sock : (s.railSample i .slowFirst v c).sock i = x.railSample (s.ctx i) .slowFirst v c := s.sock_updSock_same i _
  rw [sock]
  obtain ⟨voltage, current⟩ := x.railSample_sample (s.ctx i) .slowFirst v c
  refine ⟨voltage, current, fun calm notOn => ?_, fun settles later within => ?_, fun settles later out early => ?_,
    fun on low few open' => ?_, fun on full high => ?_, fun settles later out last => ?_, fun on low out many => ?_,
    fun on low few armed full => ?_⟩
  · rw [x.railSample_unchecked _ _ v c calm notOn]
    exact ⟨rfl, rfl, rfl⟩
  · let z := (x.sampled v c).settleCounted
    have entered : x.railSample (s.ctx i) .slowFirst v c = z.enterOn :=
      (x.railSample_settle _ _ v c settles later).trans ((Socket.settleCheck_eq _ _).trans
        (if_pos ((outOfTolerance_not _ _).mpr (Nat.not_lt.mpr within))))
    rw [entered]
    obtain ⟨st, window, dropCount, -, -⟩ := z.rail.enterOn_st
    refine ⟨by rw [z.enterOn_rail, st], by rw [z.enterOn_rail, window], by rw [z.enterOn_rail, dropCount],
      fun climbed => ?_, fun other => ?_⟩
    · obtain ⟨arms, count⟩ := z.rail.enterOn_arms climbed
      refine ⟨by rw [z.enterOn_rail, arms], by rw [z.enterOn_rail, count], fun powers => ?_, fun held resumes => ?_⟩
      · rw [z.enterOn_powering climbed powers]
        exact ⟨rfl, Socket.changePhase_soaks _ powers⟩
      · rw [z.enterOn_held climbed held resumes]
        exact ⟨held, rfl, rfl, rfl⟩
    · have stands : z.enterOn = z.setRail z.rail.enterOn := by
        rcases other with slewed | ⟨notPowers, other⟩
        · exact z.enterOn_slewed slewed
        · exact z.enterOn_other notPowers other
      rw [stands]
      exact ⟨rfl, rfl, rfl, rfl⟩
  · have counted : (x.sampled v c).settleCheck (s.ctx i) = (x.sampled v c).settleCounted :=
      (Socket.settleCheck_eq _ _).trans ((if_neg fun within => absurd out ((outOfTolerance_not _ _).mp within)).trans (if_neg (by exact Nat.not_le.mpr early)))
    rw [x.railSample_settle _ _ v c settles later, counted]
    exact ⟨rfl, rfl, rfl⟩
  · rw [x.railSample_passes (s.ctx i) v c on low few]
    obtain ⟨count, worst, is⟩ := (x.sampled v c).windowed.dropCounted_keeps
    have dropOut := (x.sampled v c).windowed.dropCounted_out
    have dropIn := (x.sampled v c).windowed.dropCounted_within
    have opened : (x.sampled v c).windowed.dropCounted.openCheck (s.ctx i) =
        (let z := (x.sampled v c).windowed.dropCounted
        { z with rail := { z.rail with
          openCount := if x.rail.openArmed then x.rail.openCount + 1 else x.rail.openCount
          openSum := if x.rail.openArmed then
            x.rail.openSum + (if 985 ≤ x.rail.openCount + 1 then c.toNat else 0) else x.rail.openSum } }) := by
      rw [is]
      exact Socket.openCheck_continues (s.ctx i) _ on open'
    rw [opened]
    refine ⟨?_, ?_, fun out => ?_, fun within => ?_, fun armed => ?_, fun unarmed => ?_, ?_, ?_, ?_, ?_, ?_⟩
    · rw [is]; exact on
    · rw [is]; rfl
    · rw [dropOut out]; exact ⟨rfl, rfl⟩
    · rw [dropIn within]; exact ⟨rfl, rfl⟩
    · simp only [armed, if_true]
      exact ⟨trivial, by split <;> rfl⟩
    · simp only [unarmed]
      exact ⟨rfl, rfl⟩
    · rw [is]; rfl
    · rw [is]; rfl
    · rw [is]; rfl
    · rw [is]; rfl
    · rw [is]; rfl
  · have taken := Socket.slowCheck_trips (s.ctx i) (x.sampled v c) on full high
    have notOn := tripTaken_notOn taken
    rw [x.railSample_on _ _ v c on]
    rw [Socket.onChecks_slowFirst, Socket.dropCheck_off (s.ctx i) _ notOn, Socket.openCheck_off (s.ctx i) _ notOn]
    exact taken
  · rw [x.railSample_settle _ _ v c settles later]
    exact x.settleCheck_trips (s.ctx i) v c out last
  · have taken := Socket.dropCheck_trips (s.ctx i) (x.sampled v c).windowed on out many
    have notOn := tripTaken_notOn taken
    rw [x.railSample_on _ _ v c on]
    have slow := Socket.slowCheck_passes (s.ctx i) (x.sampled v c) on low
    rw [Socket.onChecks_slowFirst, slow, Socket.openCheck_off (s.ctx i) _ notOn]
    exact taken
  · rw [x.railSample_passes (s.ctx i) v c on low few]
    obtain ⟨count, worst, is⟩ := (x.sampled v c).windowed.dropCounted_keeps
    rw [is]
    exact Socket.openCheck_checked (s.ctx i) _ on armed full

/-! ## The open-contact check before the others (log entry 11) -/

section
variable (c : Ctx) (x : Socket)

/-- The other two checks arm nothing and count no OPEN_CONTACT. -/
theorem Socket.slowCheck_noOpen (unarmed : x.rail.openArmed = false) : (x.slowCheck c).rail.openArmed = false ∧
    (x.slowCheck c).acct.kindCount[Kind.openContact.ix] = x.acct.kindCount[Kind.openContact.ix] := by
  by_cases on : x.rail.st = .on
  · rw [x.slowCheck_on c on]
    dsimp only
    split
    · obtain ⟨-, -, -, -, -, -, -, armed, -⟩ := Socket.trip_tripTaken c .railTrip subSlow
        [natWord x.rail.trips, natWord ((windowAfter x.rail.window x.rail.current.toNat).sum / 16)] x.windowed (.inl nofun)
      exact ⟨armed, Socket.trip_kindCount c .railTrip subSlow _ x.windowed .openContact nofun⟩
    · exact ⟨unarmed, rfl⟩
  · rw [x.slowCheck_off c on]
    exact ⟨unarmed, rfl⟩

theorem Socket.dropCheck_noOpen (unarmed : x.rail.openArmed = false) : (x.dropCheck c).rail.openArmed = false ∧
    (x.dropCheck c).acct.kindCount[Kind.openContact.ix] = x.acct.kindCount[Kind.openContact.ix] := by
  obtain ⟨count, worst, counted⟩ := x.dropCounted_keeps
  by_cases on : x.rail.st = .on
  · rw [x.dropCheck_on c on, counted]
    dsimp only
    split
    · obtain ⟨-, -, -, -, -, -, -, armed, -⟩ := Socket.trip_tripTaken c .railRegulation subDropout
        [natWord x.gate.shadow.num.railSetpoint,
          natWord (farther x.gate.shadow.num.railSetpoint x.rail.dropCount x.rail.worstDrop x.rail.voltage)]
        { x with rail := { x.rail with dropCount := count, worstDrop := worst } } (.inl nofun)
      exact ⟨armed, Socket.trip_kindCount c .railRegulation subDropout _ _ .openContact nofun⟩
    · exact ⟨unarmed, rfl⟩
  · rw [x.dropCheck_off c on]
    exact ⟨unarmed, rfl⟩

/-- A rail that the open-contact check leaves in ON keeps its window and its dropout count. -/
theorem Socket.openCheck_rail (on : x.rail.st = .on) (armed : x.rail.openArmed = true) (full : 999 ≤ x.rail.openCount)
    (stays : (x.openCheck c).rail.st = .on) : (x.openCheck c).rail = x.openCounted.rail := by
  rw [x.openCheck_made c on armed full] at stays ⊢
  dsimp only at stays ⊢
  split
  · next low =>
    rw [if_pos low] at stays
    rcases x.openCounted.takeCondition_cases c .openContact 0
      [natWord ((x.rail.openSum + x.rail.current.toNat) / 16)] with ⟨a, is⟩ | ⟨-, a, is⟩
    · rw [is]
      rfl
    · rw [is, Socket.retire_rail] at stays
      exact absurd stays (by simp [Socket.accounted, Socket.openCounted, Rail.takedown, on])
  · rfl

end

/-- Settles O47: the check of the 1,000th sample first, and the other two on what it leaves. -/
theorem openContactCheckIsMadeOnce : Obligations.OpenContactCheckIsMadeOnce := by
  intro s i v c live x n mean w k on armed full
  have counts : x.endsOpenCount = true := by
    simpa [Socket.endsOpenCount, on, armed] using full
  let z := (x.sampled v c).openCheck (s.ctx i)
  have sock : (s.railSample i .openFirst v c).sock i = (z.slowCheck (s.ctx i)).dropCheck (s.ctx i) :=
    (s.sock_updSock_same i _).trans (Socket.railSample_on (s.ctx i) .openFirst v c x on)
  have checked : openContactChecked c x z := Socket.openCheck_checked (s.ctx i) (x.sampled v c) on armed full
  have whole := checked
  obtain ⟨unarmed, fails, passes⟩ := checked
  obtain ⟨slowUnarmed, slowCount⟩ := z.slowCheck_noOpen (s.ctx i) unarmed
  obtain ⟨dropUnarmed, dropCount⟩ := Socket.dropCheck_noOpen (s.ctx i) _ slowUnarmed
  have left (down : z.rail.st ≠ .on) : (z.slowCheck (s.ctx i)).dropCheck (s.ctx i) = z := by
    rw [z.slowCheck_off _ down, z.dropCheck_off _ down]
  refine ⟨s.railSample i .openFirst v c, ?_, s.updSock_only i _, fun j other => s.sock_updSock_other i j _ other, ?_⟩
  · exact congrArg Host.Outcome.next ((s.live_of_released _ live).trans (if_pos counts))
  rw [sock]
  refine ⟨dropUnarmed, fun low less reports => ?_, fun enough => ?_, fun slow few => ?_⟩
  · obtain ⟨taken, ended, -⟩ := fails low less
    refine ⟨(dropCount.trans slowCount).trans (taken.2.1 reports).1, fun retire => ?_⟩
    have ends : conditionEnds .openContact x := ⟨reports, .inl retire⟩
    obtain ⟨phase, -, -, bin⟩ := taken.2.2 ends
    rw [left (by rw [ended ends]; nofun)]
    exact ⟨phase, bin, ended ends⟩
  · refine (dropCount.trans slowCount).trans ?_
    rw [(passes enough).1]
  · by_cases up : z.rail.st = .on
    · have rail := Socket.openCheck_rail (s.ctx i) (x.sampled v c) on armed full up
      have slowPasses := z.slowCheck_passes (s.ctx i) up (by
        have gate : z.gate = x.gate := Socket.openCheck_gate (x.sampled v c) (s.ctx i)
        rw [rail, gate]
        exact slow)
      have dropPasses := z.windowed.dropCheck_passes (s.ctx i) up (by
        have gate : z.gate = x.gate := Socket.openCheck_gate (x.sampled v c) (s.ctx i)
        have voltage : z.windowed.rail.voltage = v := congrArg Rail.voltage rail
        have dropouts : z.windowed.rail.dropCount = x.rail.dropCount := by
          rw [show z.windowed.rail.dropCount = z.rail.dropCount from rfl, rail]
          rfl
        rw [voltage, dropouts]
        refine few.imp_left fun within out => ?_
        have far := (outOfTolerance_iff _ _).mp out
        rw [show z.windowed.gate = x.gate from gate] at far
        exact Nat.not_lt.mpr within far)
      obtain ⟨count, worst, counted⟩ := z.windowed.dropCounted_keeps
      rw [slowPasses, dropPasses, counted]
      exact whole
    · rw [left up]
      exact whole

end Sys2Proof.Machine
end

section
/-! The statements about fast trips, chain starts and hold-offs (sections 4.2, 4.6, 4.7, 4.8 and 5.3). -/

namespace Sys2Proof.Machine

/-! ## Fast trips (R77, R82) -/

/-- An event that leaves its socket leaves the state. -/
theorem State.updSock_id (s : State) (i : SocketIx) (f : Socket → Socket) (stands : f (s.sock i) = s.sock i) :
    s.updSock i f = s := by
  have same : f s.sockets[i] = s.sockets[i] := stands
  rw [s.updSock_quiet i f (Socket.ends_of_phase _ _ (by rw [same])), same]
  simp

theorem Socket.fastTrip_checked (c : Ctx) (x : Socket) (checked : x.rail.st.checked = true) :
    x.fastTrip c = x.trip c .railTrip subFast [natWord x.rail.trips, x.rail.current] := if_pos checked

theorem Socket.fastTrip_rampDown (c : Ctx) (x : Socket) (falls : x.rail.st = .rampDown) :
    x.fastTrip c = x.setRail x.rail.endRampDown := by
  unfold Socket.fastTrip
  rw [if_neg (by simp [falls, RailState.checked]), if_pos falls]

theorem Socket.fastTrip_other (c : Ctx) (x : Socket) (unchecked : x.rail.st.checked = false) (notDown : x.rail.st ≠ .rampDown) :
    x.fastTrip c = x := by
  unfold Socket.fastTrip
  rw [if_neg (by simp [unchecked]), if_neg notDown]

/-- The state with a fast-trip input's level asserted. -/
def State.tripInput (s : State) (i : SocketIx) : State :=
  { s with pins := { s.pins with fastTrip := s.pins.fastTrip ||| BitVec.twoPow 32 i.val } }

theorem State.fastTrip_asserted (s : State) (i : SocketIx) (live : s.pins.por = false) :
    s.fastTrip i true = ((s.tripInput i).updSock i fun x => x.fastTrip (s.ctx i)).checkStopped := by
  simp [State.fastTrip, State.tripInput, live]

/-- Settles O48: by the state of the rail, and on a STOPPING board by the report that every rail is OFF. -/
theorem fastTripsCutTheRail : Obligations.FastTripsCutTheRail := by
  intro s i live bit up x
  let t := (s.tripInput i).updSock i fun x => x.fastTrip (s.ctx i)
  have row : exec (.fastTrip i true) s = .next t.checkStopped :=
    congrArg Host.Outcome.next (s.fastTrip_asserted i live)
  have only : t = { s with pins := up, sockets := t.sockets, smc := t.smc } := (s.tripInput i).updSock_only i _
  have brc : t.brc = s.brc := by rw [only]
  have here : t.sock i = x.fastTrip (s.ctx i) := (s.tripInput i).sock_updSock_same i _
  have other (j : SocketIx) (not : j ≠ i) : t.sock j = s.sock j := (s.tripInput i).sock_updSock_other i j _ not
  refine ⟨rfl, fun goesOn checked => ?_, fun goesOn unchecked notDown => ?_, fun falls => ?_⟩
  · have stands := t.checkStopped_of_state (by rwa [brc])
    refine ⟨t, row.trans (congrArg Host.Outcome.next stands), only, other, ?_⟩
    rw [here, x.fastTrip_checked _ checked]
    exact Socket.trip_tripTaken (s.ctx i) .railTrip subFast _ x (.inl nofun)
  · have stands := t.checkStopped_of_state (by rwa [brc])
    refine row.trans (congrArg Host.Outcome.next (stands.trans ?_))
    exact (s.tripInput i).updSock_id i _ (x.fastTrip_other (s.ctx i) unchecked notDown)
  · have cut := here.trans (x.fastTrip_rampDown (s.ctx i) falls)
    refine ⟨_, row, fun j not => (t.checkStopped_sock j).trans (other j not), ?_⟩
    rw [t.checkStopped_sock, cut]
    refine ⟨rfl, rfl, rfl, rfl, fun ⟨j, not, up⟩ => ?_, fun ch stopping busy off => ?_⟩
    · rw [t.checkStopped_of_rail j (by rwa [other j not])]
      exact brc
    · have allOff (j : SocketIx) : (t.sock j).rail.st = .off := by
        by_cases is : j = i
        · rw [is, cut]
          rfl
        · rw [other j is]
          exact off j is
      rw [t.checkStopped_allOff ch (by rwa [brc]) (by rwa [brc]) allOff]
      exact ⟨rfl, rfl, rfl⟩

/-! ## Chain starts and the expiry of a SOCKET hold-off (R70, R79) -/

/-- The exhaustion test decides between a lockout and a ramp; a fast-trip input that stands asserted trips the ramp. -/
theorem Socket.powerOrLock_powersOrLocks (c : Ctx) (x : Socket) :
    powersOrLocks c.runMs c.fastInput x (x.powerOrLock c) := by
  unfold Socket.powerOrLock
  refine ⟨fun exhausted => ?_, fun left quiet => ?_, fun left asserted => ?_⟩
  · rw [if_pos (by simpa [Socket.exhausted] using exhausted)]
    unfold Socket.report
    split
    · rw [Socket.retire_rail]
      exact ⟨rfl, rfl, fun _ => ⟨rfl, rfl, rfl, Socket.retire_failTotal _ _⟩⟩
    · next silent => exact ⟨rfl, rfl, fun reports => absurd reports silent⟩
  · rw [if_neg (by simpa [Socket.exhausted] using left)]
    simp only [quiet]
    exact ⟨rfl, rfl, rfl, rfl⟩
  · rw [if_neg (by simpa [Socket.exhausted] using left)]
    simp only [asserted, if_true]
    rw [Socket.fastTrip_checked _ _ rfl]
    exact Socket.trip_tripTaken c .railTrip subFast _ (x.setRail x.rail.startRamp) (.inl nofun)

/-- A WAITING socket that enters POWERING. -/
theorem Socket.changePhase_waiting (x : Socket) (waits : x.acct.phase = .waiting) :
    x.changePhase .powering .none = { x with acct := { x.acct with phase := .powering, resume := .none } } := by
  have ex : x.ex.followPhase .waiting .powering = x.ex := rfl
  have still : (x.ex.st == .running && x.ex.st != .running) = false := by cases x.ex.st <;> rfl
  unfold Socket.changePhase
  rw [waits]
  simp [Socket.setEx, ex, still]

/-- What a rail's start does is read of a socket that does not hold, whatever its Resume Phase. -/
theorem powersOrLocks_of_resume {now : Word32} {fast : Bool} {x y : Socket} (r : ResumePhase) (notHeld : x.acct.phase ≠ .held)
    (starts : powersOrLocks now fast { x with acct := { x.acct with resume := r } } y) : powersOrLocks now fast x y := by
  obtain ⟨locks, ramps, trips⟩ := starts
  refine ⟨locks, ramps, fun left asserted => ?_⟩
  obtain ⟨gate, tf, count, dac, window, drops, settles, armed, taken, stays, ends⟩ := trips left asserted
  refine ⟨gate, tf, count, dac, window, drops, settles, armed, taken, fun goesOn => ?_, ends⟩
  obtain ⟨st, holdOff, soak, other, -⟩ := stays goesOn
  exact ⟨st, holdOff, soak, other, fun held => absurd held notHeld⟩

/-- The lowest socket of a sorted list that satisfies a test. -/
theorem find?_of_lowest {p : SocketIx → Bool} {i : SocketIx} {l : List SocketIx} (sorted : l.Pairwise (· < ·))
    (mem : i ∈ l) (holds : p i = true) (lower : ∀ j ∈ l, j < i → p j = false) : l.find? p = some i := by
  induction l with
  | nil => cases mem
  | cons a l ih =>
    obtain ⟨first, rest⟩ := List.pairwise_cons.mp sorted
    rcases List.mem_cons.mp mem with rfl | later
    · exact List.find?_cons_of_pos holds
    · rw [List.find?_cons_of_neg (by simp [lower a (List.mem_cons_self ..) (first i later)])]
      exact ih rest later fun j isMem => lower j (List.mem_cons_of_mem _ isMem)

theorem bankSockets_sorted (b : BankIx) : (bankSockets b).Pairwise (· < ·) := by
  unfold bankSockets
  rw [List.pairwise_map]
  refine (List.pairwise_lt_finRange 4).imp fun {j k} less => Fin.mk_lt_mk.mpr ?_
  have below : j.val < k.val := less
  omega

/-- Settles O49: the candidate of the chain is the lowest CHAIN_WAIT rail, and its start is that of R79. -/
theorem chainStartsInTurn : Obligations.ChainStartsInTurn := by
  intro s b i live bank due runs calm waits lowest x
  have candidate : s.chainCandidate b = some i := by
    have still : ((bankSockets b).all fun i => !(s.sock i).ramping) = true := by
      rw [List.all_eq_true]
      intro j mem
      obtain ⟨notUp, notSettle⟩ := calm j ((mem_bankSockets b j).mp mem)
      simp [Socket.ramping, notUp, notSettle]
    unfold State.chainCandidate
    rw [if_pos (by rw [still, runs, due]; rfl)]
    refine find?_of_lowest (bankSockets_sorted b) ((mem_bankSockets b i).mpr bank) (by simp [waits]) fun j mem less => ?_
    simpa using lowest j ((mem_bankSockets b j).mp mem) less
  let u := s.updSock i fun x => x.chainStart (s.ctx i)
  let t := u.updBank b fun k => { k with chainDue := false }
  have only : u = { s with sockets := u.sockets, smc := u.smc } := s.updSock_only i _
  refine ⟨t, ?_, ?_, fun j other => s.sock_updSock_other i j _ other, ?_, fun d other => ?_, ?_⟩
  · refine congrArg Host.Outcome.next ((s.live_of_released _ live).trans ?_)
    unfold State.chainStart
    rw [candidate]
  · exact congrArg (fun v : State => { v with banks := t.banks }) only
  · refine (u.bank_updBank_same b _).trans ?_
    rw [only]
    rfl
  · refine (u.bank_updBank_other b d _ other).trans ?_
    rw [only]
    rfl
  · have sock : t.sock i = (s.sock i).chainStart (s.ctx i) := s.sock_updSock_same i _
    have start := Socket.powerOrLock_powersOrLocks (s.ctx i)
      (if (s.sock i).acct.phase = .waiting then (s.sock i).changePhase .powering .none else s.sock i)
    rw [sock]
    unfold Socket.chainStart
    by_cases waiting : (s.sock i).acct.phase = .waiting
    · have powers : x = { s.sock i with acct := { (s.sock i).acct with phase := .powering } } := by simp [x, waiting]
      rw [if_pos waiting, Socket.changePhase_waiting _ waiting] at start ⊢
      rw [powers]
      exact powersOrLocks_of_resume .none nofun start
    · have stands : x = s.sock i := by simp [x, waiting]
      rw [if_neg waiting] at start ⊢
      rw [stands]
      exact start

/-! ## The expiry of hold-offs (R79, R90) -/

theorem Socket.bankExpiry_bank (x : Socket) (e : Word32) (waits : x.rail.st = .holdOff)
    (bank : x.rail.holdOff = some (.bank, e)) : x.bankExpiry.rail.st = .chainWait := by
  unfold Socket.bankExpiry
  rw [waits, bank]
  rfl

theorem Socket.bankExpiry_other (x : Socket) (not : x.rail.st ≠ .holdOff) : x.bankExpiry = x := by
  unfold Socket.bankExpiry
  split
  · next is _ => exact absurd is not
  · rfl

theorem Socket.bankExpiry_phase (x : Socket) : x.bankExpiry.acct.phase = x.acct.phase := by
  unfold Socket.bankExpiry
  split <;> rfl

/-- Settles O50: by the two expiry tests. -/
theorem holdOffsExpire : Obligations.HoldOffsExpire := by
  intro s live
  refine ⟨fun i e waits expiry come => ?_, fun b e expiry come => ?_⟩
  · have due : (s.sock i).holdOffDue s.time.runMs = true := by
      simpa [Socket.holdOffDue, waits, expiry, reached] using come
    refine ⟨s.updSock i fun x => x.powerOrLock (s.ctx i), ?_, s.updSock_only i _,
      fun j other => s.sock_updSock_other i j _ other, ?_⟩
    · exact congrArg Host.Outcome.next ((s.live_of_released _ live).trans (if_pos due))
    · rw [s.sock_updSock_same]
      exact Socket.powerOrLock_powersOrLocks (s.ctx i) (s.sock i)
  · have due : s.banks[b].expiryDue s.time.runMs = true := by
      unfold Bank.expiryDue
      rw [expiry]
      simpa [reached] using come
    let u := s.updBankSocks b fun _ x => x.bankExpiry
    have only : u = { s with sockets := u.sockets } := by
      have is := s.updAll_quiet (fun i x => if bankOf i = b then x.bankExpiry else x) fun i =>
        Socket.ends_of_phase _ _ (by
          split
          · exact Socket.bankExpiry_phase _
          · rfl)
      exact is.trans (by rw [show u = _ from is])
    have sock (i : SocketIx) : (u.updBank b fun k => { k with holdOff := none }).sock i =
      if bankOf i = b then (s.sock i).bankExpiry else s.sock i := s.sock_updBankSocks b _ i
    refine ⟨u.updBank b fun k => { k with holdOff := none }, ?_, ?_, ?_, fun d other => ?_, fun i => ?_⟩
    · exact congrArg Host.Outcome.next ((s.live_of_released _ live).trans (if_pos due))
    · exact congrArg (fun v : State => { v with banks := (u.updBank b fun k => { k with holdOff := none }).banks }) only
    · refine (u.bank_updBank_same b _).trans ?_
      rw [only]
      rfl
    · refine (u.bank_updBank_other b d _ other).trans ?_
      rw [only]
      rfl
    · rw [sock]
      refine ⟨fun other => if_neg other, fun e' within held bank => ?_, fun not => ?_⟩
      · rw [if_pos within]
        exact Socket.bankExpiry_bank _ e' held bank
      · split
        · exact Socket.bankExpiry_other _ not
        · rfl

end Sys2Proof.Machine
end

section
/-! The statement about the bank feeds (sections 5.2 and 5.3). -/

namespace Sys2Proof.Machine

/-! ## A bank trip of one socket (R80, R89, R162) -/

section
variable (e : Word32) (x : Socket)

/-- The socket with its rail cut by the bank trip, and power interrupted where the rail was checked. -/
def Socket.bankCut (e : Word32) (x : Socket) : Socket :=
  let y := x.setRail (x.rail.bankCut e)
  if x.rail.st.checked then y.interruptPower else y

theorem Socket.bankTrip_eq : x.bankTrip e = { x.bankCut e with thermal := (x.bankCut e).thermal.bankTrip } := rfl

theorem Socket.bankCut_unchecked (unchecked : x.rail.st.checked = false) :
    x.bankCut e = x.setRail (x.rail.bankCut e) := if_neg (by simp [unchecked])

theorem Socket.bankCut_checked (checked : x.rail.st.checked = true) :
    x.bankCut e = (x.setRail (x.rail.bankCut e)).interruptPower := if_pos checked

theorem Socket.bankCut_rail : (x.bankCut e).rail = x.rail.bankCut e := by
  unfold Socket.bankCut
  dsimp only
  split
  · rw [Socket.interruptPower_rail]
    rfl
  · rfl

theorem Socket.bankCut_thermal : (x.bankCut e).thermal = x.thermal := by
  unfold Socket.bankCut
  dsimp only
  split
  · exact (Socket.interruptPower_keeps _).2.1
  · rfl

/-- The phase changes only where a soak or a stress is interrupted. -/
theorem Socket.bankCut_phase (calm : x.rail.st.checked = false ∨ x.acct.phase ≠ .soaking ∧ x.acct.phase ≠ .stressing) :
    (x.bankCut e).acct.phase = x.acct.phase ∧ (x.bankCut e).acct.bin = x.acct.bin := by
  rcases Bool.eq_false_or_eq_true x.rail.st.checked with checked | unchecked
  · obtain ⟨soak, stress⟩ := calm.resolve_left (by simp [checked])
    rw [x.bankCut_checked e checked]
    by_cases held : x.acct.phase = .held
    · rw [Socket.interruptPower_held (x.setRail (x.rail.bankCut e)) held]
      exact ⟨rfl, rfl⟩
    · rw [Socket.interruptPower_other (x.setRail (x.rail.bankCut e)) soak stress held]
      exact ⟨rfl, rfl⟩
  · rw [x.bankCut_unchecked e unchecked]
    exact ⟨rfl, rfl⟩

/-- A phase that reports still does. -/
theorem Socket.bankCut_reporting : (x.bankCut e).acct.phase.reporting = x.acct.phase.reporting := by
  by_cases calm : x.rail.st.checked = false ∨ x.acct.phase ≠ .soaking ∧ x.acct.phase ≠ .stressing
  · rw [(x.bankCut_phase e calm).1]
  · obtain ⟨checked, runs⟩ := not_or.mp calm
    have run : x.acct.phase = .soaking ∨ x.acct.phase = .stressing :=
      Decidable.byContradiction fun other => runs (not_or.mp other)
    rw [x.bankCut_checked e (by simpa using checked), Socket.interruptPower_soak (x.setRail (x.rail.bankCut e)) run]
    rcases run with is | is <;> rw [is] <;> rfl

theorem Socket.bankCut_counts :
    (x.bankCut e).rail.trips = x.rail.trips ∧ (x.bankCut e).acct.kindCount = x.acct.kindCount := by
  constructor
  · rw [x.bankCut_rail e]
    unfold Rail.bankCut
    split <;> rfl
  · unfold Socket.bankCut
    dsimp only
    split
    · exact (Socket.interruptPower_keeps _).2.2.2.kindCount
    · rfl

theorem Socket.bankTrip_bankCutTaken : bankCutTaken e x (x.bankTrip e) := by
  rw [x.bankTrip_eq e]
  refine ⟨fun reached => ?_, fun low => ?_, fun checked runs => ?_, fun checked held resumes => ?_, fun calm => ?_, ?_⟩
  · dsimp only
    rw [x.bankCut_rail e]
    cases is : x.rail.st <;> simp_all [Rail.bankCut, RailState.checked]
  · dsimp only
    rw [x.bankCut_rail e]
    rcases low with is | is <;> simp [Rail.bankCut, is]
  · rw [x.bankCut_checked e checked, Socket.interruptPower_soak (x.setRail (x.rail.bankCut e)) runs]
    exact ⟨rfl, rfl⟩
  · rw [x.bankCut_checked e checked, Socket.interruptPower_held (x.setRail (x.rail.bankCut e)) held]
    exact ⟨held, if_pos resumes⟩
  · refine (x.bankCut_phase e (calm.imp_right fun calm => ?_)).1
    rcases calm with none | powers
    · constructor <;> rintro is <;> rw [is] at none <;> cases none
    · constructor <;> rw [powers] <;> nofun
  · rw [x.bankCut_thermal e]
    unfold Thermal.bankTrip Thermal.dropHeat
    by_cases heats : 0 < x.thermal.u <;> simp [heats]

theorem Socket.bankTrip_quiet : x.ends (x.bankTrip e) = false := by
  have reports : (x.bankTrip e).acct.phase.reporting = x.acct.phase.reporting := x.bankCut_reporting e
  by_cases silent : x.acct.phase.reporting = true
  · rw [silent] at reports
    cases after : (x.bankTrip e).acct.phase <;> simp_all [Socket.ends, Phase.terminal, Phase.reporting]
  · have stands : (x.bankTrip e).acct.phase = x.acct.phase := (x.bankCut_phase e (.inr (by
      constructor <;> rintro is <;> exact silent (by rw [is]; rfl)))).1
    exact Socket.ends_of_phase _ _ stands

/-! ## A bank lock of one socket (R91) -/

theorem Socket.bankLock_acct (y : Socket) : y.bankLock.acct.phase = (y.report .bankLock).acct.phase ∧
    y.bankLock.acct.retireKind = (y.report .bankLock).acct.retireKind ∧
    y.bankLock.acct.bin = (y.report .bankLock).acct.bin ∧
    y.bankLock.acct.kindCount = (y.report .bankLock).acct.kindCount ∧
    y.bankLock.rail.trips = (y.report .bankLock).rail.trips := by
  unfold Socket.bankLock
  dsimp only
  split
  · exact ⟨rfl, rfl, rfl, rfl, Rail.takedown_trips _⟩
  · exact ⟨rfl, rfl, rfl, rfl, Rail.takedown_trips _⟩
  · exact ⟨rfl, rfl, rfl, rfl, rfl⟩

/-- A rail that the lock finds waiting, held off or down is in OFF after it. -/
theorem Socket.bankLock_off (y : Socket) (low : y.rail.st = .holdOff ∨ y.rail.st = .chainWait ∨ y.rail.st = .off) :
    y.bankLock.rail.st = .off := by
  have reported : (y.report .bankLock).rail.st = .off ∨ y.report .bankLock = y := by
    unfold Socket.report
    split
    · exact .inl (by rw [Socket.retire_rail, Rail.takedown_off _ (low.elim (.inr ∘ .inl) (.imp_right .inr))])
    · exact .inr rfl
  unfold Socket.bankLock
  rcases reported with off | stands
  · simp [off]
  · rw [stands]
    rcases low with is | is | is <;> simp [is, Socket.takedown, Rail.takedown]

end

/-! ## A bank trip of the state (R88, R89, R91) -/

section
variable (s : State) (b : BankIx)

/-- An event of a bank's sockets that ends none. -/
theorem State.cutBank_eq : s.cutBank b = { s with
    sockets := (s.cutBank b).sockets
    banks := s.banks.set b { s.banks[b] with
      holdOff := some (s.time.runMs + 2000), runTrips := s.banks[b].runTrips + 1 } } := by
  have quiet := s.updAll_quiet (fun i x => if bankOf i = b then x.bankTrip (s.time.runMs + 2000) else x) fun i => by
    split
    · exact Socket.bankTrip_quiet _ _
    · exact Socket.ends_of_phase _ _ rfl
  unfold State.cutBank State.updBankSocks
  dsimp only
  rw [quiet]
  rfl

theorem State.cutBank_sock (i : SocketIx) : (s.cutBank b).sock i =
    if bankOf i = b then (s.sock i).bankTrip (s.time.runMs + 2000) else s.sock i :=
  s.sock_updBankSocks b _ i

theorem State.lockBank_eq : s.lockBank b = { s with
    smc := (s.lockBank b).smc, sockets := (s.lockBank b).sockets
    banks := s.banks.set b { s.banks[b] with locked := true, holdOff := none } } := by
  unfold State.lockBank State.updBankSocks
  rw [State.updAll_eq]
  rfl

theorem State.lockBank_sock (i : SocketIx) : (s.lockBank b).sock i =
    if bankOf i = b then (s.sock i).bankLock else s.sock i :=
  s.sock_updBankSocks b _ i

theorem State.lockBank_ended (i : SocketIx) (within : bankOf i = b) (before : (s.sock i).acct.phase ≠ .retired)
    (after : ((s.sock i).bankLock).acct.phase = .retired) :
    (s.lockBank b).smc.attention.getLsbD Cause.socketEnded.bit = true :=
  State.updAll_ended s (fun i x => if bankOf i = b then x.bankLock else x) i
    (Socket.ends_of_retired before (by rw [if_pos within]; exact after))

/-- A cause stands through a lock. -/
theorem State.lockBank_cause (k : Nat) (set : s.smc.attention.getLsbD k = true) :
    (s.lockBank b).smc.attention.getLsbD k = true := by
  unfold State.lockBank State.updBankSocks
  rw [State.updAll_eq]
  dsimp only [State.updBank]
  split
  · exact Cause.stays _ set
  · exact set

end

/-- A cause stands through the report that every rail is OFF. -/
theorem State.checkStopped_cause (s : State) (k : Nat) (set : s.smc.attention.getLsbD k = true) :
    s.checkStopped.smc.attention.getLsbD k = true := by
  unfold State.checkStopped State.completeChannel State.setBoard
  split
  · split
    · exact Cause.stays _ set
    · exact set
  · exact set

/-- The state with a feed sample taken, and counted as a trip. -/
def State.feedTripped (s : State) (b : BankIx) (c : Word32) : State := { s with
  banks := s.banks.set b { s.banks[b] with feed := c, tripCount := min 65535 (s.banks[b].tripCount + 1) }
  smc := { s.smc with attention := s.smc.attention ||| Cause.bankTrip.mask } }

theorem State.feedSample_trips (s : State) (b : BankIx) (c : Word32) (trips : s.tripsBank b c = true) :
    s.feedSample b c =
      (if s.banks[b].locked then s.feedTripped b c
        else if 2 ≤ s.banks[b].runTrips then ((s.feedTripped b c).cutBank b).lockBank b
        else (s.feedTripped b c).cutBank b).checkStopped := by
  unfold State.feedSample
  rw [if_pos trips]
  simp [State.bankTrip, State.updBank, State.feedTripped, State.raise, satAdd, max16]

theorem State.tripsBank_iff (s : State) (b : BankIx) (c : Word32) : s.tripsBank b c = true ↔
    s.brc.state ≠ .stopped ∧ s.scu.config.budgets[b] + s.scu.config.budgets[b] / 4 < c.toNat := by
  exact Bool.and_eq_true_iff.trans (and_congr bne_iff_ne decide_eq_true_iff)

/-- What every trip of a bank leaves of the state it meets. -/
structure State.TripLeaves (s : State) (b : BankIx) (v : State) : Prop where
  only : v = { s with banks := v.banks, sockets := v.sockets, smc := v.smc }
  cause : v.smc.attention.getLsbD Cause.bankTrip.bit = true
  banks : ∀ d : BankIx, d ≠ b → v.banks[d] = s.banks[d]
  socks : ∀ i : SocketIx, bankOf i ≠ b → v.sock i = s.sock i
  counts : ∀ i : SocketIx, (v.sock i).rail.trips = (s.sock i).rail.trips ∧
    (v.sock i).acct.kindCount = (s.sock i).acct.kindCount

theorem bank_set_other (v : Vector Bank 8) (b d : BankIx) (k : Bank) (other : d ≠ b) : (v.set b k)[d] = v[d] :=
  Vector.getElem_set_ne _ _ fun is => other (Fin.ext is.symm)

theorem State.feedTripped_leaves (s : State) (b : BankIx) (c : Word32) : s.TripLeaves b (s.feedTripped b c) where
  only := rfl
  cause := Cause.raised _ _
  banks d other := bank_set_other _ b d _ other
  socks _ _ := rfl
  counts _ := ⟨rfl, rfl⟩

theorem State.TripLeaves.only_trans {s v w : State} {b : BankIx} (leaves : s.TripLeaves b v)
    (only : w = { v with banks := w.banks, sockets := w.sockets, smc := w.smc }) :
    w = { s with banks := w.banks, sockets := w.sockets, smc := w.smc } :=
  only.trans (congrArg (fun u : State => { u with banks := w.banks, sockets := w.sockets, smc := w.smc }) leaves.only)

theorem State.TripLeaves.cut {s v : State} {b : BankIx} (leaves : s.TripLeaves b v) : s.TripLeaves b (v.cutBank b) where
  only := leaves.only_trans (by rw [v.cutBank_eq b])
  cause := by
    rw [v.cutBank_eq b]
    exact leaves.cause
  banks d other := by
    rw [v.cutBank_eq b]
    exact (bank_set_other _ b d _ other).trans (leaves.banks d other)
  socks i other := by
    rw [v.cutBank_sock b i, if_neg other]
    exact leaves.socks i other
  counts i := by
    rw [v.cutBank_sock b i]
    split
    · obtain ⟨trips, counts⟩ := Socket.bankCut_counts (v.time.runMs + 2000) (v.sock i)
      exact ⟨trips.trans (leaves.counts i).1, counts.trans (leaves.counts i).2⟩
    · exact leaves.counts i

theorem State.TripLeaves.lock {s v : State} {b : BankIx} (leaves : s.TripLeaves b v) : s.TripLeaves b (v.lockBank b) where
  only := leaves.only_trans (by rw [v.lockBank_eq b])
  cause := v.lockBank_cause b _ leaves.cause
  banks d other := by
    rw [v.lockBank_eq b]
    exact (bank_set_other _ b d _ other).trans (leaves.banks d other)
  socks i other := by
    rw [v.lockBank_sock b i, if_neg other]
    exact leaves.socks i other
  counts i := by
    rw [v.lockBank_sock b i]
    split
    · obtain ⟨-, -, -, counts, trips⟩ := (v.sock i).bankLock_acct
      obtain ⟨sameTrips, sameCounts⟩ := leaves.counts i
      rw [counts, trips, ← sameTrips, ← sameCounts]
      unfold Socket.report
      split <;> simp
    · exact leaves.counts i

/-- Settles O51: by the threshold, the lock and the trips of the run. -/
theorem feedSamplesTripTheBank : Obligations.FeedSamplesTripTheBank := by
  intro s b c live k budget e tripped
  have row : exec (.bankFeedSample b c) s = .next (s.feedSample b c) :=
    congrArg Host.Outcome.next (s.live_of_released _ live)
  refine ⟨fun calm => row.trans (congrArg Host.Outcome.next (if_neg ?_)), fun runs above => ?_⟩
  · rw [s.tripsBank_iff b c]
    rintro ⟨runs, above⟩
    exact Nat.not_lt.mpr (calm.resolve_left runs) above
  have trips := (s.tripsBank_iff b c).mpr ⟨runs, above⟩
  rw [row, s.feedSample_trips b c trips]
  let u := s.feedTripped b c
  let v := if s.banks[b].locked then u else if 2 ≤ s.banks[b].runTrips then (u.cutBank b).lockBank b else u.cutBank b
  have here : u.banks[b] = tripped := Vector.getElem_set_self _
  have first := s.feedTripped_leaves b c
  have leaves : s.TripLeaves b v := by
    unfold v
    split
    · exact first
    · split
      · exact first.cut.lock
      · exact first.cut
  have brc : v.brc = s.brc := by rw [leaves.only]
  have sock (i : SocketIx) : v.checkStopped.sock i = v.sock i := v.checkStopped_sock i
  have banks : v.checkStopped.banks = v.banks := v.checkStopped_banks
  refine ⟨v.checkStopped, rfl, ?_, v.checkStopped_cause _ leaves.cause, fun other => ?_, fun ⟨i, up⟩ => ?_,
    fun ch stopping busy off => ?_, fun d other => ?_, fun i other => ?_, fun i => ?_, fun locked => ?_,
    fun unlocked few => ?_, fun unlocked many => ?_⟩
  · rw [v.checkStopped_eq]
    exact congrArg (fun w : State => { w with brc := v.checkStopped.brc, smc := v.checkStopped.smc }) leaves.only
  · rw [v.checkStopped_of_state (by rwa [brc])]
    exact brc
  · rw [v.checkStopped_of_rail i (by rwa [← sock])]
    exact brc
  · rw [v.checkStopped_allOff ch (by rwa [brc]) (by rwa [brc]) fun i => by rw [← sock]; exact off i, ← brc]
  · rw [banks]
    exact leaves.banks d other
  · rw [sock]
    exact leaves.socks i other
  · rw [sock]
    exact leaves.counts i
  · have is : v = u := if_pos locked
    rw [banks, v.checkStopped_sockets, is]
    exact ⟨here, rfl⟩
  · have is : v = u.cutBank b := (if_neg (by rw [unlocked]; nofun)).trans (if_neg (Nat.not_le.mpr few))
    rw [banks]
    refine ⟨?_, fun i within => ?_⟩
    · rw [is, u.cutBank_eq b]
      refine (Vector.getElem_set_self _).trans ?_
      rw [here]
      rfl
    · rw [sock, is, u.cutBank_sock, if_pos within]
      exact Socket.bankTrip_bankCutTaken e (s.sock i)
  · have is : v = (u.cutBank b).lockBank b := (if_neg (by rw [unlocked]; nofun)).trans (if_pos many)
    have cut (i : SocketIx) (within : bankOf i = b) : (u.cutBank b).sock i = (s.sock i).bankTrip e :=
      (u.cutBank_sock b i).trans (if_pos within)
    have lock (i : SocketIx) (within : bankOf i = b) : v.sock i = ((s.sock i).bankTrip e).bankLock := by
      rw [is, State.lockBank_sock, if_pos within, cut i within]
    rw [banks]
    refine ⟨?_, fun i within => ?_⟩
    · rw [is, State.lockBank_eq, u.cutBank_eq b]
      refine (Vector.getElem_set_self _).trans ?_
      have cutHere : (u.banks.set b { u.banks[b] with
          holdOff := some (u.time.runMs + 2000), runTrips := u.banks[b].runTrips + 1 })[b] = { u.banks[b] with
          holdOff := some (u.time.runMs + 2000), runTrips := u.banks[b].runTrips + 1 } := Vector.getElem_set_self _
      rw [cutHere, here]
    · rw [sock, lock i within]
      obtain ⟨phase, retireKind, bin, -, -⟩ := ((s.sock i).bankTrip e).bankLock_acct
      have reports : ((s.sock i).bankTrip e).acct.phase.reporting = (s.sock i).acct.phase.reporting :=
        (s.sock i).bankCut_reporting e
      refine ⟨fun notTripped notLocked => Socket.bankLock_off _ ?_, fun reporting => ?_, fun silent => ?_⟩
      · have rail : ((s.sock i).bankTrip e).rail = (s.sock i).rail.bankCut e := (s.sock i).bankCut_rail e
        rw [rail]
        cases st : (s.sock i).rail.st <;> simp_all [Rail.bankCut]
      · have retired := Socket.report_taken ((s.sock i).bankTrip e) .bankLock (by rw [reports]; exact reporting)
        rw [phase, retireKind, bin, retired]
        refine ⟨rfl, rfl, rfl, v.checkStopped_cause _ ?_⟩
        rw [is]
        refine State.lockBank_ended _ b i within ?_ ?_
        · rw [cut i within]
          rintro retired
          rw [retired] at reports
          rw [reporting] at reports
          cases reports
        · rw [cut i within, phase, retired]
          rfl
      · have stands := Socket.report_dropped ((s.sock i).bankTrip e) .bankLock (by rw [reports]; exact silent)
        rw [phase, bin, stands]
        refine (s.sock i).bankCut_phase e (.inr ?_)
        constructor <;> rintro is <;> rw [is] at silent <;> cases silent

end Sys2Proof.Machine
end

section
/-! The statements about the sensor samples (chapter 6). -/

namespace Sys2Proof.Machine

/-! ## The filter (R99, R100) and the window (R104) -/

section
variable (k : Nat) (raw : Int) (x : Sensor)

/-- The filter taken anew from a sample. -/
def Sensor.taken (raw : Int) (x : Sensor) : Sensor :=
  { x with tf := some raw, suspectCount := 0, invalidCount := 0, st := .tracking }

theorem Sensor.validStep_first (first : x.st = .noSample ∨ x.st = .lost ∨ x.tf = none) :
    x.validStep k raw = x.taken raw := by
  unfold Sensor.validStep
  dsimp only
  split
  · rfl
  · rfl
  · rfl
  · next value begun found => exact absurd first (by simpa [value] using ⟨begun, found⟩)

theorem Sensor.validStep_filters (f : Int) (begun : x.st ≠ .noSample) (found : x.st ≠ .lost) (value : x.tf = some f) :
    x.validStep k raw =
      if (raw - f).natAbs ≤ 256 then
        { x with tf := some (f + Int.tdiv (raw - f) (2 ^ k)), suspectCount := 0, invalidCount := 0, st := .tracking }
      else if x.suspectCount < 2 then
        { x with suspectCount := x.suspectCount + 1, invalidCount := 0, st := .suspect }
      else x.taken raw := by
  unfold Sensor.validStep
  dsimp only
  split
  · exact absurd ‹x.st = .noSample› begun
  · exact absurd ‹x.st = .lost› found
  · next none _ _ => rw [value] at none; cases none
  · next same _ _ =>
    rw [value] at same
    cases same
    rfl

/-- What every valid sample leaves. -/
theorem Sensor.validStep_valid : (x.validStep k raw).raw = x.raw ∧ (x.validStep k raw).inWindowMs = x.inWindowMs ∧
    (x.validStep k raw).invalidCount = 0 ∧
    ((x.validStep k raw).st = .tracking ∨ (x.validStep k raw).st = .suspect) := by
  unfold Sensor.validStep
  (repeat' split) <;> simp

theorem Sensor.window_eq (n : Numbers) : x.window n = { x with
    inWindow := x.judge n, inWindowMs := if x.judge n = true then min 4294967295 (x.inWindowMs + 25) else 0 } := by
  unfold Sensor.window
  split <;> simp_all [satAdd, max32]

theorem Sensor.judge_of_value (n : Numbers) (f : Int) (valid : x.st = .tracking ∨ x.st = .suspect) (value : x.tf = some f) :
    x.judge n = true ↔ (f - n.tempSetpoint).natAbs ≤ n.tempWindow := by
  unfold Sensor.judge
  rcases valid with is | is <;> rw [is, value] <;> simp

theorem Sensor.judge_invalid (n : Numbers) (tracking : x.st ≠ .tracking) (suspect : x.st ≠ .suspect) :
    x.judge n = false := by
  unfold Sensor.judge
  split
  · next is _ => exact absurd is tracking
  · next is _ => exact absurd is suspect
  · rfl

end

/-- A valid sample moves the filter, and the window is judged on its outcome. -/
theorem Sensor.validStep_sampleFiltered (n : Numbers) (w : Word) (x : Sensor) :
    sampleFiltered n w x ((({ x with raw := w } : Sensor).validStep n.filterShift w.toInt).window n) := by
  let v := ({ x with raw := w } : Sensor).validStep n.filterShift w.toInt
  obtain ⟨raw, ms, invalid, valid⟩ := Sensor.validStep_valid n.filterShift w.toInt { x with raw := w }
  rw [Sensor.window_eq]
  refine ⟨raw, fun first => ?_, fun f begun found value => ?_, invalid, fun f value => v.judge_of_value n f valid value, ?_⟩
  · have taken := Sensor.validStep_first n.filterShift w.toInt { x with raw := w } (first.imp_right .inl)
    rw [taken]
    exact ⟨rfl, rfl⟩
  · have filters := Sensor.validStep_filters n.filterShift w.toInt { x with raw := w } f begun found value
    rw [filters]
    refine ⟨fun near => ?_, fun far few => ?_, fun far many => ?_⟩
    · rw [if_pos near]
      exact ⟨rfl, rfl, rfl⟩
    · rw [if_neg (Nat.not_le.mpr far), if_pos few]
      exact ⟨value, rfl, rfl⟩
    · rw [if_neg (Nat.not_le.mpr far), if_neg (Nat.not_lt.mpr many)]
      exact ⟨rfl, rfl⟩
  · dsimp only
    rw [ms]

/-! ## The absolute limit (R103) -/

section
variable (c : Ctx) (raw : Int) (x : Socket)

theorem Socket.limitCheck_below (below : raw < c.config.absLimit) : x.limitCheck c raw = x :=
  if_neg (Int.not_le.mpr below)

/-- The socket with its heat dropped. -/
def Socket.cooled (x : Socket) : Socket := { x with thermal := x.thermal.dropHeat }

theorem Socket.limitCheck_above (above : c.config.absLimit ≤ raw) : x.limitCheck c raw =
    x.cooled.takeCondition c .thermal subAbsLimit
      [signedWord x.gate.shadow.num.tempSetpoint, signedWord x.thermal.dropHeat.u] :=
  if_pos above

theorem Thermal.dropHeat_eq (t : Thermal) : t.dropHeat =
    { t with u := if 0 < t.u then 0 else t.u, preload := if 0 < t.u then 0 else t.preload } := by
  unfold Thermal.dropHeat
  split <;> rfl

theorem Socket.limitCheck_sensor : (x.limitCheck c raw).sensor = x.sensor := by
  by_cases above : c.config.absLimit ≤ raw
  · rw [x.limitCheck_above c raw above, Socket.takeCondition_sensor]
    rfl
  · rw [x.limitCheck_below c raw (Int.not_le.mp above)]

/-- In a reporting phase the limit retires. -/
theorem Socket.limitCheck_retires (above : c.config.absLimit ≤ raw) (reports : x.acct.phase.reporting = true) :
    x.limitCheck c raw = (x.cooled.recorded c .thermal subAbsLimit
      [signedWord x.gate.shadow.num.tempSetpoint, signedWord x.thermal.dropHeat.u]).retire (.kind .thermal) := by
  rw [x.limitCheck_above c raw above]
  exact Socket.takeCondition_retire c .thermal subAbsLimit _ x.cooled reports (Settings.actionFor_absLimit _)

/-- The retirement of the limit, with its record. -/
theorem Socket.limitCheck_retired (above : c.config.absLimit ≤ raw) (reports : x.acct.phase.reporting = true) :
    let y := x.limitCheck c raw
    y.thermal = x.thermal.dropHeat.retire ∧ y.acct.phase = .retired ∧ y.acct.retireKind = .kind .thermal ∧
      y.acct.bin = .failThermal ∧ (x.acct.staging.length < 4 → ∃ f : FailRecord,
        y.acct.staging = x.acct.staging ++ [f] ∧ f.kind = .thermal ∧ f.subcode = 2 ∧
        f.details = [signedWord x.gate.shadow.num.tempSetpoint, signedWord x.thermal.dropHeat.u]) := by
  rw [x.limitCheck_retires c raw above reports]
  refine ⟨Socket.retire_thermal _ _, rfl, rfl, rfl, fun room => ?_⟩
  have staged := ((x.cooled.counted .thermal).record_staged c .thermal subAbsLimit
    [signedWord x.gate.shadow.num.tempSetpoint, signedWord x.thermal.dropHeat.u] room).1
  exact ⟨_, (Socket.retire_staging _ _).trans staged, rfl, rfl, rfl⟩

theorem Socket.limitCheck_dropped (above : c.config.absLimit ≤ raw) (silent : x.acct.phase.reporting = false) :
    x.limitCheck c raw = x.cooled := by
  rw [x.limitCheck_above c raw above]
  exact Socket.takeCondition_dropped c .thermal subAbsLimit _ x.cooled silent

/-- Either way the phase stands where no condition is taken. -/
theorem Socket.limitCheck_acct (calm : raw < c.config.absLimit ∨ x.acct.phase.reporting = false) :
    (x.limitCheck c raw).acct = x.acct := by
  by_cases above : c.config.absLimit ≤ raw
  · rw [x.limitCheck_dropped c raw above (calm.resolve_left (Int.not_lt.mpr above))]
    rfl
  · rw [x.limitCheck_below c raw (Int.not_le.mp above)]

end

/-! ## Samples -/

theorem rawValid_iff (w : Word) : rawValid w = true ↔ -640 ≤ w.toInt ∧ w.toInt ≤ 3200 := by
  simp [rawValid]

theorem rawValid_invalid (code : Option Word) (invalid : invalidCode code = true) : rawValid (rawOf code) = false := by
  cases code with
  | none => decide
  | some w =>
    rw [← Bool.not_eq_true, rawOf, Option.getD_some, rawValid_iff]
    simp only [invalidCode, Bool.or_eq_true, decide_eq_true_eq] at invalid
    omega

section
variable (c : Ctx) (x : Socket)

/-- A socket with its latest sample judged. -/
def Socket.judged (y : Socket) (n : Numbers) : Socket :=
  ({ y with sensor := y.sensor.window n } : Socket).reportSpoil (!(y.sensor.window n).inWindow)

theorem Socket.judged_acct (y : Socket) (n : Numbers) :
    (y.judged n).acct = { y.acct with spoil := y.acct.spoil || !(y.judged n).sensor.inWindow } := rfl

theorem Socket.sensorSample_valid (w : Word) (valid : rawValid w = true) : x.sensorSample c (some w) =
    (({ x with sensor := ({ x.sensor with raw := w } : Sensor).validStep x.gate.shadow.num.filterShift w.toInt } :
      Socket).limitCheck c w.toInt).judged x.gate.shadow.num := by
  unfold Socket.sensorSample
  dsimp only [rawOf, Option.getD_some]
  rw [if_pos valid]
  rfl

/-- The socket after an invalid sample, its window not yet judged. -/
def Socket.missed (raw : Word) (x : Socket) : Socket :=
  { x with sensor := ({ x.sensor with raw := raw } : Sensor).invalidStep }

theorem Socket.sensorSample_invalid (code : Option Word) (invalid : rawValid (rawOf code) = false) :
    x.sensorSample c code = (if x.sensor.st ≠ .lost ∧ 3 ≤ x.sensor.invalidCount then
      (x.missed (rawOf code)).enterLost c else x.missed (rawOf code)).judged x.gate.shadow.num := by
  have enters : x.sensor.entersLost (rawOf code) = true ↔ x.sensor.st ≠ .lost ∧ 3 ≤ x.sensor.invalidCount := by
    simp [Sensor.entersLost, invalid]
  unfold Socket.sensorSample
  dsimp only
  rw [if_neg (by simp [invalid])]
  simp only [enters]
  rfl

/-- The sensor after an invalid sample that does not make it LOST. -/
theorem Sensor.invalidStep_counts (x : Sensor) (few : x.st = .lost ∨ x.invalidCount < 3) : x.invalidStep = { x with
    suspectCount := 0
    invalidCount := if x.st = .lost then x.invalidCount else x.invalidCount + 1
    st := if x.st = .lost ∨ x.st = .noSample then x.st else .invalid } := by
  have early (live : x.st ≠ .lost) : ¬3 ≤ x.invalidCount := Nat.not_le.mpr (few.resolve_left live)
  unfold Sensor.invalidStep
  cases is : x.st <;> simp_all

theorem Sensor.invalidStep_lost (x : Sensor) (live : x.st ≠ .lost) (fourth : 3 ≤ x.invalidCount) :
    x.invalidStep = { x with suspectCount := 0, invalidCount := 0, st := .lost } := by
  unfold Sensor.invalidStep
  cases is : x.st <;> simp_all

end

/-- An invalid sample that does not make the sensor LOST leaves it out of its window. -/
theorem Socket.missed_judged (x : Socket) (raw : Word) (n : Numbers) (few : x.sensor.st = .lost ∨ x.sensor.invalidCount < 3) :
    (x.missed raw).judged n = { x with
      sensor := { x.sensor with
        raw := raw, suspectCount := 0, inWindow := false, inWindowMs := 0
        invalidCount := if x.sensor.st = .lost then x.sensor.invalidCount else x.sensor.invalidCount + 1
        st := if x.sensor.st = .lost ∨ x.sensor.st = .noSample then x.sensor.st else .invalid }
      acct := { x.acct with spoil := true } } := by
  have counts := Sensor.invalidStep_counts { x.sensor with raw := raw } few
  have out : (x.missed raw).sensor.judge n = false := by
    refine Sensor.judge_invalid _ n ?_ ?_ <;>
    · unfold Socket.missed
      rw [counts]
      dsimp only
      split
      · next stands => rcases stands with is | is <;> simp [is]
      · nofun
  have window := (x.missed raw).sensor.window_eq n
  rw [out] at window
  unfold Socket.judged
  rw [window]
  unfold Socket.missed Socket.reportSpoil
  rw [counts]
  simp

/-- Settles O52: by the range of the code, and for a valid one by the absolute limit and the phase. -/
theorem sensorSamplesMoveTheFilter : Obligations.SensorSamplesMoveTheFilter := by
  intro s i live x n
  have row (code : Option Word) : exec (.sensorSample i code) s = .next (s.sensorSample i code) :=
    congrArg Host.Outcome.next (s.live_of_released _ live)
  refine ⟨fun w low high => ?_, fun code invalid few => ?_⟩
  · let v : Socket := { x with sensor := ({ x.sensor with raw := w } : Sensor).validStep n.filterShift w.toInt }
    have sample := x.sensorSample_valid (s.ctx i) w ((rawValid_iff w).mpr ⟨low, high⟩)
    have sock : (s.sensorSample i (some w)).sock i = (v.limitCheck (s.ctx i) w.toInt).judged n :=
      (s.sock_updSock_same i _).trans sample
    have quiet (calm : w.toInt < s.scu.config.absLimit ∨ x.acct.phase.reporting = false) :
        (s.sensorSample i (some w)).smc = s.smc := by
      have phase := congrArg Account.phase (v.limitCheck_acct (s.ctx i) w.toInt calm)
      unfold State.sensorSample
      rw [s.updSock_quiet i _ (Socket.ends_of_phase _ _ ((congrArg (·.acct.phase) sample).trans phase))]
    refine ⟨s.sensorSample i (some w), row _, s.updSock_only i _, fun j other => s.sock_updSock_other i j _ other, ?_⟩
    have sensor := v.limitCheck_sensor (s.ctx i) w.toInt
    have filtered := Sensor.validStep_sampleFiltered n w x.sensor
    rw [sock]
    refine ⟨?_, Socket.limitCheck_gate v (s.ctx i) w.toInt, fun below => ?_, fun above silent => ?_, fun calm => ?_,
      fun above reports => ?_⟩
    · have is : ((v.limitCheck (s.ctx i) w.toInt).judged n).sensor = v.sensor.window n := congrArg (Sensor.window n) sensor
      rw [is]
      exact filtered
    · rw [v.limitCheck_below (s.ctx i) w.toInt below]
      exact ⟨quiet (.inl below), rfl, rfl, rfl⟩
    · rw [v.limitCheck_dropped (s.ctx i) w.toInt above silent]
      exact ⟨quiet (.inr silent), rfl, rfl, Thermal.dropHeat_eq _⟩
    · rw [Socket.judged_acct, v.limitCheck_acct (s.ctx i) w.toInt calm]
    · obtain ⟨thermal, phase, retireKind, bin, staged⟩ := v.limitCheck_retired (s.ctx i) w.toInt above reports
      have begun : x.acct.phase ≠ .retired := fun is => by rw [is] at reports; cases reports
      have ended := s.updSock_ended i (fun x => x.sensorSample (s.ctx i) (some w)) (Socket.ends_of_retired begun
        ((congrArg (·.acct.phase) sample).trans phase))
      refine ⟨congrArg Thermal.u thermal, phase, retireKind, bin, congrArg Thermal.heaterOn thermal,
        congrArg Thermal.coolerOn thermal, fun room => ?_, ended⟩
      obtain ⟨f, is, kind, subcode, details⟩ := staged room
      refine ⟨f, is, kind, subcode, details.trans ?_⟩
      rw [Thermal.dropHeat_eq]
      rfl
  · have sample := x.sensorSample_invalid (s.ctx i) code (rawValid_invalid code invalid)
    rw [if_neg fun ⟨notLost, many⟩ => absurd many (Nat.not_le.mpr (few.resolve_left notLost))] at sample
    rw [row]
    unfold State.sensorSample
    rw [s.updSock_quiet i _ (Socket.ends_of_phase _ _ (congrArg (·.acct.phase) sample))]
    have outcome : x.sensorSample (s.ctx i) code = { x with
        sensor := { x.sensor with
          raw := code.getD 0x7FFF, suspectCount := 0, inWindow := false, inWindowMs := 0
          invalidCount := if x.sensor.st = .lost then x.sensor.invalidCount else x.sensor.invalidCount + 1
          st := if x.sensor.st = .lost ∨ x.sensor.st = .noSample then x.sensor.st else .invalid }
        acct := { x.acct with spoil := true } } := by
      rw [sample]
      exact x.missed_judged (rawOf code) n few
    exact congrArg (fun y => Host.Outcome.next ({ s with sockets := s.sockets.set i y } : State)) outcome

/-! ## The loss of a sensor (R101) -/

/-- The control phases, phase by phase. -/
theorem Socket.inControl_iff (c : Ctx) (x : Socket) : x.inControl c = true ↔ controlled c x := by
  unfold Socket.inControl controlled Ctx.controlHold
  cases x.acct.phase <;> simp [and_assoc]

/-- Whether a socket is under control turns on its phase and settings. -/
theorem Socket.inControl_of_same (c : Ctx) {x y : Socket} (phase : y.acct.phase = x.acct.phase) (gate : y.gate = x.gate) :
    y.inControl c = x.inControl c := by
  unfold Socket.inControl
  rw [phase, gate]

theorem Socket.inControl_retired (c : Ctx) (x : Socket) (retired : x.acct.phase = .retired) : x.inControl c = false := by
  unfold Socket.inControl
  rw [retired]

/-- Settles O53: the loss values by the phase that the condition leaves. -/
theorem sensorLossTakesTheLossValues : Obligations.SensorLossTakesTheLossValues := by
  intro s i code live formed x found fourth
  let raw := rawOf code
  let n := x.gate.shadow.num
  have invalid := rawValid_invalid code formed
  have enters : x.sensor.entersLost raw = true := by
    simp [Sensor.entersLost, raw, invalid, found, fourth]
  have sample := x.sensorSample_invalid (s.ctx i) code invalid
  rw [if_pos ⟨found, fourth⟩] at sample
  have sock : (s.sensorSample i code).sock i = ((x.missed raw).enterLost (s.ctx i)).judged n :=
    (s.sock_updSock_same i _).trans sample
  refine ⟨s.sensorSample i code, congrArg Host.Outcome.next ((s.live_of_released _ live).trans (if_pos enters)),
    s.updSock_only i _, fun j other => s.sock_updSock_other i j _ other, ?_⟩
  let y := (x.missed raw).takeCondition (s.ctx i) .sensorLost 0 [(x.missed raw).sensor.raw]
  have lost : (x.missed raw).sensor = { x.sensor with raw := raw, suspectCount := 0, invalidCount := 0, st := .lost } :=
    Sensor.invalidStep_lost { x.sensor with raw := raw } found fourth
  have sensor : ((x.missed raw).enterLost (s.ctx i)).sensor = (x.missed raw).sensor := Socket.takeCondition_sensor _ _ _ _ _
  have judged : (((x.missed raw).enterLost (s.ctx i)).judged n).sensor = { x.sensor with
      raw := raw, suspectCount := 0, invalidCount := 0, st := .lost, inWindow := false, inWindowMs := 0 } := by
    refine (Sensor.window_eq _ n).trans ?_
    rw [Sensor.judge_invalid _ n (by rw [sensor, lost]; nofun) (by rw [sensor, lost]; nofun), sensor, lost]
    rfl
  have taken : conditionTaken .sensorLost 0 [raw] x.acct.dwellSec x y := by
    have handed := Socket.takeCondition_conditionTaken (s.ctx i) .sensorLost 0 [(x.missed raw).sensor.raw] (x.missed raw) (.inl nofun)
    rw [lost] at handed
    unfold y
    rw [lost]
    exact handed
  have phase (stays : ¬conditionEnds .sensorLost x) : y.acct.phase = x.acct.phase :=
    Socket.takeCondition_phase_stays (s.ctx i) .sensorLost 0 _ (x.missed raw) (.inl nofun) stays
  have gate : y.gate = x.gate := Socket.takeCondition_gate (x.missed raw) (s.ctx i) .sensorLost 0 _
  have u : (((x.missed raw).enterLost (s.ctx i)).judged n).thermal.u =
      if y.inControl (s.ctx i) then -(y.gate.shadow.num.coolerLimit : Int) else 0 := rfl
  rw [sock]
  refine ⟨by rw [judged], by rw [judged], by rw [judged], by rw [judged], rfl, rfl, rfl,
    conditionTaken_of_same taken ⟨rfl, rfl, rfl, rfl, rfl, ⟨rfl, rfl, rfl, rfl, rfl⟩, rfl, rfl⟩, phase,
    fun control stays => ?_, fun no => ?_⟩
  · rw [u, Socket.inControl_of_same (s.ctx i) (phase stays) gate, if_pos (((x.inControl_iff (s.ctx i))).mpr control), gate]
  · rw [u, if_neg]
    by_cases ends : conditionEnds .sensorLost x
    · rw [y.inControl_retired (s.ctx i) (taken.2.2 ends).1]
      nofun
    · rw [Socket.inControl_of_same (s.ctx i) (phase ends) gate, x.inControl_iff]
      exact no.resolve_right ends

end Sys2Proof.Machine
end

section
/-! The thermal work of a visit (section 5.4 and chapter 7), and the statements about it and about the drive. -/

namespace Sys2Proof.Machine

/-! ## The allocation (R93, R94) -/

section
variable (b : Bank) (headroom : Nat) (n : Numbers)

theorem ceilingOf_eq : ceilingOf b headroom n.heaterFullScale = ceilingFor b headroom n := by
  simp [ceilingOf, ceilingFor, or_assoc]

theorem ceilingFor_le : ceilingFor b headroom n ≤ 1023 := by
  unfold ceilingFor
  split
  · exact Nat.zero_le _
  · exact Nat.min_le_left _ _

/-- Full output at the ceiling draws no more than the headroom. -/
theorem ceilingFor_draws : ceilingFor b headroom n * n.heaterFullScale ≤ headroom * 1024 := by
  unfold ceilingFor
  split
  · simp
  · exact Nat.le_trans (Nat.mul_le_mul_right _ (Nat.min_le_right _ _)) (Nat.div_mul_le_self _ _)

/-- H_max of the allocation. -/
theorem allocate_hMax (t : Thermal) : ((t.allocate b headroom n).hMax : Int) = boundFor b headroom n := by
  change ((min (ceilingOf b headroom n.heaterFullScale) n.heaterLimit : Nat) : Int) =
    min (ceilingFor b headroom n : Int) n.heaterLimit
  rw [ceilingOf_eq]
  omega

theorem allocate_ceiling (t : Thermal) : (t.allocate b headroom n).ceiling = ceilingFor b headroom n :=
  ceilingOf_eq b headroom n

end

/-! ## The update (R111 to R113) -/

section
variable (n : Numbers) (tf : Int) (t : Thermal)

theorem integrate_eq : integrate n t.sat (errorOf n tf) t.iAcc = accFor n tf t := rfl

theorem update_u : (t.update n tf).u = outputFor n t.hMax tf t := rfl

/-- The output lies between its bounds. -/
theorem outputFor_bounds (h : Int) (room : 0 ≤ h) :
    outputFor n h tf t ≤ h ∧ -(n.coolerLimit : Int) ≤ outputFor n h tf t := by
  unfold outputFor
  omega

/-- The integrator stays within its bounds. -/
theorem accFor_bounds (low : -261888 ≤ t.iAcc) (high : t.iAcc ≤ 261888) :
    -261888 ≤ accFor n tf t ∧ accFor n tf t ≤ 261888 := by
  unfold accFor
  dsimp only
  (repeat' split) <;> omega

end

/-- The grant of a positive output that does not exceed a limit. -/
theorem grantOf_le (u : Int) (limit full : Nat) (below : u ≤ limit) : grantOf u full ≤ limit * full / 1024 :=
  Nat.div_le_div_right (Nat.mul_le_mul_right _ (by omega))

/-! ## The headroom (R93) -/

theorem Rail.allocCurrent_eq (r : Rail) : r.allocCurrent = match r.st with
    | .rampUp | .settle | .on | .slew | .rampDown => r.current.toNat
    | .off | .chainWait | .tripped | .holdOff | .lockout => 0 := by
  unfold Rail.allocCurrent
  cases r.st <;> rfl

/-- The sockets of a bank, out of all. -/
theorem bankSockets_eq (b : BankIx) : (List.finRange 32).filter (fun j => bankOf j == b) = bankSockets b := by
  revert b
  decide

/-- What the model's share takes off the budget. -/
theorem foldl_drawn (l : List SocketIx) (a g : SocketIx → Nat) (m : Int) :
    l.foldl (fun n j => n + (a j : Int) + g j) m = m + (l.map a).sum + (l.map g).sum := by
  induction l generalizing m with
  | nil => simp
  | cons j l ih =>
    rw [List.foldl_cons, ih]
    simp only [List.map_cons, List.sum_cons]
    omega

theorem headroomOf_eq (s : State) (i : SocketIx) : headroomOf s i = s.scu.config.budgets[bankOf i] -
    ((bankSockets (bankOf i)).map fun j => (s.sock j).rail.allocCurrent).sum -
    (((bankSockets (bankOf i)).filter (· != i)).map fun j => (s.sock j).thermal.grant).sum := by
  rw [← bankSockets_eq]
  simp only [Rail.allocCurrent_eq]
  rfl

/-- A sum over distinct sockets, one of them set apart. -/
theorem sum_map_others (f : SocketIx → Nat) {i : SocketIx} {l : List SocketIx} (distinct : l.Nodup) (mem : i ∈ l) :
    (l.map f).sum = f i + ((l.filter (· != i)).map f).sum := by
  induction l with
  | nil => cases mem
  | cons j l ih =>
    obtain ⟨apart, distinct⟩ := List.nodup_cons.mp distinct
    by_cases here : j = i
    · subst here
      have kept : l.filter (· != j) = l := List.filter_eq_self.mpr fun k there =>
        bne_iff_ne.mpr fun same => apart (same ▸ there)
      rw [List.filter_cons_of_neg (by simp), kept, List.map_cons, List.sum_cons]
    · rw [List.filter_cons_of_pos (by simpa using here), List.map_cons, List.map_cons, List.sum_cons, List.sum_cons,
        ih distinct ((List.mem_cons.mp mem).resolve_left (Ne.symm here))]
      omega

/-- The headroom of a visit is the budget less the four currents and the other three grants. -/
theorem State.share_headroom (s : State) (i : SocketIx) :
    (s.share i - (s.sock i).rail.allocCurrent).toNat = headroomOf s i := by
  have mem : i ∈ bankSockets (bankOf i) := (mem_bankSockets _ i).mpr rfl
  have distinct : (bankSockets (bankOf i)).Nodup := (bankSockets_sorted _).imp Fin.ne_of_lt
  have currents := sum_map_others (fun j => (s.sock j).rail.allocCurrent) distinct mem
  rw [headroomOf_eq, State.share, foldl_drawn]
  omega

/-! ## The work of a visit -/

section
variable (c : Ctx) (x : Socket)

/-- The runaway count after the test. -/
def Socket.runawayCount (tf : Int) (x : Socket) : Nat :=
  if x.runawayTest tf then if 9 ≤ x.thermal.runaway then 0 else x.thermal.runaway + 1 else 0

/-- A runaway test that ends no phase changes, beside what a condition counts, the runaway count only. -/
theorem Socket.runawayStep_cases (tf : Int) :
    (∃ a, x.runawayStep c tf = ({ x with thermal := { x.thermal with runaway := x.runawayCount tf } } : Socket).accounted a) ∨
      x.acct.phase.reporting = true ∧ (x.runawayStep c tf).acct.phase = .retired := by
  unfold Socket.runawayStep Socket.runawayCount
  split
  · split
    · rcases Socket.takeCondition_cases c .thermal subRunaway x.thermalDetails
        { x with thermal := { x.thermal with runaway := 0 } } with is | ⟨reports, a, is⟩
      · exact .inl is
      · rw [is]
        exact .inr ⟨reports, rfl⟩
    · exact .inl ⟨x.acct, rfl⟩
  · exact .inl ⟨x.acct, rfl⟩

/-- Nor does a soak timeout that ends none, beside the soak timer. -/
theorem Socket.soakStep_cases (expired : Bool) (d : List Word) :
    (∃ a, x.soakStep c expired d = ({ x with thermal := { x.thermal with soakMs :=
        if expired then 0 else x.thermal.soakMs } } : Socket).accounted a) ∨
      x.acct.phase.reporting = true ∧ (x.soakStep c expired d).acct.phase = .retired := by
  unfold Socket.soakStep
  split
  · rcases Socket.takeCondition_cases c .thermal subSoakTimeout d
      { x with thermal := { x.thermal with soakMs := 0 } } with is | ⟨reports, a, is⟩
    · exact .inl is
    · rw [is]
      exact .inr ⟨reports, rfl⟩
  · exact .inl ⟨x.acct, rfl⟩

end

section
variable (c : Ctx) (share : Int) (x : Socket)

/-- The thermal state of a visit that makes an update and ends no phase. -/
theorem Socket.thermalVisit_update (tf : Int) (updates : x.updates c = some tf)
    (stays : (x.thermalVisit c share).acct.phase = x.acct.phase) :
    (x.thermalVisit c share).thermal = { (x.updated c share tf).thermal with
      runaway := (x.updated c share tf).runawayCount tf
      soakMs := if (x.updated c share tf).soakExpired then 0 else x.thermal.soakMs } := by
  have visit : x.thermalVisit c share = ((x.updated c share tf).runawayStep c tf).soakStep c
      (x.updated c share tf).soakExpired (x.updated c share tf).thermalDetails := by
    unfold Socket.thermalVisit
    rw [updates]
  have begun : x.acct.phase ≠ .retired := fun retired => by
    unfold Socket.updates at updates
    rw [Socket.inControl_retired c x retired] at updates
    cases updates
  rw [visit] at stays ⊢
  rcases (x.updated c share tf).runawayStep_cases c tf with ⟨a, is⟩ | ⟨-, retired⟩
  · rw [is] at stays ⊢
    rcases Socket.soakStep_cases c (Socket.accounted _ a) (x.updated c share tf).soakExpired
      (x.updated c share tf).thermalDetails with ⟨b, isSoak⟩ | ⟨-, retired⟩
    · rw [isSoak]
      rfl
    · exact absurd (stays.symm.trans retired) begun
  · rcases Socket.soakStep_cases c ((x.updated c share tf).runawayStep c tf) (x.updated c share tf).soakExpired
      (x.updated c share tf).thermalDetails with ⟨b, isSoak⟩ | ⟨reports, -⟩
    · rw [isSoak] at stays
      exact absurd (stays.symm.trans retired) begun
    · rw [retired] at reports
      cases reports

/-- A visit without an update. -/
theorem Socket.thermalVisit_rests (none : x.updates c = .none) : x.thermalVisit c share =
    (let n := x.gate.shadow.num
    let t := x.thermal.allocate c.bank (x.headroom share) n
    { x with thermal :=
      if x.sensor.st = .lost then { t.loss (x.inControl c) n.coolerLimit with runaway := 0 }
      else if x.sensor.st = .invalid ∧ x.inControl c = true then t.holdVisit n else t.rest }) := by
  unfold Socket.thermalVisit
  rw [none]
  dsimp only
  split
  · next is => simp [is]
  · next is => cases ctrl : x.inControl c <;> simp [is]
  · next notLost notInvalid => rw [if_neg (fun is => notLost is), if_neg (fun is => notInvalid is.1)]

theorem Socket.updates_iff (tf : Int) : x.updates c = some tf ↔
    controlled c x ∧ (x.sensor.st = .tracking ∨ x.sensor.st = .suspect) ∧ x.sensor.tf = some tf := by
  rw [← Socket.inControl_iff]
  unfold Socket.updates
  cases ctrl : x.inControl c <;> cases st : x.sensor.st <;> simp

/-- What TABLE 7-1 says of a visit without an update. -/
theorem Socket.thermalVisit_rests_worked (none : x.updates c = .none) :
    thermalWorked (controlled c x) c.bank (share - x.rail.allocCurrent).toNat x (x.thermalVisit c share).thermal := by
  have ctrl := x.inControl_iff c
  have hMax := allocate_hMax c.bank (x.headroom share) x.gate.shadow.num x.thermal
  have ceiling := allocate_ceiling c.bank (x.headroom share) x.gate.shadow.num x.thermal
  rw [x.thermalVisit_rests c share none]
  refine ⟨?_, ?_, fun not found => ?_, fun first => ?_, fun control invalid => ?_, fun control lost => ?_,
    fun not lost => ?_, fun tf control valid value => ?_⟩
  · dsimp only
    (repeat' split) <;> exact ceiling
  · dsimp only
    (repeat' split) <;> exact hMax
  · dsimp only
    rw [if_neg found, if_neg (by rw [ctrl]; exact fun is => not is.2)]
    exact ⟨rfl, rfl, rfl, rfl, rfl, rfl⟩
  · dsimp only
    rw [if_neg (by rw [first]; nofun), if_neg (by rw [first]; nofun)]
    exact ⟨rfl, rfl, rfl, rfl, rfl, rfl⟩
  · dsimp only
    rw [if_neg (by rw [invalid]; nofun), if_pos ⟨invalid, ctrl.mpr control⟩]
    refine ⟨⟨rfl, rfl⟩, ?_, rfl, rfl, rfl⟩
    exact congrArg (fun h : Int => max (-(x.gate.shadow.num.coolerLimit : Int)) (min h x.thermal.u)) hMax
  · dsimp only
    rw [if_pos lost]
    unfold Thermal.loss
    rw [ctrl.mpr control]
    exact ⟨rfl, rfl, rfl, rfl, rfl, rfl⟩
  · dsimp only
    rw [if_pos lost]
    unfold Thermal.loss
    rw [if_neg (by rw [ctrl]; exact not)]
    exact ⟨rfl, rfl, rfl, rfl, rfl, rfl⟩
  · rw [(x.updates_iff c tf).mpr ⟨control, valid, value⟩] at none
    cases none

/-- The runaway test, with the H_max of the visit. -/
theorem Socket.updated_hot (tf : Int) : (x.updated c share tf).runawayTest tf = true ↔
    hot x.gate.shadow.num (boundFor c.bank (x.headroom share) x.gate.shadow.num) tf x.thermal := by
  rw [← allocate_hMax c.bank (x.headroom share) x.gate.shadow.num x.thermal]
  exact Bool.and_eq_true_iff.trans (and_congr decide_eq_true_iff beq_iff_eq)

/-- And of one with an update. -/
theorem Socket.thermalVisit_update_worked (tf : Int) (updates : x.updates c = some tf)
    (stays : (x.thermalVisit c share).acct.phase = x.acct.phase) :
    thermalWorked (controlled c x) c.bank (share - x.rail.allocCurrent).toNat x (x.thermalVisit c share).thermal := by
  obtain ⟨control, valid, value⟩ := (x.updates_iff c tf).mp updates
  have hMax := allocate_hMax c.bank (x.headroom share) x.gate.shadow.num x.thermal
  have tested := x.updated_hot c share tf
  have notLost : x.sensor.st ≠ .lost := by rcases valid with is | is <;> simp [is]
  have u : (x.updated c share tf).thermal.u =
      outputFor x.gate.shadow.num (boundFor c.bank (x.headroom share) x.gate.shadow.num) tf x.thermal := by
    rw [← hMax]
    rfl
  have sat : (x.updated c share tf).thermal.sat =
      if (x.updated c share tf).thermal.u = boundFor c.bank (x.headroom share) x.gate.shadow.num ∧
        0 < errorFor x.gate.shadow.num tf then .high
      else if (x.updated c share tf).thermal.u = -(x.gate.shadow.num.coolerLimit : Int) ∧
        errorFor x.gate.shadow.num tf < 0 then .low else .none := by
    rw [← hMax]
    rfl
  rw [x.thermalVisit_update c share tf updates stays]
  refine ⟨allocate_ceiling c.bank (x.headroom share) _ x.thermal, hMax, fun not => absurd control not, fun first => ?_, fun _ invalid => ?_,
    fun _ lost => absurd lost notLost, fun not => absurd control not, fun tf' _ _ value' => ?_⟩
  · rcases valid with is | is <;> rw [first] at is <;> cases is
  · rcases valid with is | is <;> rw [invalid] at is <;> cases is
  · rw [value] at value'
    cases value'
    refine ⟨⟨rfl, rfl⟩, u, rfl, fun atTop above => ?_, fun notTop atLow below => ?_, fun notTop notLow => ?_,
      fun isHot few => ?_, fun isHot many => ?_, fun cool => ?_⟩
    · exact sat.trans (if_pos ⟨atTop, above⟩)
    · exact sat.trans ((if_neg fun ⟨top, above⟩ => notTop.elim (· top) (Int.not_le.mpr above)).trans (if_pos ⟨atLow, below⟩))
    · exact sat.trans ((if_neg fun ⟨top, above⟩ => notTop.elim (· top) (Int.not_le.mpr above)).trans
        (if_neg fun ⟨low, below⟩ => notLow.elim (· low) (Int.not_le.mpr below)))
    · exact (if_pos (tested.mpr isHot)).trans (if_neg (Nat.not_le.mpr few))
    · exact (if_pos (tested.mpr isHot)).trans (if_pos many)
    · exact if_neg fun is => cool (tested.mp is)

/-- The thermal work of a visit that ends no phase. -/
theorem Socket.thermalVisit_worked (stays : (x.thermalVisit c share).acct.phase = x.acct.phase) :
    thermalWorked (controlled c x) c.bank (share - x.rail.allocCurrent).toNat x (x.thermalVisit c share).thermal ∧
      (x.thermalVisit c share).thermal.duty = x.thermal.duty ∧
      (x.thermalVisit c share).thermal.pulse = x.thermal.pulse := by
  cases updates : x.updates c with
  | none =>
    refine ⟨x.thermalVisit_rests_worked c share updates, ?_, ?_⟩ <;>
    · rw [x.thermalVisit_rests c share updates]
      dsimp only
      (repeat' split) <;> rfl
  | some tf =>
    refine ⟨x.thermalVisit_update_worked c share tf updates stays, ?_, ?_⟩ <;>
    · rw [x.thermalVisit_update c share tf updates stays]
      rfl

end

/-- Settles O54: the bounds by the arithmetic of the update, the visits by TABLE 7-1. -/
theorem controlUpdatesStayInBounds : Obligations.ControlUpdatesStayInBounds := by
  refine ⟨fun b headroom n tf t full low high => ?_, State.share_headroom, fun c share x => ⟨x.thermalVisit_worked c share, fun rests => ?_⟩⟩
  · intro r
    have hMax := allocate_hMax b headroom n t
    have ceiling := allocate_ceiling b headroom n t
    obtain ⟨below, above⟩ := outputFor_bounds n tf (t.allocate b headroom n) (t.allocate b headroom n).hMax (Int.natCast_nonneg _)
    obtain ⟨accLow, accHigh⟩ := accFor_bounds n tf (t.allocate b headroom n) low high
    have draws := ceilingFor_draws b headroom n
    have top := ceilingFor_le b headroom n
    have capped : (t.allocate b headroom n).hMax ≤ (t.allocate b headroom n).ceiling := Nat.min_le_left _ _
    have limited : (t.allocate b headroom n).hMax ≤ n.heaterLimit := Nat.min_le_right _ _
    refine ⟨below, above, capped, ceiling ▸ top, limited, rfl, ?_, ?_, accLow, accHigh, fun none => ?_⟩
    · have grant := grantOf_le r.u (ceilingFor b headroom n) n.heaterFullScale (by
        have := Int.le_trans below (Int.ofNat_le.mpr capped)
        rw [ceiling] at this
        exact this)
      have within : r.grant ≤ ceilingFor b headroom n * n.heaterFullScale / 1024 := grant
      omega
    · have grant := grantOf_le r.u n.heaterLimit n.heaterFullScale (Int.le_trans below (Int.ofNat_le.mpr limited))
      rw [Nat.mul_comm n.heaterFullScale]
      exact grant
    · exact ceiling.trans (if_pos none)
  · have none : x.updates c = none := by
      cases updates : x.updates c with
      | none => rfl
      | some tf =>
        obtain ⟨control, valid, -⟩ := (x.updates_iff c tf).mp updates
        exact rests.elim (absurd control) fun neither => (valid.elim neither.1 neither.2).elim
    rw [x.thermalVisit_rests c share none]
    refine ⟨rfl, ?_, ?_, ?_⟩ <;>
    · dsimp only
      (repeat' split) <;> rfl

/-! ## The drive (section 7.4) -/

section
variable (d : Int) (prev : Side) (dead : Nat)

theorem pulseOf_rest (rest : d = 0) : pulseOf d prev dead = ⟨.none, 0, 0⟩ := if_pos rest

theorem pulseOf_heats (heats : 0 < d) (same : prev ≠ .cooler) : pulseOf d prev dead = ⟨.heater, 0, d.natAbs⟩ := by
  simp [pulseOf, heats, Int.ne_of_gt heats, same]

theorem pulseOf_heats_after (heats : 0 < d) : pulseOf d .cooler dead =
    if d.natAbs ≤ dead then ⟨.none, 0, 0⟩ else ⟨.heater, dead, d.natAbs⟩ := by
  simp [pulseOf, heats, Int.ne_of_gt heats]

theorem pulseOf_cools (cools : d < 0) (same : prev ≠ .heater) : pulseOf d prev dead = ⟨.cooler, 0, d.natAbs⟩ := by
  simp [pulseOf, Int.ne_of_lt cools, Int.lt_asymm cools, same]

theorem pulseOf_cools_after (cools : d < 0) : pulseOf d .heater dead =
    if d.natAbs ≤ dead then ⟨.none, 0, 0⟩ else ⟨.cooler, dead, d.natAbs⟩ := by
  simp [pulseOf, Int.ne_of_lt cools, Int.lt_asymm cools]

/-- The outputs at the first tick of a period. -/
theorem Pulse.drives_start (p : Pulse) (side : Side) :
    p.drives side 0 = (p.side == side && p.start == 0 && 0 < p.stop) := by
  cases start : p.start <;> simp [Pulse.drives, start]

end

/-- Settles O55: by the tick counter, and at a period start by the sign of the duty and the side before. -/
theorem pwmPeriodsFixTheirPulse : Obligations.PwmPeriodsFixTheirPulse := by
  intro s live
  have start : exec .pwmPeriodStart s = .next (if 1023 ≤ s.time.pwmTick then s.periodStart else s) :=
    congrArg Host.Outcome.next (s.live_of_released _ live)
  have tick : exec .pwmTick s = .next s.pwmTick := congrArg Host.Outcome.next (s.live_of_released _ live)
  refine ⟨fun last => ⟨s.periodStart, ?_, ?_, ?_, fun i => ?_⟩, fun before => ⟨s.pwmTick, tick, ?_, fun i => ?_⟩⟩
  · rw [start, if_pos last]
  · rw [tick, State.pwmTick, if_pos last]
  · unfold State.periodStart
    rw [s.updAll_quiet _ fun i => Socket.ends_of_phase _ _ rfl]
  · intro x y d dead
    have sock : s.periodStart.sock i = { s.sock i with
        thermal := x.periodStart s.pins.interlock s.scu.config.deadTime } := State.sock_updAll s _ i
    have is : y = x.periodStart s.pins.interlock s.scu.config.deadTime := congrArg Socket.thermal sock
    have pulse : y.pulse = pulseOf d x.periodSide dead := by rw [is]; rfl
    rw [pulse]
    refine ⟨by rw [is]; exact sock, by rw [is]; rfl, by rw [is]; rfl, by rw [is]; rfl, by rw [is]; rfl, ?_, ?_,
      by rw [is]; rfl, pulseOf_rest d x.periodSide dead, pulseOf_heats d x.periodSide dead, fun heats => ?_, pulseOf_cools d x.periodSide dead, fun cools => ?_⟩
    · rw [is]
      exact Pulse.drives_start _ _
    · rw [is]
      exact Pulse.drives_start _ _
    · rintro was
      rw [was]
      exact pulseOf_heats_after d dead heats
    · rintro was
      rw [was]
      exact pulseOf_cools_after d dead cools
  · unfold State.pwmTick
    rw [if_neg (Nat.not_le.mpr before)]
    dsimp only
    rw [s.updAll_quiet _ fun i => Socket.ends_of_phase _ _ rfl]
  · intro p
    have sock : s.pwmTick.sock i = { s.sock i with thermal := (s.sock i).thermal.atTick (s.time.pwmTick + 1) } := by
      unfold State.pwmTick
      rw [if_neg (Nat.not_le.mpr before)]
      exact State.sock_updAll s _ i
    rw [sock]
    simp only [Thermal.atTick, Pulse.drives, Bool.and_assoc, p]

end Sys2Proof.Machine
end

section
/-! The statement about the interlock (sections 3.7, 4.8, 7.4, 8.6 and 10.5). -/

namespace Sys2Proof.Machine

/-- What the statement says of a socket that the interlock cut, and that a hold may have met after it. -/
structure Socket.InterlockLeaves (x y : Socket) : Prop where
  rail : y.rail = x.rail.interlockCut
  thermal : y.thermal = x.thermal.interlock
  paused : x.ex.st = .armed ∨ x.ex.st = .running → y.ex.st = .paused
  kindCount : y.acct.kindCount = x.acct.kindCount
  spoil : y.acct.spoil = true

theorem Socket.interlockCut_leaves (x : Socket) : x.InterlockLeaves x.interlockCut where
  rail := rfl
  thermal := rfl
  paused runs := by
    rcases runs with is | is <;> simp [Socket.interlockCut, Exercise.pause, is]
  kindCount := rfl
  spoil := by simp [Socket.interlockCut, Socket.reportSpoil]

theorem Exercise.pause_paused (e : Exercise) (paused : e.st = .paused) : e.pause = e := by
  simp [Exercise.pause, paused]

theorem Socket.hold_kindCount (x : Socket) : x.hold.acct.kindCount = x.acct.kindCount := by
  by_cases active : x.acct.phase.asResume = .none
  · rw [x.hold_inactive active]; rfl
  · rw [x.hold_active active]
    simp [Socket.reportSpoil, Socket.changePhase, Socket.setEx]

/-- A hold after the cut leaves what the cut left. -/
theorem Socket.InterlockLeaves.hold {x y : Socket} (leaves : x.InterlockLeaves y) : x.InterlockLeaves y.hold where
  rail := (Socket.hold_rail y).trans leaves.rail
  thermal := y.hold_thermal.trans leaves.thermal
  paused runs := by
    have paused := leaves.paused runs
    rw [y.hold_ex]
    split
    · rw [y.ex.pause_paused paused]
      exact paused
    · exact paused
  kindCount := y.hold_kindCount.trans leaves.kindCount
  spoil := y.hold_spoil

/-- The state with its sockets cut, INTERLOCK set and the interlock counted. -/
def State.interlocked (s : State) : State := { s with
  sockets := Vector.ofFn fun i => s.sockets[i].interlockCut
  brc := { s.brc with interlockCount := satAdd max16 s.brc.interlockCount 1 }
  smc := { s.smc with attention := s.smc.attention ||| Cause.interlock.mask } }

theorem State.interlockEvent_eq (s : State) : s.interlockEvent = match s.brc.state with
    | .running | .holding => s.interlocked.enterHold .interlock
    | .stopping => s.interlocked.checkStopped
    | .stopped => s.interlocked := by
  unfold State.interlockEvent
  dsimp only
  rw [s.updAll_quiet _ fun i => Socket.interlockCut_quiet _]
  rfl

theorem State.interlocked_sock (s : State) (i : SocketIx) : s.interlocked.sock i = (s.sock i).interlockCut :=
  Vector.getElem_ofFn _

/-- The interlock event by the board state. -/
theorem State.interlockEvent_live (s : State) (runs : s.brc.state = .running ∨ s.brc.state = .holding) :
    s.interlockEvent = s.interlocked.enterHold .interlock := by
  rw [s.interlockEvent_eq]
  rcases runs with is | is <;> rw [is]

theorem State.interlockEvent_stopping (s : State) (stopping : s.brc.state = .stopping) :
    s.interlockEvent = s.interlocked.checkStopped := by
  rw [s.interlockEvent_eq, stopping]

theorem State.interlockEvent_leaves (s : State) (i : SocketIx) : (s.sock i).InterlockLeaves (s.interlockEvent.sock i) := by
  have cut : (s.sock i).InterlockLeaves (s.interlocked.sock i) := by
    rw [s.interlocked_sock]
    exact (s.sock i).interlockCut_leaves
  rw [s.interlockEvent_eq]
  split
  · rw [State.enterHold_sock]
    exact cut.hold
  · rw [State.enterHold_sock]
    exact cut.hold
  · rw [State.checkStopped_sock]
    exact cut
  · exact cut

theorem State.checkStopped_interlockCount (s : State) : s.checkStopped.brc.interlockCount = s.brc.interlockCount := by
  unfold State.checkStopped State.completeChannel
  split
  · split <;> rfl
  · rfl

theorem State.enterHold_only (s : State) (r : HoldReason) : s.enterHold r = { s with
    brc := (s.enterHold r).brc, smc := (s.enterHold r).smc, sockets := (s.enterHold r).sockets } := by
  rw [State.enterHold_eq]

theorem State.checkStopped_only (s : State) : s.checkStopped = { s with
    brc := s.checkStopped.brc, smc := s.checkStopped.smc, sockets := s.checkStopped.sockets } := by
  rw [State.checkStopped_eq]

/-- The event reaches Board Run Control, ATTENTION and the sockets. -/
theorem State.interlockEvent_only (s : State) : s.interlockEvent = { s with
    brc := s.interlockEvent.brc, smc := s.interlockEvent.smc, sockets := s.interlockEvent.sockets } := by
  have is := s.interlockEvent_eq
  split at is <;> rw [is]
  · exact s.interlocked.enterHold_only .interlock
  · exact s.interlocked.enterHold_only .interlock
  · exact s.interlocked.checkStopped_only
  · rfl

theorem State.interlockEvent_cause (s : State) : s.interlockEvent.smc.attention.getLsbD Cause.interlock.bit = true := by
  rw [s.interlockEvent_eq]
  split
  · rw [State.enterHold_smc]; exact Cause.raised _ _
  · rw [State.enterHold_smc]; exact Cause.raised _ _
  · exact State.checkStopped_cause _ _ (Cause.raised _ _)
  · exact Cause.raised _ _

theorem State.interlockEvent_count (s : State) :
    s.interlockEvent.brc.interlockCount = satAdd max16 s.brc.interlockCount 1 := by
  rw [s.interlockEvent_eq]
  split
  · rw [State.enterHold_eq]; rfl
  · rw [State.enterHold_eq]; rfl
  · rw [State.checkStopped_interlockCount]; rfl
  · rfl

/-- Settles O59: by the board state. -/
theorem interlockCutsEverything : Obligations.InterlockCutsEverything := by
  intro s live
  refine ⟨rfl, fun released => ?_⟩
  let u : State := { s with pins := { s.pins with interlock := true } }
  have row : exec .interlockAssert s = .next u.interlockEvent := by
    have event : s.interlockAssert = u.interlockEvent := by
      unfold State.interlockAssert
      rw [if_neg (by simp [released])]
      exact if_neg (by simp [live])
    exact congrArg Host.Outcome.next event
  have cut (i : SocketIx) : u.interlocked.sock i = (s.sock i).interlockCut := u.interlocked_sock i
  refine ⟨u.interlockEvent, row, ?_, ?_, ?_, fun runs => ?_, fun stopped => ?_, fun ch stopping busy => ?_, fun i => ?_⟩
  · exact u.interlockEvent_only
  · exact u.interlockEvent_cause
  · exact u.interlockEvent_count
  · rw [u.interlockEvent_live runs, State.enterHold_eq]
    exact ⟨rfl, rfl, rfl⟩
  · rw [u.interlockEvent_stopped stopped]
    exact ⟨stopped, rfl⟩
  · rw [u.interlockEvent_stopping stopping,
      u.interlocked.checkStopped_allOff ch stopping busy fun i => by rw [cut]; rfl]
    exact ⟨rfl, rfl, rfl, rfl⟩
  · obtain ⟨rail, thermal, paused, kindCount, spoil⟩ := u.interlockEvent_leaves i
    rw [rail, thermal]
    refine ⟨rfl, rfl, rfl, rfl, rfl, rfl, rfl, rfl, rfl, rfl, rfl, rfl, rfl, rfl, paused, kindCount, spoil,
      fun runs active => ?_⟩
    have held : u.interlockEvent.sock i = (s.sock i).interlockCut.hold := by
      rw [u.interlockEvent_live runs, State.enterHold_sock, cut]
    rw [held, Socket.hold_active (s.sock i).interlockCut active]
    exact ⟨rfl, rfl⟩

end Sys2Proof.Machine
end

section
/-! What a vector does to the exerciser and to a socket (sections 8.1, 8.2, 8.4, 9.2, 9.4 and 9.5), and the statement
about it. -/

namespace Sys2Proof.Machine

/-! ## The end of an exercise -/

/-- Two exercises that differ at most in what the end of an exercise abandons. -/
def Exercise.Halts (a b : Exercise) : Prop := b = { a with
  st := b.st, frameLane := b.frameLane, frameTotal := b.frameTotal, cycle := b.cycle, latched := b.latched
  expiry := b.expiry, heldSpurious := b.heldSpurious }

theorem Exercise.Halts.refl (a : Exercise) : a.Halts a := rfl

theorem Exercise.halt_halts (a : Exercise) : a.Halts a.halt := by
  unfold Exercise.halt
  split <;> rfl

theorem Exercise.followPhase_retired_halts (a : Exercise) (old : Phase) : a.Halts (a.followPhase old .retired) := by
  have halts := a.halt_halts
  unfold Exercise.followPhase
  (repeat' split) <;> first | exact halts | exact .refl a | contradiction

/-- After a halt no cycle runs. -/
theorem Exercise.halt_cycle (a : Exercise) : a.halt.cycle = a.cycle ∧ a.halt.expiry = a.expiry ∨
    a.halt.cycle = .noCycle ∧ a.halt.expiry = none := by
  unfold Exercise.halt
  split
  · exact .inr ⟨rfl, rfl⟩
  · exact .inr ⟨rfl, rfl⟩
  · exact .inr ⟨rfl, rfl⟩
  · exact .inr ⟨rfl, rfl⟩
  · exact .inl ⟨rfl, rfl⟩

theorem Exercise.followPhase_retired_cycle (a : Exercise) (old : Phase) :
    (a.followPhase old .retired).cycle = a.cycle ∧ (a.followPhase old .retired).expiry = a.expiry ∨
    (a.followPhase old .retired).cycle = .noCycle ∧ (a.followPhase old .retired).expiry = none := by
  have halted := a.halt_cycle
  unfold Exercise.followPhase
  (repeat' split) <;> first | exact halted | exact .inl ⟨rfl, rfl⟩ | contradiction

section
variable (c : Ctx) (k : Kind) (sub : Nat) (d : List Word) (x : Socket)

/-- A condition leaves the exercise, or ends it. -/
theorem Socket.takeCondition_halts : x.ex.Halts (x.takeCondition c k sub d).ex := by
  rcases x.takeCondition_cases c k sub d with ⟨a, is⟩ | ⟨-, a, is⟩ <;> rw [is]
  · exact .refl _
  · rw [Socket.retire_ex]
    exact Exercise.followPhase_retired_halts _ _

theorem Socket.takeCondition_cycle : (x.takeCondition c k sub d).ex.cycle = x.ex.cycle ∧
      (x.takeCondition c k sub d).ex.expiry = x.ex.expiry ∨
    (x.takeCondition c k sub d).ex.cycle = .noCycle ∧ (x.takeCondition c k sub d).ex.expiry = none := by
  rcases x.takeCondition_cases c k sub d with ⟨a, is⟩ | ⟨-, a, is⟩ <;> rw [is]
  · exact .inl ⟨rfl, rfl⟩
  · rw [Socket.retire_ex]
    exact Exercise.followPhase_retired_cycle _ _

end

/-! ## Generators and delay lines (R125, R141) -/

/-- A bit that enters at the low end of a register. -/
theorem shiftIn_low {n : Nat} (x : BitVec n) (m : Nat) (b : Bool) :
    (x.extractLsb' 0 m ++ BitVec.ofBool b).getLsbD 0 = b := by
  rw [BitVec.getLsbD_append]
  simp

theorem shiftIn_bit {n : Nat} (x : BitVec n) (m : Nat) (b : Bool) (k : Nat) (inside : k < m) :
    (x.extractLsb' 0 m ++ BitVec.ofBool b).getLsbD (k + 1) = x.getLsbD k := by
  rw [BitVec.getLsbD_append]
  simp [inside]

theorem Gen.step_bit (g : Gen) (k : Nat) (inside : k < 14) : g.step.state.getLsbD (k + 1) = g.state.getLsbD k :=
  shiftIn_bit g.state 14 _ k inside

theorem Gen.step_low (g : Gen) : g.step.state.getLsbD 0 = (g.state.getLsbD 14 ^^ g.state.getLsbD 13) :=
  shiftIn_low g.state 14 _

/-- A generator steps to 0 from 0 only. -/
theorem Gen.step_live (g : Gen) (live : g.state ≠ 0) : g.step.state ≠ 0 := by
  intro stuck
  have low (k : Nat) (inside : k < 14) : g.state.getLsbD k = false := by
    rw [← g.step_bit k inside, stuck]
    simp
  have top := g.step_low
  rw [stuck, low 13 (by decide)] at top
  refine live (BitVec.eq_of_getLsbD_eq fun k inside => ?_)
  rcases Nat.lt_or_ge k 14 with below | last
  · simp [low k below]
  · obtain rfl : k = 14 := by omega
    simpa using top.symm

theorem lanesOf_bit (x : LaneBits) (i : SocketIx) (k : Nat) (inside : k < 16) :
    (lanesOf x i).getLsbD k = x.getLsbD (16 * i.val + k) := by
  simp [lanesOf, inside]

/-! ## A vector of one socket -/

/-- The end of a vector changes the cycle, its vector count and its expiry (R150). -/
theorem Exercise.endVector_keeps (now : Word32) (onTick : Bool) (e : Exercise) : e.endVector now onTick = { e with
    cycle := (e.endVector now onTick).cycle, vectorCount := (e.endVector now onTick).vectorCount
    expiry := (e.endVector now onTick).expiry } := by
  unfold Exercise.endVector
  (repeat' split) <;> rfl

/-- Without a cycle in its delay, its pulse or its wait the end of a vector does nothing. -/
theorem Exercise.endVector_idle (now : Word32) (onTick : Bool) (e : Exercise)
    (idle : e.cycle = .noCycle ∨ e.cycle = .cycleEnded) : e.endVector now onTick = e := by
  unfold Exercise.endVector
  rcases idle with is | is <;> rw [is] <;> cases e.latched <;> rfl

section
variable (c : Ctx) (p : Pxr) (i : SocketIx) (recv loop : BitVec 16) (onTick : Bool) (x : Socket)

/-- The source bits of a socket's lanes at a vector. -/
def Pxr.bits (p : Pxr) (i : SocketIx) : Vector Bool 16 :=
  Vector.ofFn fun l => p.vectorMap[i][l].sourceBit p.gens p.vectorIndex true

/-- The socket after the shift and the two comparisons of a vector. -/
def Socket.compared (p : Pxr) (i : SocketIx) (recv loop : BitVec 16) (x : Socket) : Socket :=
  (({ x with ex := x.ex.shiftLines (p.bits i) } : Socket).compare p.vectorMap[i] p.vectorIndex recv).diagCompare
    p.gens[0].output loop

theorem Socket.vector_eq : x.vector c p i recv loop onTick =
    (let y := (x.compared p i recv loop).watchDone c recv
    { y with ex := { y.ex.endVector c.runMs onTick with prevRecv := recv } }) := by
  unfold Socket.vector Socket.compared Pxr.bits
  rfl

/-- The socket with its delay lines shifted and its lanes compared. -/
def Socket.shifted (p : Pxr) (i : SocketIx) (recv : BitVec 16) (x : Socket) : Socket :=
  ({ x with ex := x.ex.shiftLines (p.bits i) } : Socket).compare p.vectorMap[i] p.vectorIndex recv

theorem Socket.shifted_eq : x.shifted p i recv = { x with ex := { x.ex with
    delayLine := (x.ex.shiftLines (p.bits i)).delayLine
    frameLane := (x.shifted p i recv).ex.frameLane
    frameTotal := (x.shifted p i recv).ex.frameTotal
    skip := Vector.ofFn fun l => if p.vectorMap[i][l].checks then x.ex.skip[l] - 1 else x.ex.skip[l] } } := by
  simp only [Socket.shifted, Socket.compare, Exercise.shiftLines]

theorem Socket.shifted_st : (x.shifted p i recv).ex.st = x.ex.st := by
  rw [Socket.shifted_eq]

theorem Socket.compared_diag (diag : x.ex.st = .diag) : x.compared p i recv loop =
    (let y := x.shifted p i recv
    { y with ex := { y.ex with
      diagCount := satAdd max16 y.ex.diagCount
        ((List.finRange 16).countP fun l => loop.getLsbD l.val != p.gens[0].output) } }) :=
  if_pos ((x.shifted_st p i recv).trans diag)

theorem Socket.compared_other (other : x.ex.st ≠ .diag) : x.compared p i recv loop = x.shifted p i recv :=
  if_neg (by rw [← x.shifted_st p i recv] at other; exact other)

/-- The comparisons change delay lines, frame counts, skip counts and the diagnosis count. -/
theorem Socket.compared_eq : x.compared p i recv loop = { x with ex := { x.ex with
    delayLine := (x.ex.shiftLines (p.bits i)).delayLine
    frameLane := (x.shifted p i recv).ex.frameLane
    frameTotal := (x.shifted p i recv).ex.frameTotal
    skip := Vector.ofFn fun l => if p.vectorMap[i][l].checks then x.ex.skip[l] - 1 else x.ex.skip[l]
    diagCount := if x.ex.st = .diag then satAdd max16 x.ex.diagCount
      ((List.finRange 16).countP fun l => loop.getLsbD l.val != p.gens[0].output) else x.ex.diagCount } } := by
  by_cases diag : x.ex.st = .diag
  · rw [x.compared_diag p i recv loop diag, if_pos diag, x.shifted_eq p i recv]
  · rw [x.compared_other p i recv loop diag, if_neg diag, x.shifted_eq p i recv]

theorem Socket.watchDone_off (off : x.ex.st ≠ .running ∨ x.ex.mode ≠ .selftest ∨ x.ex.risesDone recv = false) :
    x.watchDone c recv = x := if_neg fun ⟨runs, mode, rises⟩ => by simp [runs, mode, rises] at off

theorem Socket.watchDone_rises (runs : x.ex.st = .running) (mode : x.ex.mode = .selftest)
    (rises : x.ex.risesDone recv = true) : x.watchDone c recv = match x.ex.cycle with
      | .noCycle => x
      | .startDelay | .startPulse =>
        { x with ex := { x.ex with heldSpurious := satAdd max16 x.ex.heldSpurious 1 } }
      | .cycleEnded => { x with ex := { x.ex with spurious := satAdd max16 x.ex.spurious 1 } }
      | .awaitingDone => x.doneEdge c (recv.getLsbD ((x.ex.latched.map CycleSettings.passLane).getD 0)) :=
  if_pos ⟨runs, mode, rises⟩

/-- The watch for a done edge leaves delay lines, skip counts and the diagnosis count, the trips and the gate. -/
theorem Socket.watchDone_keeps : let y := x.watchDone c recv
    y.ex.delayLine = x.ex.delayLine ∧ y.ex.skip = x.ex.skip ∧ y.ex.diagCount = x.ex.diagCount ∧
      y.rail.trips = x.rail.trips ∧ y.gate = x.gate := by
  unfold Socket.watchDone
  split
  · split
    · exact ⟨rfl, rfl, rfl, rfl, rfl⟩
    · exact ⟨rfl, rfl, rfl, rfl, rfl⟩
    · exact ⟨rfl, rfl, rfl, rfl, rfl⟩
    · exact ⟨rfl, rfl, rfl, rfl, rfl⟩
    · unfold Socket.doneEdge
      dsimp only
      split
      · exact ⟨rfl, rfl, rfl, rfl, rfl⟩
      · have halts := Socket.takeCondition_halts c .selftestFail 0 (natWords32 (min max32 x.ex.vectorCount))
          { x with ex := { x.ex with
              lastDuration := min max32 x.ex.vectorCount, cycles := satAdd max32 x.ex.cycles 1
              spurious := satAdd max16 x.ex.spurious x.ex.heldSpurious, cycle := .cycleEnded, expiry := none } }
        exact ⟨congrArg (·.delayLine) halts, congrArg (·.skip) halts, congrArg (·.diagCount) halts,
          Socket.takeCondition_trips .., Socket.takeCondition_gate ..⟩
  · exact ⟨rfl, rfl, rfl, rfl, rfl⟩

end

end Sys2Proof.Machine
end

section
/-! The statement about the vectors (sections 8.1, 8.2, 8.4, 9.2, 9.4 and 9.5). -/

namespace Sys2Proof.Machine

section
variable (c : Ctx) (p : Pxr) (i : SocketIx) (recv loop : BitVec 16) (onTick : Bool) (x : Socket)

/-- What the end of a vector leaves of the socket before it. -/
theorem Socket.vector_ex : (x.vector c p i recv loop onTick).ex =
    { ((x.compared p i recv loop).watchDone c recv).ex with
      cycle := (x.vector c p i recv loop onTick).ex.cycle
      vectorCount := (x.vector c p i recv loop onTick).ex.vectorCount
      expiry := (x.vector c p i recv loop onTick).ex.expiry
      prevRecv := recv } := by
  rw [Socket.vector_eq]
  exact congrArg (fun e : Exercise => { e with prevRecv := recv })
    (Exercise.endVector_keeps c.runMs onTick ((x.compared p i recv loop).watchDone c recv).ex)

theorem Socket.vector_blocks : let w := (x.compared p i recv loop).watchDone c recv
    let z := x.vector c p i recv loop onTick
    z.acct = w.acct ∧ z.rail = w.rail ∧ z.gate = w.gate := ⟨rfl, rfl, rfl⟩

/-! ## The comparison (R141, R142) -/

/-- The level of a lane's delay line at its Delay, once the vector's bit has entered. -/
theorem Exercise.expected_eq (l : LaneIx) (short : p.vectorMap[i][l].delay < 64) :
    (x.ex.shiftLines (p.bits i)).expected p.vectorMap[i] l = expectedLevel p p.vectorMap[i][l] x.ex.delayLine[l] := by
  have line : (x.ex.shiftLines (p.bits i)).delayLine[l] = x.ex.delayLine[l].extractLsb' 0 63 ++
      BitVec.ofBool (p.vectorMap[i][l].sourceBit p.gens p.vectorIndex true) := by
    simp [Exercise.shiftLines, Pxr.bits]
  unfold Exercise.expected expectedLevel
  rw [line]
  rcases Nat.eq_zero_or_pos p.vectorMap[i][l].delay with now | before
  · rw [if_pos now, now]
    exact shiftIn_low x.ex.delayLine[l] 63 _
  · rw [if_neg (by omega)]
    obtain ⟨k, delay⟩ : ∃ k, p.vectorMap[i][l].delay = k + 1 := ⟨_, (Nat.succ_pred_eq_of_pos before).symm⟩
    rw [delay]
    exact shiftIn_bit x.ex.delayLine[l] 63 _ k (by omega)

end

theorem LaneEntry.not_checks {m : LaneEntry} (spared : m.direction ≠ .sense ∨ m.compare = false) :
    ¬m.checks = true := by
  unfold LaneEntry.checks
  rcases spared with other | off
  · simp [other]
  · simp [off]

/-- A mismatch of the model is a miss of the statement. -/
theorem State.mismatch_eq (s : State) (recv : LaneBits) (i : SocketIx) (l : LaneIx)
    (short : s.pxr.vectorMap[i][l].delay < 64) :
    Socket.mismatch s.pxr.vectorMap[i] s.pxr.vectorIndex (lanesOf recv i)
      { s.sock i with ex := (s.sock i).ex.shiftLines (s.pxr.bits i) } l = misses s recv i l := by
  unfold Socket.mismatch
  dsimp only
  rw [Exercise.expected_eq s.pxr i (s.sock i) l short, lanesOf_bit recv i l.val l.isLt]
  unfold misses LaneEntry.checks Exercise.shiftLines
  rw [Bool.eq_iff_iff]
  simp only [Bool.and_eq_true, beq_iff_eq, bne_iff_ne, decide_eq_true_eq, RailState.live_iff, and_assoc]

/-! ## The done edge (R151, R153) -/

theorem natWords32_eq (n : Nat) (fits : n ≤ 4294967295) :
    natWords32 n = [BitVec.ofNat 16 (n % 65536), BitVec.ofNat 16 (n / 65536)] := by
  have low : (BitVec.ofNat 32 n).extractLsb' 0 16 = BitVec.ofNat 16 (n % 65536) := by
    apply BitVec.eq_of_toNat_eq
    simp [BitVec.extractLsb'_toNat]
  have high : (BitVec.ofNat 32 n).extractLsb' 16 16 = BitVec.ofNat 16 (n / 65536) := by
    apply BitVec.eq_of_toNat_eq
    simp [BitVec.extractLsb'_toNat, Nat.shiftRight_eq_div_pow]
    omega
  rw [natWords32, words32, low, high]

section
variable (c : Ctx) (recv : BitVec 16) (onTick : Bool) (y : Socket)

/-- The socket after the watch for a done edge and the end of the vector. -/
def Socket.vectorEnd (c : Ctx) (recv : BitVec 16) (onTick : Bool) (y : Socket) : Socket :=
  let w := y.watchDone c recv
  { w with ex := { w.ex.endVector c.runMs onTick with prevRecv := recv } }

/-- The end of a vector leaves the counts of the cycle and the accounts. -/
theorem Socket.vectorEnd_counts : let w := y.watchDone c recv
    let z := y.vectorEnd c recv onTick
    z.acct = w.acct ∧ z.ex.cycles = w.ex.cycles ∧ z.ex.lastDuration = w.ex.lastDuration ∧
      z.ex.spurious = w.ex.spurious ∧ z.ex.heldSpurious = w.ex.heldSpurious := by
  have keeps := (y.watchDone c recv).ex.endVector_keeps c.runMs onTick
  exact ⟨rfl, congrArg (·.cycles) keeps, congrArg (·.lastDuration) keeps, congrArg (·.spurious) keeps,
    congrArg (·.heldSpurious) keeps⟩

/-- A cycle that the watch ended, or that did not run, stands through the end of the vector. -/
theorem Socket.vectorEnd_idle (idle : (y.watchDone c recv).ex.cycle = .noCycle ∨
    (y.watchDone c recv).ex.cycle = .cycleEnded) : (y.vectorEnd c recv onTick).ex.cycle = (y.watchDone c recv).ex.cycle ∧
      (y.vectorEnd c recv onTick).ex.expiry = (y.watchDone c recv).ex.expiry := by
  have same := (y.watchDone c recv).ex.endVector_idle c.runMs onTick idle
  exact ⟨congrArg (·.cycle) same, congrArg (·.expiry) same⟩

/-- The socket with its cycle ended at the done edge. -/
def Socket.cycleDone (y : Socket) : Socket := { y with ex := { y.ex with
  lastDuration := min max32 y.ex.vectorCount, cycles := satAdd max32 y.ex.cycles 1
  spurious := satAdd max16 y.ex.spurious y.ex.heldSpurious, cycle := .cycleEnded, expiry := none } }

theorem Socket.doneEdge_eq (pass : Bool) : y.doneEdge c pass =
    if pass then y.cycleDone
    else y.cycleDone.takeCondition c .selftestFail 0 (natWords32 (min max32 y.ex.vectorCount)) := rfl

/-- What the done edge counts, whether the Pass Lane is high or low. -/
theorem Socket.doneEdge_counts (pass : Bool) : let w := y.doneEdge c pass
    w.ex.cycles = satAdd max32 y.ex.cycles 1 ∧ w.ex.lastDuration = min max32 y.ex.vectorCount ∧
      w.ex.spurious = satAdd max16 y.ex.spurious y.ex.heldSpurious ∧ w.ex.expiry = none ∧
      (w.ex.cycle = .noCycle ∨ w.ex.cycle = .cycleEnded) := by
  rw [y.doneEdge_eq c pass]
  dsimp only
  split
  · exact ⟨rfl, rfl, rfl, rfl, .inr rfl⟩
  · have halts := y.cycleDone.takeCondition_halts c .selftestFail 0 (natWords32 (min max32 y.ex.vectorCount))
    refine ⟨congrArg (·.cycles) halts, congrArg (·.lastDuration) halts, congrArg (·.spurious) halts, ?_⟩
    rcases y.cycleDone.takeCondition_cycle c .selftestFail 0 (natWords32 (min max32 y.ex.vectorCount)) with
      ⟨cycle, expiry⟩ | ⟨cycle, expiry⟩
    · exact ⟨expiry, .inr cycle⟩
    · exact ⟨expiry, .inl cycle⟩

end

/-- The vector of a running self-test cycle takes its done edge. -/
theorem Socket.vectorEnd_doneEdgeTaken (c : Ctx) (recv : LaneBits) (i : SocketIx) (onTick : Bool) (y : Socket)
    (cs : CycleSettings) (runs : y.ex.st = .running) (mode : y.ex.mode = .selftest) (latched : y.ex.latched = some cs)
    (done : cs.doneLane < 16) (passes : cs.passLane < 16) :
    doneEdgeTaken cs recv i y (y.vectorEnd c (lanesOf recv i) onTick) := by
  have level (l : Nat) (inside : l < 16) := lanesOf_bit recv i l inside
  have rises : y.ex.risesDone (lanesOf recv i) = true ↔
      recv.getLsbD (16 * i.val + cs.doneLane) = true ∧ y.ex.prevRecv.getLsbD cs.doneLane = false := by
    unfold Exercise.risesDone
    rw [latched]
    simp [level cs.doneLane done]
  obtain ⟨acct, cycles, lastDuration, spurious, heldSpurious⟩ := y.vectorEnd_counts c (lanesOf recv i) onTick
  have idle := y.vectorEnd_idle c (lanesOf recv i) onTick
  refine ⟨fun still => ?_, fun edge early => ?_, fun edge ended => ?_, fun edge none => ?_, fun edge waits => ?_⟩
  · have off := y.watchDone_off c (lanesOf recv i) (.inr (.inr (by
      rw [← Bool.not_eq_true, rises]
      exact still)))
    rw [off] at acct cycles lastDuration spurious heldSpurious
    exact ⟨⟨acct, cycles, lastDuration⟩, spurious, heldSpurious⟩
  · have on := y.watchDone_rises c (lanesOf recv i) runs mode (rises.mpr edge)
    rcases early with is | is <;>
    · rw [is] at on
      rw [on] at acct cycles lastDuration spurious heldSpurious
      exact ⟨⟨acct, cycles, lastDuration⟩, spurious, heldSpurious⟩
  · have on := y.watchDone_rises c (lanesOf recv i) runs mode (rises.mpr edge)
    rw [ended] at on
    rw [on] at acct cycles lastDuration spurious idle
    exact ⟨⟨acct, cycles, lastDuration⟩, (idle (.inr ended)).1.trans ended, spurious⟩
  · have on := y.watchDone_rises c (lanesOf recv i) runs mode (rises.mpr edge)
    rw [none] at on
    rw [on] at acct cycles lastDuration spurious heldSpurious idle
    exact ⟨⟨acct, cycles, lastDuration⟩, (idle (.inl none)).1.trans none, spurious, heldSpurious⟩
  · have on := y.watchDone_rises c (lanesOf recv i) runs mode (rises.mpr edge)
    rw [waits, latched] at on
    have pass : ((some cs).map CycleSettings.passLane).getD 0 = cs.passLane := rfl
    dsimp only at on
    rw [pass, level cs.passLane passes] at on
    rw [on] at acct cycles lastDuration spurious idle
    obtain ⟨countCycles, countDuration, countSpurious, expiry, finished⟩ :=
      y.doneEdge_counts c (recv.getLsbD (16 * i.val + cs.passLane))
    obtain ⟨cycleStands, expiryStands⟩ := idle finished
    refine ⟨cycles.trans countCycles, lastDuration.trans countDuration, spurious.trans countSpurious,
      expiryStands.trans expiry, fun (high : recv.getLsbD (16 * i.val + cs.passLane) = true) => ?_,
      fun (low : recv.getLsbD (16 * i.val + cs.passLane) = false) => ?_⟩
    · rw [high] at acct cycleStands
      exact ⟨acct, cycleStands⟩
    · have fits : min max32 y.ex.vectorCount ≤ 4294967295 := Nat.min_le_left _ _
      let d := [BitVec.ofNat 16 (min max32 y.ex.vectorCount % 65536), BitVec.ofNat 16 (min max32 y.ex.vectorCount / 65536)]
      have edgeLow : y.doneEdge c false = y.cycleDone.takeCondition c .selftestFail 0 d := by
        rw [y.doneEdge_eq c false, natWords32_eq _ fits]
        rfl
      have taken := y.cycleDone.takeCondition_conditionTaken c .selftestFail 0 d (.inl nofun)
      rw [low, edgeLow] at acct cycleStands
      have rail : (y.vectorEnd c (lanesOf recv i) onTick).rail = (y.cycleDone.takeCondition c .selftestFail 0 d).rail := by
        rw [low, edgeLow] at on
        have ended : (y.vectorEnd c (lanesOf recv i) onTick).rail = (y.watchDone c (lanesOf recv i)).rail := rfl
        exact ended.trans (congrArg Socket.rail on)
      refine ⟨conditionTaken_of_same taken ⟨by rw [acct], by rw [acct], by rw [acct], by rw [acct], by rw [acct],
        by rw [acct]; exact .refl _, by rw [rail], by rw [rail]⟩, fun stays => ?_⟩
      obtain ⟨a, is⟩ := y.cycleDone.takeCondition_stays c .selftestFail 0 d (.inl nofun) stays
      rw [cycleStands, acct, is]
      exact ⟨rfl, rfl⟩

/-- What a done edge does asks nothing of delay lines, frame counts, skip counts and the diagnosis count. -/
theorem doneEdgeTaken_of_same {cs : CycleSettings} {recv : LaneBits} {i : SocketIx} {x y z : Socket}
    {delayLine frameLane frameTotal skip diagCount}
    (same : y = { x with ex := { x.ex with delayLine, frameLane, frameTotal, skip, diagCount } })
    (taken : doneEdgeTaken cs recv i y z) : doneEdgeTaken cs recv i x z := by
  subst same
  exact taken

/-- The socket after a vector. -/
theorem Socket.vector_vectorEnd (c : Ctx) (p : Pxr) (i : SocketIx) (recv loop : BitVec 16) (onTick : Bool) (x : Socket) :
    x.vector c p i recv loop onTick = (x.compared p i recv loop).vectorEnd c recv onTick :=
  x.vector_eq c p i recv loop onTick

theorem State.vectorEvent_sock (s : State) (recv loop : LaneBits) (k : Bool) (i : SocketIx) :
    (s.vectorEvent recv loop k).sock i =
      (s.sock i).vector (s.ctx i) s.pxr i (lanesOf recv i) (lanesOf loop i) k :=
  State.sock_updAll s (fun i x => x.vector (s.ctx i) s.pxr i (lanesOf recv i) (lanesOf loop i) k) i

theorem State.vectorEvent_eq (s : State) (recv loop : LaneBits) (k : Bool) : s.vectorEvent recv loop k = { s with
    pxr := s.pxr.endVector, sockets := (s.vectorEvent recv loop k).sockets, smc := (s.vectorEvent recv loop k).smc } := by
  unfold State.vectorEvent
  rw [State.updAll_eq]

theorem exec_laneVectorSample (s : State) (recv loop : LaneBits) (k : Bool) (live : s.pins.por = false)
    (noBoundary : s.pxr.boundaryDue = false) :
    exec (.laneVectorSample recv loop k) s = .next (s.vectorEvent recv loop k) :=
  congrArg Host.Outcome.next ((s.live_of_released _ live).trans (if_neg (by rw [noBoundary]; nofun)))

/-- Settles O57: the exerciser's end of a vector, and in a socket the shift, the comparisons and the done edge. -/
theorem vectorsStepAndCompare : Obligations.VectorsStepAndCompare := by
  intro s recv loop k live noBoundary
  let t := s.vectorEvent recv loop k
  have pxr : t.pxr = s.pxr.endVector := by
    rw [show t = _ from s.vectorEvent_eq recv loop k]
  refine ⟨t, exec_laneVectorSample s recv loop k live noBoundary, ?_, by rw [pxr]; rfl, by rw [pxr]; rfl, by rw [pxr]; rfl,
    by rw [pxr]; rfl, fun inside => ?_, fun last => ?_, fun g => ⟨fun j inside => ?_, ?_, fun alive => ?_⟩, fun i l => ?_⟩
  · exact (s.vectorEvent_eq recv loop k).trans (by rw [pxr])
  · rw [pxr]
    simp [Pxr.endVector, inside]
  · rw [pxr]
    simp [Pxr.endVector, Nat.not_lt.mpr last]
  · rw [pxr]
    simpa [Pxr.endVector] using s.pxr.gens[g].step_bit j inside
  · rw [pxr]
    simpa [Pxr.endVector] using s.pxr.gens[g].step_low
  · rw [pxr]
    simpa [Pxr.endVector] using s.pxr.gens[g].step_live alive
  · intro m e
    let x := s.sock i
    let y := x.compared s.pxr i (lanesOf recv i) (lanesOf loop i)
    have compared := x.compared_eq s.pxr i (lanesOf recv i) (lanesOf loop i)
    have sock : t.sock i = y.vectorEnd (s.ctx i) (lanesOf recv i) k := s.vectorEvent_sock recv loop k i
    have ex := x.vector_ex (s.ctx i) s.pxr i (lanesOf recv i) (lanesOf loop i) k
    obtain ⟨delayLine, skip, diagCount, trips, gate⟩ := y.watchDone_keeps (s.ctx i) (lanesOf recv i)
    have z : (t.sock i).ex = { (y.watchDone (s.ctx i) (lanesOf recv i)).ex with
        cycle := (t.sock i).ex.cycle, vectorCount := (t.sock i).ex.vectorCount, expiry := (t.sock i).ex.expiry
        prevRecv := lanesOf recv i } := by
      rw [sock]
      exact ex
    have calm (mode : e.mode ≠ .selftest) : y.watchDone (s.ctx i) (lanesOf recv i) = y :=
      y.watchDone_off (s.ctx i) (lanesOf recv i) (.inr (.inl (by
        rw [show y = _ from compared]
        exact mode)))
    have miss (l : LaneIx) (short : s.pxr.vectorMap[i][l].delay < 64) := s.mismatch_eq recv i l short
    have line : (t.sock i).ex.delayLine[l] = e.delayLine[l].extractLsb' 0 63 ++
        BitVec.ofBool (m.sourceBit s.pxr.gens s.pxr.vectorIndex true) := by
      have lines : (t.sock i).ex.delayLine = y.ex.delayLine := (congrArg (·.delayLine) z).trans delayLine
      rw [lines, show y = _ from compared]
      simp [Exercise.shiftLines, Pxr.bits, e, x, m]
    refine ⟨fun short mode => ?_, fun short mode => ?_, fun sense compares => ?_, fun spared => ?_, ?_, fun j inside => ?_,
      ?_, ?_, ?_, ?_, fun cs runs mode latched done passes => ?_⟩
    · have frame : (t.sock i).ex.frameLane = (x.shifted s.pxr i (lanesOf recv i)).ex.frameLane := by
        rw [z, calm mode, show y = _ from compared]
      rw [frame, ← miss l short]
      exact Vector.getElem_ofFn _
    · have frame : (t.sock i).ex.frameTotal = (x.shifted s.pxr i (lanesOf recv i)).ex.frameTotal := by
        rw [z, calm mode, show y = _ from compared]
      rw [frame]
      refine congrArg (fun n => min 65535 (e.frameTotal + n)) (List.countP_congr fun j _ => ?_)
      rw [← miss j (short j)]
    · have skips : (t.sock i).ex.skip = y.ex.skip := (congrArg (·.skip) z).trans skip
      rw [skips, show y = _ from compared]
      refine (Vector.getElem_ofFn _).trans (if_pos ?_)
      rw [LaneEntry.checks, sense, compares]
      rfl
    · have skips : (t.sock i).ex.skip = y.ex.skip := (congrArg (·.skip) z).trans skip
      rw [skips, show y = _ from compared]
      exact (Vector.getElem_ofFn _).trans (if_neg (LaneEntry.not_checks spared))
    · rw [line]
      exact shiftIn_low e.delayLine[l] 63 _
    · rw [line]
      exact shiftIn_bit e.delayLine[l] 63 _ j inside
    · rw [z]
      exact lanesOf_bit recv i l.val l.isLt
    · rw [sock]
      exact trips.trans (congrArg (·.rail.trips) compared)
    · rw [sock]
      exact gate.trans (congrArg (·.gate) compared)
    · have counts : (t.sock i).ex.diagCount = _ :=
        ((congrArg (·.diagCount) z).trans diagCount).trans (congrArg (·.ex.diagCount) compared)
      refine ⟨fun diag => counts.trans ((if_pos diag).trans (congrArg (fun n => min 65535 (e.diagCount + n))
        (List.countP_congr fun j _ => ?_))), fun other => counts.trans (if_neg other)⟩
      rw [lanesOf_bit loop i j.val j.isLt]
      rfl
    · have taken : doneEdgeTaken cs recv i y (t.sock i) := by
        rw [sock]
        have same : y.ex = _ := congrArg (·.ex) compared
        exact y.vectorEnd_doneEdgeTaken (s.ctx i) recv i k cs (by rw [same]; exact runs) (by rw [same]; exact mode)
          (by rw [same]; exact latched) done passes
      exact doneEdgeTaken_of_same compared taken

end Sys2Proof.Machine
end

section
/-! The statement about the self-test cycle (R150, R151 and R152, section 9.4). -/

namespace Sys2Proof.Machine

/-! ## The end of a vector for a cycle (R150) -/

section
variable (now : Word32) (onTick : Bool) (e : Exercise) (l : CycleSettings) (latched : e.latched = some l)
include latched

theorem Exercise.endVector_pulseBegins (cycle : e.cycle = .startDelay) (completes : l.startDelay ≤ e.vectorCount + 1) :
    e.endVector now onTick = { e with cycle := .startPulse, vectorCount := 0 } := by
  unfold Exercise.endVector
  rw [latched, cycle]
  exact if_pos completes

theorem Exercise.endVector_pulseEnds (cycle : e.cycle = .startPulse) (completes : l.startWidth ≤ e.vectorCount + 1) :
    e.endVector now onTick = { e with
      cycle := .awaitingDone, vectorCount := e.vectorCount + 1
      expiry := some (timeoutAt now onTick l.doneTimeout) } := by
  unfold Exercise.endVector
  rw [latched, cycle]
  exact if_pos completes

theorem Exercise.endVector_counts (goesOn : (e.cycle = .startDelay ∧ e.vectorCount + 1 < l.startDelay) ∨
    (e.cycle = .startPulse ∧ e.vectorCount + 1 < l.startWidth) ∨ e.cycle = .awaitingDone) :
    e.endVector now onTick = { e with vectorCount := e.vectorCount + 1 } := by
  unfold Exercise.endVector
  rcases goesOn with ⟨cycle, short⟩ | ⟨cycle, short⟩ | cycle <;> rw [latched, cycle]
  · exact if_neg (Nat.not_le.mpr short)
  · exact if_neg (Nat.not_le.mpr short)

end

/-- Without a done edge that ends the cycle the watch counts at most a spurious edge. -/
theorem Socket.watchDone_calm (c : Ctx) (recv : BitVec 16) (x : Socket)
    (calm : x.ex.cycle = .startDelay ∨ x.ex.cycle = .startPulse ∨ x.ex.risesDone recv = false) :
    ∃ n, x.watchDone c recv = { x with ex := { x.ex with heldSpurious := n } } := by
  by_cases on : x.ex.st = .running ∧ x.ex.mode = .selftest ∧ x.ex.risesDone recv = true
  · obtain ⟨runs, mode, rises⟩ := on
    have watched := x.watchDone_rises c recv runs mode rises
    refine ⟨satAdd max16 x.ex.heldSpurious 1, ?_⟩
    rcases calm with is | is | none
    · rw [is] at watched
      exact watched
    · rw [is] at watched
      exact watched
    · rw [none] at rises
      contradiction
  · exact ⟨x.ex.heldSpurious, if_neg on⟩

/-- What a vector makes of a cycle that it does not end. -/
def Socket.cycleMoves (now : Word32) (onTick : Bool) (x y : Socket) : Prop :=
  ∃ e : Exercise, (e.cycle = x.ex.cycle ∧ e.vectorCount = x.ex.vectorCount ∧ e.latched = x.ex.latched ∧
    e.expiry = x.ex.expiry) ∧ y.ex = { e.endVector now onTick with prevRecv := y.ex.prevRecv } ∧ y.acct = x.acct

theorem Socket.cycleMoves_of_calm {c : Ctx} {recv : BitVec 16} {onTick : Bool} {x y : Socket}
    {delayLine frameLane frameTotal skip diagCount}
    (same : y = { x with ex := { x.ex with delayLine, frameLane, frameTotal, skip, diagCount } })
    (calm : x.ex.cycle = .startDelay ∨ x.ex.cycle = .startPulse ∨ x.ex.risesDone recv = false) :
    x.cycleMoves c.runMs onTick (y.vectorEnd c recv onTick) := by
  obtain ⟨n, watched⟩ := y.watchDone_calm c recv (by rw [same]; exact calm)
  rw [Socket.vectorEnd, watched]
  refine ⟨{ y.ex with heldSpurious := n }, ?_, rfl, ?_⟩ <;> rw [same]
  exact ⟨rfl, rfl, rfl, rfl⟩

theorem Socket.vector_cycleMoves (c : Ctx) (p : Pxr) (i : SocketIx) (recv loop : BitVec 16) (onTick : Bool) (x : Socket)
    (calm : x.ex.cycle = .startDelay ∨ x.ex.cycle = .startPulse ∨ x.ex.risesDone recv = false) :
    x.cycleMoves c.runMs onTick (x.vector c p i recv loop onTick) := by
  rw [Socket.vector_vectorEnd]
  exact Socket.cycleMoves_of_calm (x.compared_eq p i recv loop) calm

section
variable {now : Word32} {onTick : Bool} {x y : Socket} {l : CycleSettings}
variable (moves : x.cycleMoves now onTick y) (latched : x.ex.latched = some l)
include moves latched

theorem Socket.cycleMoves_pulseBegins (cycle : x.ex.cycle = .startDelay)
    (completes : l.startDelay ≤ x.ex.vectorCount + 1) : y.ex.cycle = .startPulse ∧ y.ex.vectorCount = 0 := by
  obtain ⟨e, ⟨sameCycle, sameCount, sameLatched, -⟩, is, -⟩ := moves
  rw [is, e.endVector_pulseBegins now onTick l (sameLatched.trans latched) (sameCycle.trans cycle)
    (by rw [sameCount]; exact completes)]
  exact ⟨rfl, rfl⟩

theorem Socket.cycleMoves_pulseEnds (cycle : x.ex.cycle = .startPulse)
    (completes : l.startWidth ≤ x.ex.vectorCount + 1) :
    y.ex.cycle = .awaitingDone ∧ y.ex.vectorCount = x.ex.vectorCount + 1 ∧
      y.ex.expiry = some (timeoutAt now onTick l.doneTimeout) := by
  obtain ⟨e, ⟨sameCycle, sameCount, sameLatched, -⟩, is, -⟩ := moves
  rw [is, e.endVector_pulseEnds now onTick l (sameLatched.trans latched) (sameCycle.trans cycle)
    (by rw [sameCount]; exact completes), ← sameCount]
  exact ⟨rfl, rfl, rfl⟩

theorem Socket.cycleMoves_counts (goesOn : (x.ex.cycle = .startDelay ∧ x.ex.vectorCount + 1 < l.startDelay) ∨
    (x.ex.cycle = .startPulse ∧ x.ex.vectorCount + 1 < l.startWidth) ∨ x.ex.cycle = .awaitingDone) :
    y.ex.cycle = x.ex.cycle ∧ y.ex.vectorCount = x.ex.vectorCount + 1 ∧ y.ex.latched = x.ex.latched ∧
      y.ex.expiry = x.ex.expiry ∧ y.acct = x.acct := by
  obtain ⟨e, ⟨sameCycle, sameCount, sameLatched, sameExpiry⟩, is, acct⟩ := moves
  rw [is, e.endVector_counts now onTick l (sameLatched.trans latched) (by rw [sameCycle, sameCount]; exact goesOn)]
  exact ⟨sameCycle, congrArg (· + 1) sameCount, sameLatched, sameExpiry, acct⟩

end

/-! ## The rows of the pulse -/

section
variable (s : State) (i : SocketIx) (recv loop : LaneBits) (k : Bool)

theorem State.vectorEvent_cycleMoves (calm : (s.sock i).ex.cycle = .startDelay ∨ (s.sock i).ex.cycle = .startPulse ∨
    (s.sock i).ex.risesDone (lanesOf recv i) = false) :
    (s.sock i).cycleMoves s.time.runMs k ((s.vectorEvent recv loop k).sock i) := by
  rw [s.vectorEvent_sock recv loop k i]
  exact (s.sock i).vector_cycleMoves (s.ctx i) s.pxr i (lanesOf recv i) (lanesOf loop i) k calm

theorem State.cycleAfter_moves (calm : (s.sock i).ex.cycle = .startDelay ∨ (s.sock i).ex.cycle = .startPulse ∨
    (s.sock i).ex.risesDone (lanesOf recv i) = false) :
    ∃ y, (s.sock i).cycleMoves s.time.runMs false y ∧ s.cycleAfter i recv loop = y.ex.cycle :=
  ⟨_, (s.sock i).vector_cycleMoves (s.ctx i) s.pxr i (lanesOf recv i) (lanesOf loop i) false calm, rfl⟩

theorem State.laneVector_eq (noBoundary : s.pxr.boundaryDue = false) :
    s.laneVector recv loop k = s.vectorEvent recv loop k := if_neg (by rw [noBoundary]; nofun)

theorem exec_startPulseBegin (live : s.pins.por = false) (noBoundary : s.pxr.boundaryDue = false)
    (delay : (s.sock i).ex.cycle = .startDelay) (begins : s.cycleAfter i recv loop = .startPulse) :
    exec (.startPulseBegin i recv loop k) s = .next (s.vectorEvent recv loop k) :=
  congrArg Host.Outcome.next ((s.live_of_released _ live).trans
    ((if_pos ⟨delay, begins⟩).trans (s.laneVector_eq recv loop k noBoundary)))

theorem exec_startPulseEnd (live : s.pins.por = false) (noBoundary : s.pxr.boundaryDue = false)
    (pulse : (s.sock i).ex.cycle = .startPulse) (ends : s.cycleAfter i recv loop = .awaitingDone) :
    exec (.startPulseEnd i recv loop k) s = .next (s.vectorEvent recv loop k) :=
  congrArg Host.Outcome.next ((s.live_of_released _ live).trans
    ((if_pos ⟨pulse, ends⟩).trans (s.laneVector_eq recv loop k noBoundary)))

theorem State.vectorEvent_blocks : s.vectorEvent recv loop k = { s with
    pxr := (s.vectorEvent recv loop k).pxr, sockets := (s.vectorEvent recv loop k).sockets
    smc := (s.vectorEvent recv loop k).smc } := by
  have pxr : (s.vectorEvent recv loop k).pxr = s.pxr.endVector := rfl
  rw [pxr]
  exact s.vectorEvent_eq recv loop k

/-! ## The timeout (R152) -/

/-- The socket with its cycle ended by the timeout. -/
def Socket.cycleExpired (x : Socket) : Socket := { x with ex := { x.ex with
  spurious := satAdd max16 x.ex.spurious x.ex.heldSpurious, cycle := .cycleEnded, expiry := none } }

theorem State.selftestTimeout_eq : s.selftestTimeout i = { s with
    sockets := (s.selftestTimeout i).sockets, smc := (s.selftestTimeout i).smc
    freeCount := if (s.sock i).ex.cycles < max32 then s.freeCount else s.freeCount + 1 } := by
  unfold State.selftestTimeout
  rw [State.updSock_eq]

theorem State.selftestTimeout_sock : (s.selftestTimeout i).sock i =
    (s.sock i).cycleExpired.takeCondition (s.ctx i) .selftestTimeout 0 (words32 (s.cycleNumber i)) :=
  State.sock_updSock_same s i (fun x => x.selftestTimeout (s.ctx i) (s.cycleNumber i))

theorem State.selftestTimeout_sock_ne {j : SocketIx} (other : j ≠ i) : (s.selftestTimeout i).sock j = s.sock j :=
  State.sock_updSock_other s i j (fun x => x.selftestTimeout (s.ctx i) (s.cycleNumber i)) other

/-- The Cycle Number in two words, while Self-Test Cycles has room. -/
theorem State.cycleNumber_words (room : (s.sock i).ex.cycles < 4294967295) : words32 (s.cycleNumber i) =
    [BitVec.ofNat 16 (((s.sock i).ex.cycles + 1) % 65536), BitVec.ofNat 16 (((s.sock i).ex.cycles + 1) / 65536)] := by
  have number : s.cycleNumber i = BitVec.ofNat 32 ((s.sock i).ex.cycles + 1) := if_pos room
  rw [number]
  exact natWords32_eq _ (by omega)

theorem exec_selftestTimeout (live : s.pins.por = false) (due : (s.sock i).ex.timeoutDue s.time.runMs = true) :
    exec (.selftestTimeout i) s = .next (s.selftestTimeout i) :=
  congrArg Host.Outcome.next ((s.live_of_released _ live).trans (if_pos due))

end

theorem Exercise.timeoutDue_of (now : Word32) (e : Exercise) (x : Word32) (cycle : e.cycle = .awaitingDone)
    (expiry : e.expiry = some x) (come : (now - x).toNat < 2147483648) : e.timeoutDue now = true := by
  unfold Exercise.timeoutDue
  rw [cycle, expiry]
  simpa [reached] using come

/-- Settles O58: the three works of a cycle at a vector's end, and its timeout. -/
theorem selfTestCyclesPulseAndTimeOut : Obligations.SelfTestCyclesPulseAndTimeOut := by
  intro s i recv loop k live e
  have vector := s.vectorEvent_cycleMoves i recv loop k
  have after := s.cycleAfter_moves i recv loop
  have blocks := s.vectorEvent_blocks recv loop k
  refine ⟨fun l noBoundary latched cycle completes => ?_, fun l noBoundary latched cycle completes => ?_,
    fun l noBoundary latched goesOn inside => ?_, fun x cycle expiry come => ?_⟩
  · obtain ⟨y, moves, begins⟩ := after (.inl cycle)
    have pulse := begins.trans (Socket.cycleMoves_pulseBegins moves latched cycle completes).1
    have now := Socket.cycleMoves_pulseBegins (vector (.inl cycle)) latched cycle completes
    obtain ⟨-, -, -, acct⟩ := vector (.inl cycle)
    exact ⟨_, exec_startPulseBegin s i recv loop k live noBoundary cycle pulse,
      exec_laneVectorSample s recv loop k live noBoundary, blocks, now.1, now.2, acct⟩
  · obtain ⟨y, moves, ends⟩ := after (.inr (.inl cycle))
    have waits := ends.trans (Socket.cycleMoves_pulseEnds moves latched cycle completes).1
    obtain ⟨nowCycle, count, due⟩ := Socket.cycleMoves_pulseEnds (vector (.inr (.inl cycle))) latched cycle completes
    obtain ⟨-, -, -, acct⟩ := vector (.inr (.inl cycle))
    exact ⟨_, exec_startPulseEnd s i recv loop k live noBoundary cycle waits,
      exec_laneVectorSample s recv loop k live noBoundary, blocks, nowCycle, count, due, acct⟩
  · have calm : (s.sock i).ex.cycle = .startDelay ∨ (s.sock i).ex.cycle = .startPulse ∨
        (s.sock i).ex.risesDone (lanesOf recv i) = false := by
      rcases goesOn with ⟨is, -⟩ | ⟨is, -⟩ | ⟨-, noEdge⟩
      · exact .inl is
      · exact .inr (.inl is)
      · refine .inr (.inr ?_)
        unfold Exercise.risesDone
        rw [show (s.sock i).ex.latched = some l from latched]
        dsimp only
        rw [lanesOf_bit recv i l.doneLane inside]
        rcases noEdge with low | high
        · rw [low, Bool.false_and]
        · rw [show (s.sock i).ex.prevRecv.getLsbD l.doneLane = true from high, Bool.not_true, Bool.and_false]
    exact ⟨_, exec_laneVectorSample s recv loop k live noBoundary, Socket.cycleMoves_counts (vector calm) latched
      (goesOn.imp_right (.imp_right And.left))⟩
  · have due : e.timeoutDue s.time.runMs = true := e.timeoutDue_of s.time.runMs x cycle expiry come
    have sock := s.selftestTimeout_sock i
    let d := words32 (s.cycleNumber i)
    let y := (s.sock i).cycleExpired
    have halts := y.takeCondition_halts (s.ctx i) .selftestTimeout 0 d
    refine ⟨s.selftestTimeout i, exec_selftestTimeout s i live due, ?_, fun room => if_pos room,
      fun j other => s.selftestTimeout_sock_ne i other, ?_, ?_, ?_, ?_, ⟨d, rfl, s.cycleNumber_words i, ?_⟩, fun stays => ?_⟩
    · exact s.selftestTimeout_eq i
    · rw [sock]
      rcases y.takeCondition_cycle (s.ctx i) .selftestTimeout 0 d with ⟨-, none⟩ | ⟨-, none⟩ <;> exact none
    · rw [sock]
      exact congrArg (·.cycles) halts
    · rw [sock]
      exact congrArg (·.lastDuration) halts
    · rw [sock]
      exact congrArg (·.spurious) halts
    · rw [sock]
      exact y.takeCondition_conditionTaken (s.ctx i) .selftestTimeout 0 d (.inl nofun)
    · obtain ⟨a, is⟩ := y.takeCondition_stays (s.ctx i) .selftestTimeout 0 d (.inl nofun) stays
      rw [sock, is]
      exact ⟨rfl, rfl⟩

end Sys2Proof.Machine
end

section
/-! What the frame boundary does to an exercise and to a socket (R124, sections 8.1, 8.5, 8.6, 9.1 to 9.5). -/

namespace Sys2Proof.Machine

/-! ## The steps of a boundary for one exercise -/

theorem Exercise.startCycle_starts (n : Numbers) (e : Exercise) : cycleStarts n (e.startCycle n) :=
  ⟨rfl, rfl, rfl, rfl, rfl⟩

/-- A cycle start reads of an exercise only its cycle. -/
theorem cycleStarts_of_same {n : Numbers} {e f : Exercise} (starts : cycleStarts n e) (latched : f.latched = e.latched)
    (count : f.vectorCount = e.vectorCount) (held : f.heldSpurious = e.heldSpurious) (expiry : f.expiry = e.expiry)
    (cycle : f.cycle = e.cycle) : cycleStarts n f := by
  unfold cycleStarts
  rw [latched, count, held, expiry, cycle]
  exact starts

/-- Skip counts at the Delays of a map. -/
def Exercise.skipsAt (m : LaneMap) (i : SocketIx) (e : Exercise) : Prop := ∀ l : LaneIx, e.skip[l] = m[i][l].delay

theorem Exercise.setSkips_skipsAt (m : LaneMap) (i : SocketIx) (e : Exercise) : (e.setSkips m i).skipsAt m i :=
  fun _ => Vector.getElem_ofFn _

/-- The exercise with the skip counts of the entries that a swap changed at their Delays (R143). -/
def Exercise.swapSkips (old new : LaneMap) (i : SocketIx) (e : Exercise) : Exercise :=
  { e with skip := Vector.ofFn fun l => if old[i][l] = new[i][l] then e.skip[l] else new[i][l].delay }

/-- The exercise after the swap of a boundary, where one is pending. -/
def Exercise.swapped (old new : LaneMap) (swap unfit : Bool) (i : SocketIx) (e : Exercise) : Exercise :=
  if swap then (if unfit then (e.swapSkips old new i).suspend else e.swapSkips old new i) else e

/-- Steps 2, 4, 5 and 6 of R124 for one exercise. -/
def Exercise.nextFrame (old new : LaneMap) (swap unfit diag : Bool) (i : SocketIx) (n : Numbers) (e : Exercise) : Exercise :=
  (((e.latchFrame n).swapped old new swap unfit i).takeMode new i n).runStep new i n diag

section
variable (old m : LaneMap) (swap unfit diag : Bool) (i : SocketIx) (n : Numbers) (e : Exercise)

/-- A suspension of an exercise whose frame has just begun. -/
theorem Exercise.suspend_keeps (lanes : e.frameLane = Vector.replicate 16 0) (total : e.frameTotal = 0) :
    e.suspend = { e with
      st := e.suspend.st, suspendFlag := e.suspend.suspendFlag, skip := e.suspend.skip, cycle := e.suspend.cycle
      latched := e.suspend.latched
      expiry := e.suspend.expiry, heldSpurious := e.suspend.heldSpurious } := by
  obtain ⟨⟩ := e
  obtain rfl : _ = _ := lanes
  obtain rfl : _ = _ := total
  unfold Exercise.suspend
  split <;> rfl

theorem Exercise.suspend_running (runs : e.st = .armed ∨ e.st = .running) :
    e.suspend.st = .suspended ∧ e.suspend.cycle = .noCycle := by
  unfold Exercise.suspend
  rcases runs with is | is <;> rw [is] <;> exact ⟨rfl, rfl⟩

theorem Exercise.suspend_other (notArmed : e.st ≠ .armed) (notRunning : e.st ≠ .running) :
    e.suspend = { e with suspendFlag := true } := by
  unfold Exercise.suspend
  split
  · contradiction
  · contradiction
  · rfl

/-- The swap changes skip counts and, where the roles do not fit, what a suspension changes. -/
theorem Exercise.swapped_keeps (lanes : e.frameLane = Vector.replicate 16 0) (total : e.frameTotal = 0) :
    let r := e.swapped old m swap unfit i
    r = { e with
      st := r.st, suspendFlag := r.suspendFlag, skip := r.skip, cycle := r.cycle, latched := r.latched
      expiry := r.expiry, heldSpurious := r.heldSpurious } := by
  unfold Exercise.swapped
  dsimp only
  split
  · split
    · exact (e.swapSkips old m i).suspend_keeps lanes total
    · simp only [Exercise.swapSkips]
  · rfl

theorem Exercise.suspend_skip : e.suspend.skip = e.skip := by
  unfold Exercise.suspend
  split <;> rfl

theorem Exercise.swapped_skip (l : LaneIx) : (e.swapped old m swap unfit i).skip[l] =
    if swap = true ∧ old[i][l] ≠ m[i][l] then m[i][l].delay else e.skip[l] := by
  have skips : (e.swapSkips old m i).skip[l] = if old[i][l] = m[i][l] then e.skip[l] else m[i][l].delay :=
    Vector.getElem_ofFn _
  unfold Exercise.swapped
  cases swap with
  | false => rw [if_neg nofun, if_neg (fun swaps => nomatch swaps.1)]
  | true =>
    have same : ((if unfit then (e.swapSkips old m i).suspend else e.swapSkips old m i).skip) = (e.swapSkips old m i).skip := by
      split
      · exact Exercise.suspend_skip _
      · rfl
    rw [if_pos rfl, same, skips]
    by_cases stands : old[i][l] = m[i][l]
    · rw [if_pos stands, if_neg fun swaps => swaps.2 stands]
    · rw [if_neg stands, if_pos ⟨rfl, stands⟩]

/-- Without a swap, or with roles that fit, only skip counts change. -/
theorem Exercise.swapped_fit (fit : ¬(swap = true ∧ unfit = true)) :
    e.swapped old m swap unfit i = { e with skip := (e.swapped old m swap unfit i).skip } := by
  unfold Exercise.swapped
  cases swap with
  | false => rfl
  | true =>
    cases unfit with
    | false => rfl
    | true => exact absurd ⟨rfl, rfl⟩ fit

/-- The exercise with its pending mode taken, a self-test cycle dropped with the mode SELFTEST. -/
def Exercise.changeMode (e : Exercise) : Exercise :=
  let e := if e.mode = .selftest then { e with cycle := .noCycle, latched := none, expiry := none, heldSpurious := 0 }
    else e
  { e with mode := e.pendingMode }

theorem Exercise.changeMode_leaves (mode : e.mode = .selftest) :
    e.changeMode.cycle = .noCycle ∧ e.changeMode.latched = none ∧ e.changeMode.expiry = none := by
  unfold Exercise.changeMode
  rw [if_pos mode]
  exact ⟨rfl, rfl, rfl⟩

/-- A cycle that does not run stays so. -/
theorem Exercise.changeMode_noCycle (idle : e.cycle = .noCycle) : e.changeMode.cycle = .noCycle := by
  unfold Exercise.changeMode
  dsimp only
  split
  · rfl
  · exact idle

/-- What a mode does where it comes into force. -/
def Exercise.enterMode (m : LaneMap) (i : SocketIx) (n : Numbers) (e : Exercise) : Exercise :=
  match e.mode with
  | .idle => e
  | .pattern =>
    let r := { e with onsetArmed := true }
    if r.st = .running then r.setSkips m i else r
  | .selftest => if e.st = .running then e.startCycle n else e

theorem Exercise.takeMode_same (same : e.pendingMode = e.mode) : e.takeMode m i n = e := if_pos same

theorem Exercise.takeMode_changes (changes : e.pendingMode ≠ e.mode) :
    e.takeMode m i n = e.changeMode.enterMode m i n := if_neg changes

section
variable {e}

theorem Exercise.enterMode_idle (mode : e.mode = .idle) : e.enterMode m i n = e := by
  unfold Exercise.enterMode
  rw [mode]

theorem Exercise.enterMode_pattern (mode : e.mode = .pattern) : e.enterMode m i n =
    (let r := { e with onsetArmed := true }
    if r.st = .running then r.setSkips m i else r) := by
  unfold Exercise.enterMode
  rw [mode]

theorem Exercise.enterMode_selftest (mode : e.mode = .selftest) :
    e.enterMode m i n = if e.st = .running then e.startCycle n else e := by
  unfold Exercise.enterMode
  rw [mode]

end

/-- What steps 4 to 6 of a boundary leave of an exercise. -/
structure Exercise.Frames (a b : Exercise) : Prop where
  pendingMode : b.pendingMode = a.pendingMode
  winStart : b.winStart = a.winStart
  winLength : b.winLength = a.winLength
  threshold : b.threshold = a.threshold
  frameLane : b.frameLane = a.frameLane
  frameTotal : b.frameTotal = a.frameTotal
  framesRun : b.framesRun = a.framesRun
  framesFailed : b.framesFailed = a.framesFailed
  laneErr : b.laneErr = a.laneErr
  diagErrors : b.diagErrors = a.diagErrors
  diagResult : b.diagResult = a.diagResult

theorem Exercise.Frames.refl : e.Frames e := ⟨rfl, rfl, rfl, rfl, rfl, rfl, rfl, rfl, rfl, rfl, rfl⟩

theorem Exercise.Frames.trans {a b d : Exercise} (h : a.Frames b) (k : b.Frames d) : a.Frames d :=
  ⟨k.pendingMode.trans h.pendingMode, k.winStart.trans h.winStart, k.winLength.trans h.winLength,
    k.threshold.trans h.threshold, k.frameLane.trans h.frameLane, k.frameTotal.trans h.frameTotal,
    k.framesRun.trans h.framesRun, k.framesFailed.trans h.framesFailed, k.laneErr.trans h.laneErr,
    k.diagErrors.trans h.diagErrors, k.diagResult.trans h.diagResult⟩

theorem Exercise.swapped_frames (lanes : e.frameLane = Vector.replicate 16 0) (total : e.frameTotal = 0) :
    e.Frames (e.swapped old m swap unfit i) ∧ (e.swapped old m swap unfit i).mode = e.mode ∧
      (e.swapped old m swap unfit i).onsetArmed = e.onsetArmed := by
  have keeps := e.swapped_keeps old m swap unfit i lanes total
  dsimp only at keeps
  rw [keeps]
  exact ⟨⟨rfl, rfl, rfl, rfl, rfl, rfl, rfl, rfl, rfl, rfl, rfl⟩, rfl, rfl⟩

theorem Exercise.changeMode_frames : e.Frames e.changeMode ∧ e.changeMode.mode = e.pendingMode ∧
    e.changeMode.st = e.st ∧ e.changeMode.suspendFlag = e.suspendFlag ∧ e.changeMode.skip = e.skip ∧
    e.changeMode.onsetArmed = e.onsetArmed := by
  unfold Exercise.changeMode
  dsimp only
  split <;> exact ⟨⟨rfl, rfl, rfl, rfl, rfl, rfl, rfl, rfl, rfl, rfl, rfl⟩, rfl, rfl, rfl, rfl, rfl⟩

theorem Exercise.setSkips_frames : e.Frames (e.setSkips m i) ∧ (e.setSkips m i).mode = e.mode ∧
    (e.setSkips m i).st = e.st ∧ (e.setSkips m i).suspendFlag = e.suspendFlag := by
  unfold Exercise.setSkips
  exact ⟨⟨rfl, rfl, rfl, rfl, rfl, rfl, rfl, rfl, rfl, rfl, rfl⟩, rfl, rfl, rfl⟩

theorem Exercise.enterMode_frames : e.Frames (e.enterMode m i n) ∧ (e.enterMode m i n).mode = e.mode ∧
    (e.enterMode m i n).st = e.st ∧ (e.enterMode m i n).suspendFlag = e.suspendFlag := by
  cases mode : e.mode with
  | idle =>
    rw [Exercise.enterMode_idle m i n mode, mode]
    exact ⟨.refl e, rfl, rfl, rfl⟩
  | pattern =>
    have armed : e.Frames { e with onsetArmed := true } := ⟨rfl, rfl, rfl, rfl, rfl, rfl, rfl, rfl, rfl, rfl, rfl⟩
    obtain ⟨frames, skipsMode, st, flag⟩ := Exercise.setSkips_frames m i { e with onsetArmed := true }
    rw [Exercise.enterMode_pattern m i n mode]
    dsimp only
    split
    · exact ⟨armed.trans frames, skipsMode.trans mode, st, flag⟩
    · exact ⟨armed, mode, rfl, rfl⟩
  | selftest =>
    rw [Exercise.enterMode_selftest m i n mode]
    split
    · exact ⟨⟨rfl, rfl, rfl, rfl, rfl, rfl, rfl, rfl, rfl, rfl, rfl⟩, mode, rfl, rfl⟩
    · exact ⟨.refl e, mode, rfl, rfl⟩

theorem Exercise.takeMode_frames : e.Frames (e.takeMode m i n) ∧ (e.takeMode m i n).mode = e.pendingMode ∧
    (e.takeMode m i n).st = e.st ∧ (e.takeMode m i n).suspendFlag = e.suspendFlag := by
  by_cases same : e.pendingMode = e.mode
  · rw [e.takeMode_same m i n same]
    exact ⟨.refl e, same.symm, rfl, rfl⟩
  · rw [e.takeMode_changes m i n same]
    obtain ⟨frames, mode, st, flag, -⟩ := e.changeMode_frames
    obtain ⟨entered, enteredMode, enteredSt, enteredFlag⟩ := e.changeMode.enterMode_frames m i n
    exact ⟨frames.trans entered, enteredMode.trans mode, enteredSt.trans st, enteredFlag.trans flag⟩

/-- PATTERN coming into force arms the onset flag; a socket that runs takes its skip counts. -/
theorem Exercise.takeMode_toPattern (new : e.pendingMode = .pattern) (changes : e.mode ≠ .pattern) :
    (e.takeMode m i n).onsetArmed = true ∧
      (e.st = .running → (e.takeMode m i n).skipsAt m i) ∧
      (e.st ≠ .running → (e.takeMode m i n).skip = e.skip) := by
  obtain ⟨-, mode, st, -, skip, -⟩ := e.changeMode_frames
  rw [e.takeMode_changes m i n (by rw [new]; exact changes.symm), Exercise.enterMode_pattern m i n (mode.trans new)]
  dsimp only
  rw [st]
  by_cases runs : e.st = .running
  · rw [if_pos runs]
    exact ⟨rfl, fun _ => Exercise.setSkips_skipsAt m i _, fun idle => absurd runs idle⟩
  · rw [if_neg runs]
    exact ⟨rfl, fun r => absurd r runs, fun _ => skip⟩

/-- Any other change of mode, and none, leaves skip counts and onset flag. -/
theorem Exercise.takeMode_other (other : e.pendingMode ≠ .pattern ∨ e.mode = .pattern) :
    (e.takeMode m i n).skip = e.skip ∧ (e.takeMode m i n).onsetArmed = e.onsetArmed := by
  by_cases same : e.pendingMode = e.mode
  · rw [e.takeMode_same m i n same]
    exact ⟨rfl, rfl⟩
  obtain ⟨-, mode, st, -, skip, onset⟩ := e.changeMode_frames
  rw [e.takeMode_changes m i n same]
  cases new : e.pendingMode with
  | idle =>
    rw [Exercise.enterMode_idle m i n (mode.trans new)]
    exact ⟨skip, onset⟩
  | pattern => rcases other with not | is <;> simp_all
  | selftest =>
    rw [Exercise.enterMode_selftest m i n (mode.trans new)]
    split <;> exact ⟨skip, onset⟩

theorem Exercise.takeMode_toSelftest (new : e.pendingMode = .selftest) (changes : e.mode ≠ .selftest)
    (runs : e.st = .running) : cycleStarts n (e.takeMode m i n) := by
  obtain ⟨-, mode, st, -⟩ := e.changeMode_frames
  rw [e.takeMode_changes m i n (by rw [new]; exact changes.symm), Exercise.enterMode_selftest m i n (mode.trans new),
    if_pos (st.trans runs)]
  exact Exercise.startCycle_starts n _

theorem Exercise.takeMode_fromSelftest (mode : e.mode = .selftest) (changes : e.pendingMode ≠ .selftest) :
    (e.takeMode m i n).cycle = .noCycle ∧ (e.takeMode m i n).latched = none ∧ (e.takeMode m i n).expiry = none := by
  have left := e.changeMode_leaves mode
  obtain ⟨-, newMode, -⟩ := e.changeMode_frames
  rw [e.takeMode_changes m i n (by rw [mode]; exact changes)]
  cases new : e.pendingMode with
  | idle =>
    rw [Exercise.enterMode_idle m i n (newMode.trans new)]
    exact left
  | pattern =>
    rw [Exercise.enterMode_pattern m i n (newMode.trans new)]
    dsimp only
    split <;> exact left
  | selftest => exact absurd new changes

/-- A cycle that does not run begins only in a socket that runs. -/
theorem Exercise.takeMode_noCycle (idle : e.cycle = .noCycle) (stands : e.st ≠ .running) :
    (e.takeMode m i n).cycle = .noCycle := by
  by_cases same : e.pendingMode = e.mode
  · rw [e.takeMode_same m i n same]
    exact idle
  have left := e.changeMode_noCycle idle
  obtain ⟨-, -, st, -⟩ := e.changeMode_frames
  rw [e.takeMode_changes m i n same]
  unfold Exercise.enterMode
  split
  · exact left
  · dsimp only
    split <;> exact left
  · rw [if_neg (by rw [st]; exact stands)]
    exact left

/-- A socket that does not run keeps its skip counts. -/
theorem Exercise.takeMode_skip (stands : e.st ≠ .running) : (e.takeMode m i n).skip = e.skip := by
  by_cases enters : e.pendingMode = .pattern ∧ e.mode ≠ .pattern
  · exact (e.takeMode_toPattern m i n enters.1 enters.2).2.2 stands
  · exact (e.takeMode_other m i n (Decidable.or_iff_not_imp_left.mpr fun pattern =>
      Decidable.byContradiction fun other => enters ⟨Decidable.not_not.mp pattern, other⟩)).1

/-! ## Step 6 (R134, R137, R143, R149) -/

theorem Exercise.runStep_stands (notArmed : e.st ≠ .armed) : e.runStep m i n false = e :=
  (if_neg notArmed).trans (if_neg nofun)

theorem Exercise.runStep_diag (notArmed : e.st ≠ .armed) :
    e.runStep m i n true = { e with st := .diag, diagCount := 0 } := (if_neg notArmed).trans (if_pos rfl)

/-- An ARMED exercise begins in its mode. -/
theorem Exercise.runStep_armed (armed : e.st = .armed) : let r := e.runStep m i n diag
    r.st = .running ∧ r.suspendFlag = e.suspendFlag ∧
      (e.mode = .selftest → cycleStarts n r) ∧ (e.mode = .pattern → r.skipsAt m i) ∧
      (e.mode ≠ .pattern → r.skip = e.skip) := by
  unfold Exercise.runStep
  rw [if_pos armed]
  dsimp only
  cases e.mode with
  | idle => exact ⟨rfl, rfl, nofun, nofun, fun _ => rfl⟩
  | pattern => exact ⟨rfl, rfl, nofun, fun _ => Exercise.setSkips_skipsAt m i _, fun not => absurd rfl not⟩
  | selftest => exact ⟨rfl, rfl, fun _ => Exercise.startCycle_starts n _, nofun, fun _ => rfl⟩

theorem Exercise.runStep_frames : e.Frames (e.runStep m i n diag) ∧ (e.runStep m i n diag).mode = e.mode ∧
    (e.runStep m i n diag).onsetArmed = e.onsetArmed := by
  unfold Exercise.runStep
  split
  · dsimp only
    split <;> exact ⟨⟨rfl, rfl, rfl, rfl, rfl, rfl, rfl, rfl, rfl, rfl, rfl⟩, rfl, rfl⟩
  · split
    · exact ⟨⟨rfl, rfl, rfl, rfl, rfl, rfl, rfl, rfl, rfl, rfl, rfl⟩, rfl, rfl⟩
    · exact ⟨.refl e, rfl, rfl⟩

/-! ## The steps together -/

theorem Exercise.nextFrame_frames : let r := e.nextFrame old m swap unfit diag i n
    (e.latchFrame n).Frames r ∧ r.mode = e.pendingMode ∧
      (e.pendingMode = .pattern → e.mode ≠ .pattern → r.onsetArmed = true) ∧
      (e.mode = .pattern → r.onsetArmed = e.onsetArmed) := by
  let a := e.latchFrame n
  let b := a.swapped old m swap unfit i
  obtain ⟨swaps, swapMode, swapOnset⟩ := a.swapped_frames old m swap unfit i rfl rfl
  obtain ⟨takes, takeMode, -⟩ := b.takeMode_frames m i n
  obtain ⟨runs, runMode, runOnset⟩ := (b.takeMode m i n).runStep_frames m diag i n
  exact ⟨(swaps.trans takes).trans runs, runMode.trans (takeMode.trans swaps.pendingMode),
    fun new changes => runOnset.trans (b.takeMode_toPattern m i n (swaps.pendingMode.trans new)
      (by rw [swapMode]; exact changes)).1,
    fun stays => runOnset.trans ((b.takeMode_other m i n (.inr (swapMode.trans stays))).2.trans swapOnset)⟩

/-- Skip counts after a boundary that moves only those of the entries that a swap changed. -/
def Exercise.skipsSwapped (old m : LaneMap) (swap : Bool) (i : SocketIx) (e r : Exercise) : Prop :=
  ∀ l : LaneIx, r.skip[l] = if swap = true ∧ old[i][l] ≠ m[i][l] then m[i][l].delay else e.skip[l]

theorem Exercise.swapped_skipsSwapped {r : Exercise}
    (same : r.skip = ((e.latchFrame n).swapped old m swap unfit i).skip) : e.skipsSwapped old m swap i r := by
  intro l
  rw [same]
  exact (e.latchFrame n).swapped_skip old m swap unfit i l

/-- A socket that neither is ARMED nor runs stays in its exercise state. -/
theorem Exercise.nextFrame_st (notArmed : e.st ≠ .armed) (notRunning : e.st ≠ .running) :
    (e.nextFrame old m swap unfit false i n).st = e.st := by
  let a := e.latchFrame n
  have stands : (a.swapped old m swap unfit i).st = e.st := by
    unfold Exercise.swapped
    split
    · split
      · rw [(a.swapSkips old m i).suspend_other notArmed notRunning]
        rfl
      · rfl
    · rfl
  obtain ⟨-, -, st, -⟩ := (a.swapped old m swap unfit i).takeMode_frames m i n
  refine (congrArg (·.st) (Exercise.runStep_stands m i n _ ?_)).trans (st.trans stands)
  rw [st, stands]
  exact notArmed

/-- A stopped socket that the boundary diagnoses enters DIAG. -/
theorem Exercise.nextFrame_diag (stopped : e.st = .stopped) :
    (e.nextFrame old m swap unfit true i n).st = .diag ∧ (e.nextFrame old m swap unfit true i n).diagCount = 0 := by
  let a := e.latchFrame n
  have stands : (a.swapped old m swap unfit i).st = .stopped := by
    unfold Exercise.swapped
    split
    · split
      · rw [(a.swapSkips old m i).suspend_other (by change e.st ≠ _; rw [stopped]; nofun)
          (by change e.st ≠ _; rw [stopped]; nofun)]
        exact stopped
      · exact stopped
    · exact stopped
  obtain ⟨-, -, st, -⟩ := (a.swapped old m swap unfit i).takeMode_frames m i n
  have enters := Exercise.runStep_diag m i n ((a.swapped old m swap unfit i).takeMode m i n)
    (by rw [st, stands]; nofun)
  exact ⟨congrArg (·.st) enters, congrArg (·.diagCount) enters⟩

/-- A swap that the roles do not fit suspends an ARMED and a RUNNING exercise (R133). -/
theorem Exercise.nextFrame_unfit (swaps : swap = true) (roles : unfit = true) :
    let r := e.nextFrame old m swap unfit false i n
    r.suspendFlag = true ∧ (e.st = .armed ∨ e.st = .running →
      r.st = .suspended ∧ r.cycle = .noCycle ∧ e.skipsSwapped old m swap i r) := by
  subst swaps roles
  let f := (e.latchFrame n).swapSkips old m i
  have is : (e.latchFrame n).swapped old m true true i = f.suspend := rfl
  have flagged : f.suspend.suspendFlag = true := by
    unfold Exercise.suspend
    split <;> rfl
  have notArmed : f.suspend.st ≠ .armed := by
    by_cases armed : f.st = .armed ∨ f.st = .running
    · rw [(f.suspend_running armed).1]
      nofun
    · rw [f.suspend_other (fun h => armed (.inl h)) (fun h => armed (.inr h))]
      exact fun h => armed (.inl h)
  obtain ⟨-, -, st, flag⟩ := f.suspend.takeMode_frames m i n
  have stands : e.nextFrame old m true true false i n = f.suspend.takeMode m i n :=
    Exercise.runStep_stands m i n _ (by rw [is, st]; exact notArmed)
  dsimp only
  rw [stands]
  refine ⟨flag.trans flagged, fun runs => ?_⟩
  obtain ⟨suspended, noCycle⟩ := f.suspend_running runs
  have idle : f.suspend.st ≠ .running := by
    rw [suspended]
    nofun
  exact ⟨st.trans suspended, f.suspend.takeMode_noCycle m i n noCycle idle,
    e.swapped_skipsSwapped old m true true i n (f.suspend.takeMode_skip m i n idle)⟩

section
variable (fit : ¬(swap = true ∧ unfit = true))
include fit

/-- The swap of a boundary whose roles fit, with its skip counts. -/
theorem Exercise.latched_fit : let b := (e.latchFrame n).swapped old m swap unfit i
    b.st = e.st ∧ b.mode = e.mode ∧ b.pendingMode = e.pendingMode ∧ b.suspendFlag = e.suspendFlag ∧
      b.cycle = e.cycle ∧ b.latched = e.latched ∧ b.vectorCount = e.vectorCount ∧ b.expiry = e.expiry ∧
      b.heldSpurious = e.heldSpurious := by
  have only := (e.latchFrame n).swapped_fit old m swap unfit i fit
  exact ⟨congrArg (·.st) only, congrArg (·.mode) only, congrArg (·.pendingMode) only, congrArg (·.suspendFlag) only,
    congrArg (·.cycle) only, congrArg (·.latched) only, congrArg (·.vectorCount) only, congrArg (·.expiry) only,
    congrArg (·.heldSpurious) only⟩

theorem Exercise.nextFrame_flag : (e.nextFrame old m swap unfit false i n).suspendFlag = e.suspendFlag := by
  let b := (e.latchFrame n).swapped old m swap unfit i
  obtain ⟨-, -, -, flag, -⟩ := e.latched_fit old m swap unfit i n fit
  obtain ⟨-, -, st, takes⟩ := b.takeMode_frames m i n
  by_cases armed : (b.takeMode m i n).st = .armed
  · exact ((b.takeMode m i n).runStep_armed m false i n armed).2.1.trans (takes.trans flag)
  · exact (congrArg (·.suspendFlag) (Exercise.runStep_stands m i n _ armed)).trans (takes.trans flag)

/-- An ARMED exercise begins (R134). -/
theorem Exercise.nextFrame_armed (armed : e.st = .armed) : let r := e.nextFrame old m swap unfit false i n
    r.st = .running ∧ (e.pendingMode = .selftest → cycleStarts n r) ∧
      (e.pendingMode = .pattern → r.skipsAt m i) ∧ (e.pendingMode ≠ .pattern → e.skipsSwapped old m swap i r) := by
  let b := (e.latchFrame n).swapped old m swap unfit i
  obtain ⟨sameSt, -, samePending, -⟩ := e.latched_fit old m swap unfit i n fit
  obtain ⟨-, mode, st, -⟩ := b.takeMode_frames m i n
  have takes := mode.trans samePending
  obtain ⟨runs, -, starts, delays, skips⟩ :=
    (b.takeMode m i n).runStep_armed m false i n (st.trans (sameSt.trans armed))
  refine ⟨runs, fun new => starts (takes.trans new), fun new => delays (takes.trans new), fun new => ?_⟩
  refine e.swapped_skipsSwapped old m swap unfit i n ((skips (by rw [takes]; exact new)).trans ?_)
  exact (b.takeMode_other m i n (.inl (by rw [samePending]; exact new))).1

/-- A RUNNING exercise runs on (R136, R143, R149). -/
theorem Exercise.nextFrame_running (runs : e.st = .running) : let r := e.nextFrame old m swap unfit false i n
    r.st = .running ∧ (e.pendingMode = .pattern → e.mode ≠ .pattern → r.skipsAt m i) ∧
      (e.pendingMode ≠ .pattern ∨ e.mode = .pattern → e.skipsSwapped old m swap i r) ∧
      (e.pendingMode = .selftest → e.mode ≠ .selftest → cycleStarts n r) ∧
      (e.mode = .selftest → e.pendingMode = .selftest → r.cycle = e.cycle ∧ r.latched = e.latched ∧
        r.vectorCount = e.vectorCount ∧ r.expiry = e.expiry ∧ r.heldSpurious = e.heldSpurious) ∧
      (e.mode = .selftest → e.pendingMode ≠ .selftest → r.cycle = .noCycle ∧ r.latched = none ∧ r.expiry = none) := by
  let b := (e.latchFrame n).swapped old m swap unfit i
  obtain ⟨sameSt, sameMode, samePending, -, cycle, latched, count, expiry, held⟩ := e.latched_fit old m swap unfit i n fit
  obtain ⟨-, -, st, -⟩ := b.takeMode_frames m i n
  have running : (b.takeMode m i n).st = .running := st.trans (sameSt.trans runs)
  have stands : e.nextFrame old m swap unfit false i n = b.takeMode m i n :=
    Exercise.runStep_stands m i n _ (by rw [running]; nofun)
  dsimp only
  rw [stands]
  refine ⟨running, fun new changes => ?_, fun other => ?_, fun new changes => ?_, fun mode new => ?_, fun mode changes => ?_⟩
  · exact (b.takeMode_toPattern m i n (samePending.trans new) (by rw [sameMode]; exact changes)).2.1 (sameSt.trans runs)
  · exact e.swapped_skipsSwapped old m swap unfit i n
      (b.takeMode_other m i n (by rw [samePending, sameMode]; exact other)).1
  · exact b.takeMode_toSelftest m i n (samePending.trans new) (by rw [sameMode]; exact changes) (sameSt.trans runs)
  · rw [b.takeMode_same m i n (by rw [samePending, sameMode, mode, new])]
    exact ⟨cycle, latched, count, expiry, held⟩
  · exact b.takeMode_fromSelftest m i n (sameMode.trans mode) (by rw [samePending]; exact changes)

end

end

end Sys2Proof.Machine
end

section
/-! The statement about the frame boundary (R124, R145, R146, R156; sections 8.1, 8.5, 8.6 and 9.1 to 9.5). -/

namespace Sys2Proof.Machine

/-! ## The close of a frame (step 1 of R124) -/

theorem getLsbD_foldl_twoPow {α : Type} (p : α → Bool) (f : α → Nat) (k : Nat) (inside : k < 16) (l : List α) (w : Word) :
    (l.foldl (fun w a => if p a then w ||| BitVec.twoPow 16 (f a) else w) w).getLsbD k =
      (w.getLsbD k || l.any fun a => p a && f a == k) := by
  induction l generalizing w with
  | nil => simp
  | cons a rest ih =>
    rw [List.foldl_cons, ih, List.any_cons, ← Bool.or_assoc]
    refine congrArg (· || _) ?_
    cases set : p a with
    | false => simp
    | true => simp [inside, eq_comm, Bool.beq_eq_decide_eq]

/-- The failing lane mask of a frame. -/
theorem Exercise.failMask_bit (e : Exercise) (l : LaneIx) :
    e.failMask.getLsbD l.val = decide (1 ≤ e.frameLane[l]) := by
  have folded := getLsbD_foldl_twoPow (fun l : LaneIx => decide (1 ≤ e.frameLane[l])) (fun l => l.val) l.val l.isLt
    (List.finRange 16) 0
  have mask : e.failMask = (List.finRange 16).foldl
      (fun w l => if (fun l : LaneIx => decide (1 ≤ e.frameLane[l])) l then w ||| BitVec.twoPow 16 l.val else w) 0 := by
    simp [Exercise.failMask]
  rw [mask, folded]
  refine Bool.eq_iff_iff.mpr ?_
  simp only [BitVec.ofNat_eq_ofNat, BitVec.getLsbD_zero, Bool.false_or, List.any_eq_true, Bool.and_eq_true,
    decide_eq_true_eq, beq_iff_eq]
  exact ⟨fun ⟨j, _, fails, is⟩ => by rwa [Fin.ext is] at fails, fun fails => ⟨l, List.mem_finRange l, fails, rfl⟩⟩

section
variable (c : Ctx) (frame : Word32) (x : Socket)

/-- The socket with its comparison frame closed, before its condition is handed on. -/
def Socket.frameClosed (x : Socket) : Socket := { x with ex := x.ex.closeFrame }

/-- The details of a COMPARE condition (R174). -/
def Exercise.compareDetails (frame : Word32) (e : Exercise) : List Word :=
  words32 frame ++ [e.failMask, natWord e.frameTotal]

theorem Socket.closeCompare_onset (bad : x.ex.threshold ≤ x.ex.frameTotal) (onset : x.ex.onsetArmed = true) :
    x.closeCompare c frame = x.frameClosed.takeCondition c .compare 0 (x.ex.compareDetails frame) := if_pos ⟨bad, onset⟩

theorem Socket.closeCompare_quiet (quiet : ¬(x.ex.threshold ≤ x.ex.frameTotal ∧ x.ex.onsetArmed = true)) :
    x.closeCompare c frame = x.frameClosed := if_neg quiet

theorem Exercise.closeFrame_counts (e : Exercise) : e.closeFrame.framesRun = min 4294967295 (e.framesRun + 1) ∧
    e.closeFrame.framesFailed =
      (if e.threshold ≤ e.frameTotal then min 4294967295 (e.framesFailed + 1) else e.framesFailed) ∧
    (∀ l : LaneIx, e.closeFrame.laneErr[l] = min 65535 (e.laneErr[l] + e.frameLane[l])) ∧
    (e.closeFrame.onsetArmed = true ↔ ¬e.threshold ≤ e.frameTotal) := by
  refine ⟨rfl, ?_, fun l => Vector.getElem_ofFn _, ?_⟩
  · simp only [Exercise.closeFrame, decide_eq_true_eq]
    rfl
  · simp [Exercise.closeFrame]

/-- The close of a comparison frame hands on a condition, or leaves the closed frame. -/
theorem Socket.closeCompare_halts : x.ex.closeFrame.Halts (x.closeCompare c frame).ex := by
  by_cases onset : x.ex.threshold ≤ x.ex.frameTotal ∧ x.ex.onsetArmed = true
  · rw [x.closeCompare_onset c frame onset.1 onset.2]
    exact x.frameClosed.takeCondition_halts c .compare 0 _
  · rw [x.closeCompare_quiet c frame onset]
    exact .refl _

/-- A frame whose close does not end the phase leaves the exercise as closed. -/
theorem Socket.closeCompare_stays (stays : ¬(x.ex.threshold ≤ x.ex.frameTotal ∧ x.ex.onsetArmed = true ∧
    conditionEnds .compare x)) : ∃ a, x.closeCompare c frame = x.frameClosed.accounted a := by
  by_cases onset : x.ex.threshold ≤ x.ex.frameTotal ∧ x.ex.onsetArmed = true
  · rw [x.closeCompare_onset c frame onset.1 onset.2]
    exact x.frameClosed.takeCondition_stays c .compare 0 _ (.inl nofun) fun ends => stays ⟨onset.1, onset.2, ends⟩
  · exact ⟨x.acct, x.closeCompare_quiet c frame onset⟩

/-- A condition that retires a STRESSING socket stops its exercise. -/
theorem Socket.closeCompare_ends (runs : x.ex.st = .running) (bad : x.ex.threshold ≤ x.ex.frameTotal)
    (onset : x.ex.onsetArmed = true) (ends : conditionEnds .compare x) (stressing : x.acct.phase = .stressing) :
    (x.closeCompare c frame).ex.st = .stopped := by
  obtain ⟨a, is⟩ := x.frameClosed.takeCondition_retired c .compare 0 (x.ex.compareDetails frame) (.inl nofun) ends
  have phase : (x.frameClosed.accounted a).acct.phase = .stressing := stressing
  have running : (x.frameClosed.accounted a).ex.st = .running := runs
  rw [x.closeCompare_onset c frame bad onset, is, Socket.retire_ex, phase]
  change (Exercise.halt _).st = _
  unfold Exercise.halt
  rw [running]

end

/-! ## The socket -/

section
variable (c : Ctx) (frame : Word32) (x : Socket)

theorem Socket.closeStep_diag (diag : x.ex.st = .diag) : x.closeStep c frame = x.closeDiag := by
  unfold Socket.closeStep
  rw [diag]

theorem Socket.closeStep_pattern (runs : x.ex.st = .running) (mode : x.ex.mode = .pattern) :
    x.closeStep c frame = x.closeCompare c frame := by
  unfold Socket.closeStep
  rw [runs, mode]

theorem Socket.closeStep_selftest (runs : x.ex.st = .running) (mode : x.ex.mode = .selftest) :
    x.closeStep c frame = if x.ex.cycle = .cycleEnded ∧ x.ex.pendingMode = .selftest then
      { x with ex := x.ex.startCycle x.gate.shadow.num } else x := by
  unfold Socket.closeStep
  rw [runs, mode]

theorem Socket.closeStep_other (calm : x.ex.st ≠ .diag ∧ (x.ex.st ≠ .running ∨ x.ex.mode = .idle)) :
    x.closeStep c frame = x := by
  obtain ⟨notDiag, other⟩ := calm
  unfold Socket.closeStep
  split
  · contradiction
  · simp_all
  · simp_all
  · rfl

/-- The socket with its diagnosis closed, before its report. -/
def Socket.diagClosed (x : Socket) : Socket := { x with ex := { x.ex with
  st := .stopped, diagErrors := x.ex.diagCount, diagResult := if x.ex.diagCount = 0 then .pass else .fail } }

theorem Socket.closeDiag_eq : x.closeDiag = if x.ex.diagCount = 0 then x.diagClosed else x.diagClosed.report .diagnosis := by
  unfold Socket.closeDiag Socket.diagClosed
  by_cases passes : x.ex.diagCount = 0 <;> simp [passes]

/-- A diagnosis closed leaves its socket STOPPED with its result. -/
theorem Socket.closeDiag_halts : x.diagClosed.ex.Halts x.closeDiag.ex ∧ x.closeDiag.ex.st = .stopped := by
  rw [x.closeDiag_eq]
  split
  · exact ⟨.refl _, rfl⟩
  · by_cases reports : x.diagClosed.acct.phase.reporting = true
    · rw [x.diagClosed.report_taken .diagnosis reports, Socket.retire_ex]
      refine ⟨Exercise.followPhase_retired_halts _ _, ?_⟩
      have st : x.diagClosed.ex.st = .stopped := rfl
      unfold Exercise.followPhase Exercise.halt
      (repeat' split) <;> first | exact st | contradiction
    · rw [x.diagClosed.report_dropped .diagnosis (by simpa using reports)]
      exact ⟨.refl _, rfl⟩

theorem Socket.closeDiag_gate : x.closeDiag.gate = x.gate := by
  rw [x.closeDiag_eq]
  split
  · rfl
  · exact Socket.report_gate _ _

theorem Socket.closeCompare_gate : (x.closeCompare c frame).gate = x.gate := by
  unfold Socket.closeCompare
  dsimp only
  split
  · exact Socket.takeCondition_gate ..
  · rfl

/-- What the close of a frame leaves: the settings, the modes, the suspension and the skip counts. -/
theorem Socket.closeStep_keeps : let y := x.closeStep c frame
    y.gate = x.gate ∧ y.ex.mode = x.ex.mode ∧ y.ex.pendingMode = x.ex.pendingMode ∧
      y.ex.suspendFlag = x.ex.suspendFlag ∧ y.ex.skip = x.ex.skip := by
  by_cases diag : x.ex.st = .diag
  · have halts := x.closeDiag_halts.1
    rw [x.closeStep_diag c frame diag]
    exact ⟨x.closeDiag_gate, congrArg (·.mode) halts, congrArg (·.pendingMode) halts, congrArg (·.suspendFlag) halts,
      congrArg (·.skip) halts⟩
  by_cases runs : x.ex.st = .running
  case neg =>
    rw [x.closeStep_other c frame ⟨diag, .inl runs⟩]
    exact ⟨rfl, rfl, rfl, rfl, rfl⟩
  cases mode : x.ex.mode with
  | idle =>
    rw [x.closeStep_other c frame ⟨diag, .inr mode⟩]
    exact ⟨rfl, mode, rfl, rfl, rfl⟩
  | pattern =>
    have halts := x.closeCompare_halts c frame
    rw [x.closeStep_pattern c frame runs mode]
    exact ⟨x.closeCompare_gate c frame, (congrArg (·.mode) halts).trans mode, congrArg (·.pendingMode) halts,
      congrArg (·.suspendFlag) halts, congrArg (·.skip) halts⟩
  | selftest =>
    rw [x.closeStep_selftest c frame runs mode]
    split <;> exact ⟨rfl, mode, rfl, rfl, rfl⟩

/-- A RUNNING exercise runs on through the close of its frame, unless that ends its phase. -/
theorem Socket.closeStep_runs (runs : x.ex.st = .running)
    (goesOn : ¬(x.ex.mode = .pattern ∧ x.ex.threshold ≤ x.ex.frameTotal ∧ x.ex.onsetArmed = true ∧
      conditionEnds .compare x)) : (x.closeStep c frame).ex.st = .running := by
  cases mode : x.ex.mode with
  | idle =>
    rw [x.closeStep_other c frame ⟨by rw [runs]; nofun, .inr mode⟩]
    exact runs
  | pattern =>
    obtain ⟨a, is⟩ := x.closeCompare_stays c frame fun ends => goesOn ⟨mode, ends⟩
    rw [x.closeStep_pattern c frame runs mode, is]
    exact runs
  | selftest =>
    rw [x.closeStep_selftest c frame runs mode]
    split <;> exact runs

/-- Whether the adopted settings of a socket are SELFTEST with roles that a map does not fit. -/
def Socket.unfit (m : LaneMap) (i : SocketIx) (x : Socket) : Bool :=
  Decidable.decide (x.gate.shadow.mode = .selftest ∧ rolesFit m i x.gate.shadow.num = false)

/-- The boundary of a socket is the close of its frame and the next frame of its exercise. -/
theorem Socket.boundary_ex (p : Pxr) (diag : Bool) (i : SocketIx) : (x.boundary c p diag i).ex =
    (x.closeStep c p.frameNumber).ex.nextFrame p.active p.nextMap p.swapPending (x.unfit p.nextMap i) diag i
      x.gate.shadow.num := by
  obtain ⟨gate, -⟩ := x.closeStep_keeps c p.frameNumber
  unfold Socket.boundary Exercise.nextFrame Exercise.swapped Socket.unfit
  dsimp only
  rw [gate]
  cases pending : p.swapPending with
  | false => rfl
  | true =>
    have map : p.nextMap = p.staging := by simp [Pxr.nextMap, pending]
    rw [map, if_pos rfl, if_pos rfl]
    unfold Socket.swapStep Socket.checkRoles
    dsimp only
    by_cases unfit : x.gate.shadow.mode = .selftest ∧ rolesFit p.staging i x.gate.shadow.num = false
    · rw [if_pos unfit, if_pos (decide_eq_true unfit)]
      rfl
    · rw [if_neg unfit, if_neg (by rw [decide_eq_true_eq]; exact unfit)]
      rfl

/-- Of the accounts the boundary changes beyond the close of the frame at most the spoil; the rail is the close's. -/
theorem Socket.boundary_acct (p : Pxr) (diag : Bool) (i : SocketIx) :
    (∃ b, (x.boundary c p diag i).acct = { (x.closeStep c p.frameNumber).acct with spoil := b }) ∧
      (x.boundary c p diag i).rail = (x.closeStep c p.frameNumber).rail := by
  unfold Socket.boundary
  dsimp only
  split
  · unfold Socket.swapStep Socket.checkRoles
    dsimp only
    split <;> exact ⟨⟨_, rfl⟩, rfl⟩
  · exact ⟨⟨_, rfl⟩, rfl⟩

end

section
variable (c : Ctx) (p : Pxr) (i : SocketIx) (x : Socket)

/-- Every boundary latches the window of the new frame and clears its counts. -/
theorem Socket.boundary_latches (diag : Bool) : let r := (x.boundary c p diag i).ex
    r.winStart = x.gate.shadow.num.winStart ∧ r.winLength = x.gate.shadow.num.winLength ∧
      r.threshold = x.gate.shadow.num.errThreshold ∧ r.frameLane = Vector.replicate 16 0 ∧ r.frameTotal = 0 := by
  obtain ⟨frames, -⟩ := (x.closeStep c p.frameNumber).ex.nextFrame_frames p.active p.nextMap p.swapPending
    (x.unfit p.nextMap i) diag i x.gate.shadow.num
  dsimp only at frames ⊢
  rw [x.boundary_ex c p diag i]
  exact ⟨frames.winStart, frames.winLength, frames.threshold, frames.frameLane, frames.frameTotal⟩

theorem Socket.unfit_iff (m : LaneMap) : x.unfit m i = true ↔
    x.gate.shadow.mode = .selftest ∧ rolesFit m i x.gate.shadow.num = false := decide_eq_true_iff

/-- A boundary that diagnoses nothing begins the next frame of a socket. -/
theorem Socket.boundary_begins : frameBegins p.active p.nextMap p.swapPending i x (x.boundary c p false i) := by
  let y := x.closeStep c p.frameNumber
  let n := x.gate.shadow.num
  let m := p.nextMap
  obtain ⟨-, mode, pending, flag, skip⟩ := x.closeStep_keeps c p.frameNumber
  obtain ⟨-, newMode, onset, -⟩ := y.ex.nextFrame_frames p.active m p.swapPending (x.unfit m i) false i n
  have skips {r : Exercise} (swapped : y.ex.skipsSwapped p.active m p.swapPending i r) (l : LaneIx) :
      r.skip[l] = if p.swapPending = true ∧ p.active[i][l] ≠ m[i][l] then m[i][l].delay else x.ex.skip[l] := by
    rw [← skip]
    exact swapped l
  unfold frameBegins
  dsimp only
  rw [x.boundary_ex c p false i]
  refine ⟨newMode.trans pending, fun new changes => onset (pending.trans new) (by rw [mode]; exact changes),
    fun ⟨swaps, unfit⟩ => ?_, fun fits => ?_, fun notArmed notRunning notDiag => ?_⟩
  · obtain ⟨suspends, stops⟩ := y.ex.nextFrame_unfit p.active m p.swapPending (x.unfit m i) i n swaps
      ((x.unfit_iff i m).mpr unfit)
    refine ⟨suspends, fun ran => ?_⟩
    have goes : y.ex.st = .armed ∨ y.ex.st = .running := by
      rcases ran with armed | ⟨runs, goesOn⟩
      · rw [show y = x from x.closeStep_other c p.frameNumber ⟨by rw [armed]; nofun, .inl (by rw [armed]; nofun)⟩]
        exact .inl armed
      · exact .inr (x.closeStep_runs c p.frameNumber runs goesOn)
    obtain ⟨st, cycle, swapped⟩ := stops goes
    exact ⟨st, cycle, skips swapped⟩
  · have fit : ¬(p.swapPending = true ∧ x.unfit m i = true) := fun ⟨swaps, unfit⟩ =>
      fits ⟨swaps, (x.unfit_iff i m).mp unfit⟩
    refine ⟨(y.ex.nextFrame_flag p.active m p.swapPending (x.unfit m i) i n fit).trans flag, fun armed => ?_,
      fun ⟨runs, goesOn⟩ => ?_⟩
    · have same : y = x := x.closeStep_other c p.frameNumber ⟨by rw [armed]; nofun, .inl (by rw [armed]; nofun)⟩
      obtain ⟨st, starts, delays, swapped⟩ := y.ex.nextFrame_armed p.active m p.swapPending (x.unfit m i) i n fit
        (by rw [same]; exact armed)
      exact ⟨st, fun new => starts (pending.trans new), fun new => delays (pending.trans new),
        fun new => skips (swapped (by rw [pending]; exact new))⟩
    · obtain ⟨st, delays, swapped, starts, goes, leaves⟩ := y.ex.nextFrame_running p.active m p.swapPending
        (x.unfit m i) i n fit (x.closeStep_runs c p.frameNumber runs goesOn)
      refine ⟨st, fun new changes => delays (pending.trans new) (by rw [mode]; exact changes),
        fun other => skips (swapped (by rw [pending, mode]; exact other)),
        fun new changes => starts (pending.trans new) (by rw [mode]; exact changes), fun selftest => ⟨fun new ended => ?_,
          fun new cycling => ?_, fun changes => leaves (mode.trans selftest) (by rw [pending]; exact changes)⟩⟩
      · have begun : y = { x with ex := x.ex.startCycle n } :=
          (x.closeStep_selftest c p.frameNumber runs selftest).trans (if_pos ⟨ended, new⟩)
        obtain ⟨cycle, latched, count, expiry, held⟩ := goes (mode.trans selftest) (pending.trans new)
        have started : cycleStarts n y.ex := by
          rw [begun]
          exact Exercise.startCycle_starts n _
        exact cycleStarts_of_same started latched count held expiry cycle
      · have same : y = x := (x.closeStep_selftest c p.frameNumber runs selftest).trans (if_neg fun ends => cycling ends.1)
        obtain ⟨cycle, latched, count, expiry, -⟩ := goes (mode.trans selftest) (pending.trans new)
        have ex : y.ex = x.ex := congrArg (·.ex) same
        exact ⟨cycle.trans (congrArg (·.cycle) ex), latched.trans (congrArg (·.latched) ex),
          count.trans (congrArg (·.vectorCount) ex), expiry.trans (congrArg (·.expiry) ex)⟩
  · have same : y = x := x.closeStep_other c p.frameNumber ⟨notDiag, .inl notRunning⟩
    have stands := y.ex.nextFrame_st p.active m p.swapPending (x.unfit m i) i n
    rw [same] at stands
    exact (congrArg (fun z : Socket => (z.ex.nextFrame p.active m p.swapPending (x.unfit m i) false i n).st) same).trans
      (stands notArmed notRunning)

/-- A boundary closes the comparison frame of a RUNNING PATTERN socket. -/
theorem Socket.boundary_compared (diag : Bool) (runs : x.ex.st = .running) (pattern : x.ex.mode = .pattern) :
    frameCompared p.frameNumber x (x.boundary c p diag i) := by
  let y := x.closeStep c p.frameNumber
  let n := x.gate.shadow.num
  have closes : y = x.closeCompare c p.frameNumber := x.closeStep_pattern c p.frameNumber runs pattern
  have halts := x.closeCompare_halts c p.frameNumber
  rw [← closes] at halts
  obtain ⟨-, mode, -⟩ := x.closeStep_keeps c p.frameNumber
  obtain ⟨frames, -, -, onset⟩ := y.ex.nextFrame_frames p.active p.nextMap p.swapPending (x.unfit p.nextMap i) diag i n
  obtain ⟨⟨b, acct⟩, rail⟩ := x.boundary_acct c p diag i
  obtain ⟨framesRun, framesFailed, laneErr, armed⟩ := x.ex.closeFrame_counts
  have sameRun : y.ex.framesRun = x.ex.closeFrame.framesRun := congrArg (·.framesRun) halts
  have sameFailed : y.ex.framesFailed = x.ex.closeFrame.framesFailed := congrArg (·.framesFailed) halts
  have sameErr : y.ex.laneErr = x.ex.closeFrame.laneErr := congrArg (·.laneErr) halts
  have sameOnset : y.ex.onsetArmed = x.ex.closeFrame.onsetArmed := congrArg (·.onsetArmed) halts
  have same : y.SameAccounts (x.boundary c p diag i) := by
    refine ⟨?_, ?_, ?_, ?_, ?_, ?_, by rw [rail], by rw [rail]⟩ <;> rw [acct]
    exact ⟨rfl, rfl, rfl, rfl, rfl⟩
  unfold frameCompared
  dsimp only
  refine ⟨?_, ?_, fun l => ?_, ?_, fun quiet => ?_, fun bad onset _ => ⟨x.ex.failMask, x.ex.failMask_bit, ?_⟩,
    fun bad onset ends stressing => ?_, fun stays => ?_⟩
  · rw [x.boundary_ex c p diag i]
    exact frames.framesRun.trans (sameRun.trans framesRun)
  · rw [x.boundary_ex c p diag i]
    exact frames.framesFailed.trans (sameFailed.trans framesFailed)
  · rw [x.boundary_ex c p diag i, frames.laneErr]
    exact (congrArg (·[l]) sameErr).trans (laneErr l)
  · rw [x.boundary_ex c p diag i, onset (mode.trans pattern), sameOnset]
    exact armed
  · have stands : y.acct.kindCount = x.acct.kindCount ∧ y.acct.staging = x.acct.staging ∧ y.acct.phase = x.acct.phase := by
      rw [closes]
      by_cases raised : x.ex.threshold ≤ x.ex.frameTotal ∧ x.ex.onsetArmed = true
      · have dropped : x.frameClosed.acct.phase.reporting = false := by
          rcases quiet with good | off | dropped
          · exact absurd raised.1 good
          · rw [off] at raised
            cases raised.2
          · exact dropped
        rw [x.closeCompare_onset c p.frameNumber raised.1 raised.2, Socket.takeCondition_dropped _ _ _ _ _ dropped]
        exact ⟨rfl, rfl, rfl⟩
      · rw [x.closeCompare_quiet c p.frameNumber raised]
        exact ⟨rfl, rfl, rfl⟩
    rw [acct]
    exact stands
  · refine conditionTaken_of_same ?_ same
    rw [closes, x.closeCompare_onset c p.frameNumber bad onset]
    exact x.frameClosed.takeCondition_conditionTaken c .compare 0 (x.ex.compareDetails p.frameNumber) (.inl nofun)
  · have stopped : y.ex.st = .stopped := by
      rw [closes]
      exact x.closeCompare_ends c p.frameNumber runs bad onset ends stressing
    rw [x.boundary_ex c p diag i]
    cases diag with
    | false =>
      rw [y.ex.nextFrame_st p.active p.nextMap p.swapPending _ i n (by rw [stopped]; nofun) (by rw [stopped]; nofun), stopped]
      nofun
    | true =>
      rw [(y.ex.nextFrame_diag p.active p.nextMap p.swapPending _ i n stopped).1]
      nofun
  · obtain ⟨a, is⟩ := x.closeCompare_stays c p.frameNumber fun ⟨_, _, ends⟩ => stays ends
    have phase : y.acct.phase = x.acct.phase := by
      rw [closes, is]
      rfl
    rw [acct]
    exact phase

/-- A boundary closes the diagnosis of a socket in DIAG. -/
theorem Socket.boundary_diagnosed (inDiag : x.ex.st = .diag) : let z := x.boundary c p false i
    z.ex.st = .stopped ∧ z.ex.diagErrors = x.ex.diagCount ∧
      z.ex.diagResult = (if x.ex.diagCount = 0 then DiagResult.pass else .fail) ∧
      (x.ex.diagCount ≠ 0 → x.acct.phase = .waiting → z.acct.phase = .retired ∧ z.acct.retireKind = .diagnosis ∧
        z.acct.bin = .boardFault) := by
  let y := x.closeStep c p.frameNumber
  have closes : y = x.closeDiag := x.closeStep_diag c p.frameNumber inDiag
  obtain ⟨halts, stopped⟩ := x.closeDiag_halts
  rw [← closes] at halts stopped
  obtain ⟨frames, -⟩ := y.ex.nextFrame_frames p.active p.nextMap p.swapPending (x.unfit p.nextMap i) false i
    x.gate.shadow.num
  obtain ⟨⟨b, acct⟩, -⟩ := x.boundary_acct c p false i
  refine ⟨?_, ?_, ?_, fun fails waits => ?_⟩
  · rw [x.boundary_ex c p false i]
    exact (y.ex.nextFrame_st p.active p.nextMap p.swapPending _ i _ (by rw [stopped]; nofun)
      (by rw [stopped]; nofun)).trans stopped
  · rw [x.boundary_ex c p false i]
    exact frames.diagErrors.trans (congrArg (·.diagErrors) halts)
  · rw [x.boundary_ex c p false i]
    exact frames.diagResult.trans (congrArg (·.diagResult) halts)
  · have retired : y = x.diagClosed.retire .diagnosis := by
      rw [closes, x.closeDiag_eq, if_neg fails]
      exact x.diagClosed.report_taken .diagnosis (by rw [show x.diagClosed.acct.phase = .waiting from waits]; rfl)
    rw [acct, show x.closeStep c p.frameNumber = _ from retired]
    exact ⟨rfl, rfl, rfl⟩

end

/-! ## The exerciser and the board (R126, R131, R57, R60) -/

theorem Pxr.reloadGens_cases (cfg : BoardConfig) (p : Pxr) (g : Fin 4) :
    (p.reloadAll = true → (p.reloadGens cfg)[g] = ⟨cfg.seeds[g], cfg.seeds[g], cfg.restarts[g]⟩) ∧
    (p.reloadAll = false → p.gens[g].restart = .restart →
      (p.reloadGens cfg)[g] = { p.gens[g] with state := p.gens[g].seed }) ∧
    (p.reloadAll = false → p.gens[g].restart = .continuous → (p.reloadGens cfg)[g] = p.gens[g]) := by
  refine ⟨fun all => ?_, fun own restarts => ?_, fun own goesOn => ?_⟩
  · rw [Pxr.reloadGens, if_pos all]
    exact Vector.getElem_ofFn _
  · rw [Pxr.reloadGens, if_neg (by rw [own]; nofun)]
    exact (Vector.getElem_ofFn _).trans (if_pos restarts)
  · rw [Pxr.reloadGens, if_neg (by rw [own]; nofun)]
    exact (Vector.getElem_ofFn _).trans (if_neg (by rw [goesOn]; nofun))

/-- The command in progress at a boundary takes the step that waits for it. -/
theorem Brc.boundary_channel (b : Brc) (swap : Bool) :
    b.boundary swap = { b with
      channel := (b.boundary swap).channel
      mapGeneration := if swap then b.mapGeneration + 1 else b.mapGeneration } ∧
    (b.channel = none → (b.boundary swap).channel = none) ∧
    ∀ ch, b.channel = some ch →
      (swap = true → ch.code = .loadLaneMap → ch.step = .swapWait →
        (b.boundary swap).channel = some { ch with step := .doneWait }) ∧
      (swap = false → ch.code = .diagnose → ch.step = .frameWait →
        (b.boundary swap).channel = some { ch with step := .diagFrame }) ∧
      (swap = false → ch.code = .diagnose → ch.step = .diagFrame →
        (b.boundary swap).channel = some { ch with step := .doneWait }) ∧
      (ch.step ≠ .swapWait → ch.step ≠ .frameWait → ch.step ≠ .diagFrame → (b.boundary swap).channel = b.channel) := by
  have steps (ch : Channel) (busy : b.channel = some ch) (code : CmdCode) (st : CmdStep) :
      b.atStep code st = (ch.code == code && ch.step == st) := by
    unfold Brc.atStep
    rw [busy]
  have set (ch : Channel) (busy : b.channel = some ch) (st : CmdStep) :
      (b.setStep st).channel = some { ch with step := st } := by
    unfold Brc.setStep
    rw [busy]
    rfl
  refine ⟨?_, fun idle => ?_, fun ch busy => ⟨fun swaps code step => ?_, fun stands code step => ?_, fun stands code step => ?_,
    fun notSwap notFrame notDiag => ?_⟩⟩
  · unfold Brc.boundary
    (repeat' split) <;> simp_all [Brc.setStep]
  · unfold Brc.boundary
    have noStep (code : CmdCode) (st : CmdStep) : b.atStep code st = false := by
      unfold Brc.atStep
      rw [idle]
    split
    · rw [noStep, if_neg nofun]
      exact idle
    · rw [noStep, noStep, if_neg nofun, if_neg nofun]
      exact idle
  · unfold Brc.boundary
    rw [if_pos swaps, if_pos (by simp [steps ch busy, code, step])]
    exact set ch busy _
  · unfold Brc.boundary
    rw [if_neg (by rw [stands]; nofun), if_pos (by simp [steps ch busy, code, step])]
    exact set ch busy _
  · unfold Brc.boundary
    rw [if_neg (by rw [stands]; nofun), if_neg (by simp [steps ch busy, code, step]),
      if_pos (by simp [steps ch busy, code, step])]
    exact set ch busy _
  · unfold Brc.boundary
    split
    · rw [if_neg (by simp [steps ch busy, notSwap])]
    · rw [if_neg (by simp [steps ch busy, notFrame]), if_neg (by simp [steps ch busy, notDiag])]

theorem State.boundaryEvent_sock (s : State) (i : SocketIx) : s.boundaryEvent.sock i =
    (s.sock i).boundary (s.ctx i) s.pxr (s.brc.diagnoses i) i :=
  State.sock_updAll s (fun i x => x.boundary (s.ctx i) s.pxr (s.brc.diagnoses i) i) i

theorem State.boundaryEvent_eq (s : State) : s.boundaryEvent = { s with
    pxr := s.pxr.boundary s.scu.config, brc := s.brc.boundary s.pxr.swapPending
    sockets := s.boundaryEvent.sockets, smc := s.boundaryEvent.smc } := by
  unfold State.boundaryEvent
  rw [State.updAll_eq]

theorem exec_frameBoundary (s : State) (live : s.pins.por = false) (due : s.pxr.boundaryDue = true) :
    exec .frameBoundary s = .next s.boundaryEvent :=
  congrArg Host.Outcome.next ((s.live_of_released _ live).trans (if_pos due))

/-- Settles O56: the exerciser, the channel and every socket at a frame boundary. -/
theorem frameBoundariesStartTheNextFrame : Obligations.FrameBoundariesStartTheNextFrame := by
  intro s live due
  let t := s.boundaryEvent
  obtain ⟨brc, idle, channel⟩ := s.brc.boundary_channel s.pxr.swapPending
  refine ⟨t, exec_frameBoundary s live due, s.boundaryEvent_eq, rfl, rfl, rfl, rfl, rfl, rfl, rfl,
    s.pxr.reloadGens_cases s.scu.config, fun stands => ⟨if_neg (by rw [stands]; nofun), ?_⟩,
    fun swaps => ⟨if_pos swaps, if_pos swaps, if_pos swaps, ?_⟩, ?_, channel, idle, fun i => ?_⟩
  · exact (congrArg (·.mapGeneration) brc).trans (if_neg (by rw [stands]; nofun))
  · exact (congrArg (·.mapGeneration) brc).trans (if_pos swaps)
  · exact brc.trans (congrArg (fun n => { s.brc with
      channel := (s.brc.boundary s.pxr.swapPending).channel, mapGeneration := n })
      (congrArg (·.mapGeneration) brc).symm)
  · have sock : t.sock i = _ := s.boundaryEvent_sock i
    obtain ⟨winStart, winLength, threshold, lanes, total⟩ :=
      (s.sock i).boundary_latches (s.ctx i) s.pxr i (s.brc.diagnoses i)
    rw [sock]
    refine ⟨winStart, winLength, threshold, lanes, total, fun calm => ?_, fun runs pattern => ?_, fun diag calm => ?_,
      fun stopped diagnosed => ?_⟩
    · rw [calm]
      exact (s.sock i).boundary_begins (s.ctx i) s.pxr i
    · exact (s.sock i).boundary_compared (s.ctx i) s.pxr i _ runs pattern
    · obtain ⟨st, errors, result, retires⟩ := (s.sock i).boundary_diagnosed (s.ctx i) s.pxr i diag
      rw [calm] at sock ⊢
      refine ⟨st, errors, result, fun fails waits => ?_⟩
      obtain ⟨phase, kind, bin⟩ := retires fails waits
      refine ⟨phase, kind, bin, s.updAll_ended (fun i x => x.boundary (s.ctx i) s.pxr (s.brc.diagnoses i) i) i ?_⟩
      rw [calm]
      exact Socket.ends_of_retired (by rw [waits]; nofun) phase
    · rw [diagnosed, (s.sock i).boundary_ex (s.ctx i) s.pxr true i,
        (s.sock i).closeStep_other (s.ctx i) s.pxr.frameNumber ⟨by rw [stopped]; nofun, .inl (by rw [stopped]; nofun)⟩]
      exact (s.sock i).ex.nextFrame_diag s.pxr.active s.pxr.nextMap s.pxr.swapPending _ i _ stopped

end Sys2Proof.Machine
end

section
/-! The validation of a Socket Control Record (R38, R39, TABLE 2-2, TABLE 12-3), and the statement about it. -/

namespace Sys2Proof.Machine

/-! ## Fields -/

/-- A field held at its value clamped to its range. -/
theorem FieldCheck.valid_clamp {read low high held : Int} (range : low ≤ high) (is : held = max low (min high read)) :
    (⟨read, low, high, none, held⟩ : FieldCheck).valid :=
  ⟨held, fun (_ : low ≤ read) (_ : read ≤ high) => show held = read by omega,
    fun (_ : read < low) => show held = low by omega, fun (_ : high < read) => show held = high by omega, fun _ => rfl,
    nofun⟩

/-- A field held at its value clamped to its range, and at most its cross-field limit. -/
theorem FieldCheck.valid_limit {read low high limit held : Int} (range : low ≤ high)
    (is : held = min (max low (min high read)) limit) : (⟨read, low, high, some limit, held⟩ : FieldCheck).valid :=
  ⟨max low (min high read), fun (_ : low ≤ read) (_ : read ≤ high) => show _ = read by omega,
    fun (_ : read < low) => show _ = low by omega, fun (_ : high < read) => show _ = high by omega, nofun, fun
    | _, rfl => ⟨fun _ => show held = _ by omega, fun _ => show held = _ by omega⟩⟩

theorem clampNat_int (lo hi n : Nat) : (clampNat lo hi n : Int) = max (lo : Int) (min (hi : Int) n) := by
  unfold clampNat
  omega

theorem FieldCheck.valid_nat (lo hi n : Nat) (range : lo ≤ hi) :
    (⟨n, lo, hi, none, clampNat lo hi n⟩ : FieldCheck).valid :=
  FieldCheck.valid_clamp (by omega) (clampNat_int lo hi n)

theorem FieldCheck.valid_natLimit (lo hi n limit : Nat) (range : lo ≤ hi) :
    (⟨n, lo, hi, some limit, (min (clampNat lo hi n) limit : Nat)⟩ : FieldCheck).valid :=
  FieldCheck.valid_limit (by omega) (by rw [← clampNat_int]; omega)

theorem countDiffer_fields (l : List FieldCheck) : countDiffer (l.map (·.read)) (l.map (·.held)) =
    l.countP fun f => decide (f.held ≠ f.read) := by
  induction l with
  | nil => rfl
  | cons f rest ih =>
    rw [List.map_cons, List.map_cons, countDiffer, ih, List.countP_cons]
    by_cases same : f.read = f.held
    · simp [same]
    · simp [same, Ne.symm same, Nat.add_comm]

section
variable (cfg : BoardConfig) (r : List Word)

/-- The numbers that validation makes of a record. -/
def Numbers.validated (cfg : BoardConfig) (r : List Word) : Numbers := (Numbers.ofScr r).clampRanges.crossLimits cfg

theorem scrFields_valid : ∀ f ∈ scrFields cfg r (Numbers.validated cfg r), f.valid := by
  let w (k : Nat) : Nat := (field r k).toNat
  have nat (lo hi n : Nat) (range : lo ≤ hi) := FieldCheck.valid_nat lo hi n range
  have setpoint : (⟨(field r 12).toInt, -640, 3200, some (cfg.absLimit - 16),
      min (clampInt (-640) 3200 (field r 12).toInt) (cfg.absLimit - 16)⟩ : FieldCheck).valid :=
    FieldCheck.valid_limit (by omega) rfl
  simp only [scrFields, List.forall_mem_cons, List.not_mem_nil, false_imp_iff, implies_true, and_true]
  exact ⟨nat 400 2500 (w 3) (by omega), nat 1 250 (w 4) (by omega), nat 1 1000 (w 5) (by omega),
    nat 5 250 (w 6) (by omega), nat 100 30000 (w 7) (by omega),
    FieldCheck.valid_natLimit 100 30000 (w 8) _ (by omega), nat 0 5000 (w 9) (by omega), nat 0 7 (w 10) (by omega),
    nat 100 60000 (w 11) (by omega), setpoint, nat 8 800 (w 13) (by omega), nat 0 4095 (w 14) (by omega),
    nat 0 1023 (w 15) (by omega), nat 0 4 (w 16) (by omega), nat 100 20000 (w 17) (by omega),
    nat 0 1023 (w 18) (by omega), nat 0 1023 (w 19) (by omega), nat 16 1600 (w 20) (by omega),
    nat 0 7200 (w 21) (by omega), nat 60 14400 (w 22) (by omega),
    FieldCheck.valid_natLimit 0 65535 (w 24) _ (by omega), FieldCheck.valid_natLimit 1 65535 (w 25) _ (by omega),
    nat 1 65535 (w 26) (by omega), nat 0 15 (w 27) (by omega), nat 0 15 (w 28) (by omega), nat 0 15 (w 29) (by omega),
    nat 0 65535 (w 30) (by omega), nat 1 65535 (w 31) (by omega), nat 1 600000 (field32 r 32).toNat (by omega),
    nat 1 3600000 (field32 r 34).toNat (by omega), nat 1 15 (w 36) (by omega)⟩

theorem scrFields_clampedCount : (Numbers.ofScr r).clampedCount (Numbers.validated cfg r) =
    (scrFields cfg r (Numbers.validated cfg r)).countP fun f => decide (f.held ≠ f.read) :=
  countDiffer_fields (scrFields cfg r (Numbers.validated cfg r))

end

/-! ## Codes -/

theorem Word.le_one_iff (w : Word) : w.toNat ≤ 1 ↔ w = 0 ∨ w = 1 := by bv_omega

theorem Word.le_two_iff (w : Word) : w.toNat ≤ 2 ↔ w = 0 ∨ w = 1 ∨ w = 2 := by bv_omega

theorem Word.le_three_iff (w : Word) : w.toNat ≤ 3 ↔ w = 0 ∨ w = 1 ∨ w = 2 ∨ w = 3 := by bv_omega

theorem enableOf_of_listed (w : Word) (listed : w.toNat ≤ 1) : ∃ b, enableOf w = some b ∧ (b = true ↔ w = 1) := by
  rcases (Word.le_one_iff w).mp listed with is | is <;> rw [is] <;> exact ⟨_, rfl, by decide⟩

theorem exModeOf_of_listed (w : Word) (listed : w.toNat ≤ 2) : ∃ b, exModeOf w = some b ∧
    (b = .idle ↔ w = 0) ∧ (b = .pattern ↔ w = 1) ∧ (b = .selftest ↔ w = 2) := by
  rcases (Word.le_two_iff w).mp listed with is | is | is <;> rw [is] <;> exact ⟨_, rfl, by decide, by decide, by decide⟩

theorem endActionOf_of_listed (w : Word) (listed : w.toNat ≤ 1) : ∃ b, endActionOf w = some b ∧
    (b = .powerOff ↔ w = 0) ∧ (b = .holdPowered ↔ w = 1) := by
  rcases (Word.le_one_iff w).mp listed with is | is <;> rw [is] <;> exact ⟨_, rfl, by decide, by decide⟩

theorem kindActionOf_of_listed (w : Word) (listed : w.toNat ≤ 3) : ∃ b, kindActionOf w = some b ∧
    (b = .ignore ↔ w = 0) ∧ (b = .log ↔ w = 1) ∧ (b = .strike ↔ w = 2) ∧ (b = .retire ↔ w = 3) := by
  rcases (Word.le_three_iff w).mp listed with is | is | is | is <;> rw [is] <;>
    exact ⟨_, rfl, by decide, by decide, by decide, by decide⟩

theorem enableOf_listed (w : Word) (b : Bool) (is : enableOf w = some b) : w.toNat ≤ 1 := by
  refine (Word.le_one_iff w).mpr ?_
  unfold enableOf at is
  split at is
  · exact .inl ‹_›
  · split at is
    · exact .inr ‹_›
    · cases is

theorem exModeOf_listed (w : Word) (b : ExMode) (is : exModeOf w = some b) : w.toNat ≤ 2 := by
  refine (Word.le_two_iff w).mpr ?_
  unfold exModeOf at is
  split at is
  · exact .inl ‹_›
  · split at is
    · exact .inr (.inl ‹_›)
    · split at is
      · exact .inr (.inr ‹_›)
      · cases is

theorem endActionOf_listed (w : Word) (b : EndAction) (is : endActionOf w = some b) : w.toNat ≤ 1 := by
  refine (Word.le_one_iff w).mpr ?_
  unfold endActionOf at is
  split at is
  · exact .inl ‹_›
  · split at is
    · exact .inr ‹_›
    · cases is

theorem kindActionOf_listed (w : Word) (is : (kindActionOf w).isSome = true) : w.toNat ≤ 3 := by
  refine (Word.le_three_iff w).mpr ?_
  unfold kindActionOf at is
  split at is
  · exact .inl ‹_›
  · split at is
    · exact .inr (.inl ‹_›)
    · split at is
      · exact .inr (.inr (.inl ‹_›))
      · split at is
        · exact .inr (.inr (.inr ‹_›))
        · cases is

theorem Kind.code_ix (k : Kind) : 37 + k.code = 38 + k.ix.val := by cases k <;> rfl

/-- Every position of a Kind Action is that of a kind. -/
theorem Kind.of_ix (j : Fin 8) : ∃ k : Kind, k.ix = j :=
  match j with
  | 0 => ⟨.compare, rfl⟩
  | 1 => ⟨.selftestFail, rfl⟩
  | 2 => ⟨.selftestTimeout, rfl⟩
  | 3 => ⟨.railTrip, rfl⟩
  | 4 => ⟨.railRegulation, rfl⟩
  | 5 => ⟨.openContact, rfl⟩
  | 6 => ⟨.thermal, rfl⟩
  | 7 => ⟨.sensorLost, rfl⟩

section
variable (r : List Word) (num : Numbers)

/-- A record with an undefined code gives no settings. -/
theorem Settings.ofScr_unlisted (unlisted : ¬codesListed r) : Settings.ofScr r num = none := by
  cases is : Settings.ofScr r num with
  | none => rfl
  | some st =>
    refine absurd ?_ unlisted
    unfold Settings.ofScr at is
    split at is
    · split at is
      · rename_i en m ea enable mode ends codes
        refine ⟨enableOf_listed _ _ enable, exModeOf_listed _ _ mode, endActionOf_listed _ _ ends, fun k => ?_⟩
        rw [Kind.code_ix]
        exact kindActionOf_listed _ (List.all_eq_true.mp codes k.ix.val (List.mem_range.mpr k.ix.isLt))
      · cases is
    · cases is

/-- The settings of a record whose codes are listed. -/
theorem Settings.ofScr_listed (listed : codesListed r) : ∃ st, Settings.ofScr r num = some st ∧ st.num = num ∧
    (st.enable = true ↔ field r 2 = 1) ∧ (st.mode = .idle ↔ field r 23 = 0) ∧
    (st.mode = .pattern ↔ field r 23 = 1) ∧ (st.mode = .selftest ↔ field r 23 = 2) ∧
    (st.endAction = .powerOff ↔ field r 37 = 0) ∧ (st.endAction = .holdPowered ↔ field r 37 = 1) ∧
    ∀ k : Kind, let w := field r (37 + k.code)
      let act := st.kindActions[k.ix]
      (act = .ignore ↔ w = 0) ∧ (act = .log ↔ w = 1) ∧ (act = .strike ↔ w = 2) ∧ (act = .retire ↔ w = 3) := by
  obtain ⟨enable, mode, ends, kinds⟩ := listed
  obtain ⟨en, isEnable, onEnable⟩ := enableOf_of_listed _ enable
  obtain ⟨m, isMode, onMode⟩ := exModeOf_of_listed _ mode
  obtain ⟨ea, isEnd, onEnd⟩ := endActionOf_of_listed _ ends
  have codes : ((List.range 8).all fun k => (kindActionOf (field r (38 + k))).isSome) = true := by
    refine List.all_eq_true.mpr fun j inside => ?_
    obtain ⟨k, is⟩ := Kind.of_ix ⟨j, List.mem_range.mp inside⟩
    have here := kinds k
    rw [Kind.code_ix, is] at here
    obtain ⟨act, some, -⟩ := kindActionOf_of_listed _ here
    exact Option.isSome_of_eq_some some
  let acts : Vector KindAction 8 := Vector.ofFn fun k => (kindActionOf (field r (38 + k.val))).getD .ignore
  let st : Settings := { num := num, enable := en, mode := m, endAction := ea, kindActions := acts }
  refine ⟨st, ?_, rfl, onEnable, onMode.1, onMode.2.1, onMode.2.2, onEnd.1, onEnd.2, fun k => ?_⟩
  · unfold Settings.ofScr
    rw [isEnable, isMode, isEnd]
    exact if_pos codes
  · obtain ⟨act, is, on⟩ := kindActionOf_of_listed _ (kinds k)
    have held : st.kindActions[k.ix] = act := by
      refine (Vector.getElem_ofFn _).trans ?_
      rw [Kind.code_ix] at is
      exact (congrArg (fun o : Option KindAction => o.getD .ignore) is).trans rfl
    dsimp only
    rw [held]
    exact on

end

/-! ## Lane roles (R39) -/

theorem rolesFit_iff (m : LaneMap) (i : SocketIx) (v : Numbers) (start : v.startLane ≤ 15) (done : v.doneLane ≤ 15)
    (pass : v.passLane ≤ 15) : rolesFit m i v = true ↔ rolesPass m i v := by
  have lane (n : Nat) (inside : n ≤ 15) (l : LaneIx) (is : l.val = n) : m.entry i n = m[i][l] := by
    have same : Fin.ofNat 16 n = l := Fin.ext (by simp [Fin.ofNat, is]; omega)
    exact congrArg (fun l : LaneIx => m[i][l]) same
  unfold rolesFit rolesPass
  simp only [Bool.and_eq_true, beq_iff_eq]
  constructor
  · rintro ⟨⟨drives, senses⟩, passes⟩ l
    refine ⟨fun is => lane _ start l is ▸ drives, fun is => ?_⟩
    rcases is with is | is
    · exact lane _ done l is ▸ senses
    · exact lane _ pass l is ▸ passes
  · intro roles
    let laneAt (n : Nat) (inside : n ≤ 15) : LaneIx := ⟨n, by omega⟩
    rw [lane _ start (laneAt _ start) rfl, lane _ done (laneAt _ done) rfl, lane _ pass (laneAt _ pass) rfl]
    exact ⟨⟨(roles _).1 rfl, (roles _).2 (.inl rfl)⟩, (roles _).2 (.inr rfl)⟩

/-! ## The judgement -/

section
variable (cfg : BoardConfig) (m : LaneMap) (i : SocketIx) (r : List Word)

theorem judgeRecord_eq : judgeRecord cfg m i r =
    match Settings.ofScr r (Numbers.validated cfg r) with
    | none => .rejected .badCode
    | some st =>
      if st.mode = .selftest ∧ rolesFit m i (Numbers.validated cfg r) = false then .rejected .laneRole
      else .accepted st ((Numbers.ofScr r).clampedCount (Numbers.validated cfg r)) := rfl

theorem Settings.ofScr_num {num : Numbers} {st : Settings} (is : Settings.ofScr r num = some st) : st.num = num := by
  unfold Settings.ofScr at is
  split at is
  · split at is
    · cases is
      rfl
    · cases is
  · cases is

/-- An accepted record holds the validated numbers, and in SELFTEST its roles fit. -/
theorem judgeRecord_accepted {st : Settings} {n : Nat} (accepted : judgeRecord cfg m i r = .accepted st n) :
    st.num = Numbers.validated cfg r ∧ (st.mode = .selftest → rolesFit m i (Numbers.validated cfg r) = true) := by
  rw [judgeRecord_eq] at accepted
  cases is : Settings.ofScr r (Numbers.validated cfg r) with
  | none =>
    rw [is] at accepted
    cases accepted
  | some found =>
    rw [is] at accepted
    dsimp only at accepted
    split at accepted
    · cases accepted
    · next fits =>
      cases accepted
      exact ⟨Settings.ofScr_num r is, fun mode => by simpa [mode] using fits⟩

theorem Numbers.validated_lanes : (Numbers.validated cfg r).startLane ≤ 15 ∧ (Numbers.validated cfg r).doneLane ≤ 15 ∧
    (Numbers.validated cfg r).passLane ≤ 15 := by
  simp only [Numbers.validated, Numbers.crossLimits, Numbers.clampRanges, clampNat]
  omega

end

/-- Settles O33: the record's codes, its fields and its roles one by one, and the ranges of what is accepted. -/
theorem acceptedSettingsLieInRange : Obligations.AcceptedSettingsLieInRange := by
  refine ⟨fun cfg m i r => ⟨fun unlisted => ?_, fun listed => ?_⟩, fun cfg m i r st n frame accepted => ?_⟩
  · rw [judgeRecord_eq, Settings.ofScr_unlisted r _ unlisted]
  · obtain ⟨st, is, num, codes⟩ := Settings.ofScr_listed r (Numbers.validated cfg r) listed
    obtain ⟨start, done, pass⟩ := Numbers.validated_lanes cfg r
    have fits := rolesFit_iff m i (Numbers.validated cfg r) start done pass
    refine ⟨st, ⟨?_, codes⟩, ?_⟩
    · rw [num]
      exact scrFields_valid cfg r
    · rw [num, judgeRecord_eq, is]
      refine ⟨fun selftest unfit => ?_, fun fit => ?_⟩
      · have misfit : rolesFit m i (Numbers.validated cfg r) = false := by simpa using mt fits.mp unfit
        exact if_pos ⟨selftest, misfit⟩
      · rw [← scrFields_clampedCount]
        refine if_neg fun ⟨selftest, unfit⟩ => ?_
        rcases fit with other | roles
        · exact other selftest
        · rw [fits.mpr roles] at unfit
          cases unfit
  · obtain ⟨num, roles⟩ := judgeRecord_accepted cfg m i r accepted
    dsimp only
    rw [num]
    refine ⟨?_, ?_, ?_, ?_, ?_, ?_, ?_, ?_, ?_, ?_, ?_, ?_, ?_, ?_, ?_, ?_, ?_, ?_, ?_, ?_, ?_, ?_, ?_, ?_, ?_, ?_, ?_, ?_, ?_,
      ?_, ?_, ?_, ?_, roles⟩ <;>
    simp only [Numbers.validated, Numbers.crossLimits, Numbers.clampRanges, clampNat, clampInt] <;> omega

end Sys2Proof.Machine
end

section
/-! The words of the records that the part writes (TABLE 12-2, TABLE 12-4, TABLE 12-6), by offset. -/

namespace Sys2Proof.Machine

/-! ## Lists of words -/

/-- The two halves of a 32-bit field. -/
theorem Word32.halves (x : Word32) : x.extractLsb' 16 16 ++ x.extractLsb' 0 16 = x := by
  refine BitVec.eq_of_getLsbD_eq fun k inside => ?_
  rw [BitVec.getLsbD_append]
  by_cases low : k < 16
  · simp [low]
  · simp [low, show k - 16 < 16 by omega, show 16 + (k - 16) = k by omega]

/-- A 32-bit field whose words are the halves of a value. -/
theorem field32_of_halves {ws : List Word} {k : Nat} {x : Word32} (low : field ws k = x.extractLsb' 0 16)
    (high : field ws (k + 1) = x.extractLsb' 16 16) : field32 ws k = x := by
  rw [field32, low, high]
  exact Word32.halves x

theorem field_before (l r : List Word) (k : Nat) (inside : k < l.length) : field (l ++ r) k = field l k := by
  simp only [field, List.getD_eq_getElem?_getD, List.getElem?_append_left inside]

theorem field_after (l r : List Word) (n k : Nat) (length : l.length = n) : field (l ++ r) (n + k) = field r k := by
  subst length
  simp only [field, List.getD_eq_getElem?_getD, List.getElem?_append_right (Nat.le_add_right _ _), Nat.add_sub_cancel_left]

theorem field_between (l m r : List Word) (n k : Nat) (length : l.length = n) (inside : k < m.length) :
    field (l ++ (m ++ r)) (n + k) = field m k :=
  (field_after l (m ++ r) n k length).trans (field_before m r k inside)

theorem field_vector {α : Type} {n : Nat} (f : α → Word) (v : Vector α n) (k : Fin n) :
    field (v.toList.map f) k.val = f v[k] := by
  simp [field, List.getD_eq_getElem?_getD]

theorem field_zeros (n k : Nat) : field (List.replicate n 0) k = 0 := by
  unfold field
  by_cases inside : k < n <;> simp [List.getD_eq_getElem?_getD, inside]

/-- The words of a list of 32-bit values. -/
theorem field_words32 {α : Type} {n : Nat} (f : α → Word32) (v : Vector α n) (k : Fin n) :
    let ws := v.toList.flatMap fun a => words32 (f a)
    field ws (2 * k.val) = (f v[k]).extractLsb' 0 16 ∧ field ws (2 * k.val + 1) = (f v[k]).extractLsb' 16 16 := by
  have each (l : List α) (j : Nat) (inside : j < l.length) :
      field (l.flatMap fun a => words32 (f a)) (2 * j) = (f l[j]).extractLsb' 0 16 ∧
        field (l.flatMap fun a => words32 (f a)) (2 * j + 1) = (f l[j]).extractLsb' 16 16 := by
    induction l generalizing j with
    | nil => cases inside
    | cons a rest ih =>
      cases j with
      | zero => exact ⟨rfl, rfl⟩
      | succ j => exact ih j (Nat.lt_of_succ_lt_succ inside)
  simpa using each v.toList k.val (by simp)

/-! ## The Socket Status Record (TABLE 12-4) -/

section
variable (sweep : Word32) (x : Socket)

/-- Words 0 to 23 of a Socket Status Record. -/
def Socket.ssrHead (sweep : Word32) (x : Socket) : List Word :=
  [natWord x.gate.appliedRev.toNat, natWord x.gate.adoptionResult.code,
    natWord x.gate.clampedCount, natWord x.gate.rejectReason.code] ++ words32 sweep ++
  [natWord x.gate.staleCount, natWord x.acct.phase.code, natWord x.acct.resume.code,
    natWord x.rail.st.code, x.rail.voltage, x.rail.current, natWord x.rail.trips, x.sensor.word,
    x.sensor.stateWord, signedWord x.thermal.u, natWord x.thermal.grant,
    natWord x.thermal.ceiling, natWord x.ex.st.code, natWord x.ex.spurious] ++
  natWords32 x.ex.framesRun ++ natWords32 x.ex.framesFailed

/-- Words 40 to 55. -/
def Socket.ssrAccounts (x : Socket) : List Word :=
  natWords32 x.ex.cycles ++ natWords32 x.ex.lastDuration ++ natWords32 x.acct.dwellSec ++
  [natWord x.acct.dwellMs, natWord x.acct.lateCount] ++ natWords32 x.acct.oosSec ++
  [natWord x.acct.oosMs, natWord x.gate.failWritten.toNat] ++ words32 x.acct.failTotal ++ words32 x.acct.detailLost

/-- Words 64 to 71. -/
def Socket.ssrEnd (x : Socket) : List Word :=
  [natWord x.acct.strikes, natWord x.acct.bin.code, natWord x.acct.retireKind.code, 0] ++
  words32 x.acct.firstFailDwell ++ [natWord x.ex.diagResult.code, natWord x.ex.diagErrors]

theorem Socket.ssrWords_eq : x.ssrWords sweep = x.ssrHead sweep ++ (x.ex.laneErr.toList.map natWord ++
    (x.ssrAccounts ++ (x.acct.kindCount.toList.map natWord ++ (x.ssrEnd ++ List.replicate 56 0)))) := by
  simp only [Socket.ssrWords, Socket.ssrHead, Socket.ssrAccounts, Socket.ssrEnd, List.append_assoc]

theorem Socket.ssrHead_length : (x.ssrHead sweep).length = 24 := rfl

theorem Socket.ssrAccounts_length : x.ssrAccounts.length = 16 := rfl

theorem Socket.ssrEnd_length : x.ssrEnd.length = 8 := rfl

theorem Socket.ssrWords_head (k : Nat) (inside : k < 24) : field (x.ssrWords sweep) k = field (x.ssrHead sweep) k := by
  rw [Socket.ssrWords_eq]
  exact field_before _ _ k inside

theorem Socket.ssrWords_lanes (l : LaneIx) : field (x.ssrWords sweep) (24 + l.val) = natWord x.ex.laneErr[l] := by
  rw [Socket.ssrWords_eq, field_between _ _ _ 24 l.val (x.ssrHead_length sweep) (by simp)]
  exact field_vector natWord x.ex.laneErr l

theorem Socket.ssrWords_accounts (k : Nat) (inside : k < 16) :
    field (x.ssrWords sweep) (40 + k) = field x.ssrAccounts k := by
  rw [Socket.ssrWords_eq, ← List.append_assoc]
  exact field_between _ _ _ 40 k (by simp [x.ssrHead_length sweep]) inside

theorem Socket.ssrWords_kinds (k : Fin 8) : field (x.ssrWords sweep) (56 + k.val) = natWord x.acct.kindCount[k] := by
  rw [Socket.ssrWords_eq, ← List.append_assoc, ← List.append_assoc]
  refine (field_between _ _ _ 56 k.val (by simp [x.ssrHead_length sweep, x.ssrAccounts_length]) (by simp)).trans ?_
  exact field_vector natWord x.acct.kindCount k

theorem Socket.ssrWords_end (k : Nat) (inside : k < 8) : field (x.ssrWords sweep) (64 + k) = field x.ssrEnd k := by
  rw [Socket.ssrWords_eq, ← List.append_assoc, ← List.append_assoc, ← List.append_assoc]
  exact field_between _ _ _ 64 k (by simp [x.ssrHead_length sweep, x.ssrAccounts_length]) inside

theorem Socket.ssrWords_padding (k : Nat) (past : 72 ≤ k) : field (x.ssrWords sweep) k = 0 := by
  obtain ⟨j, rfl⟩ := Nat.exists_eq_add_of_le past
  rw [Socket.ssrWords_eq, ← List.append_assoc, ← List.append_assoc, ← List.append_assoc, ← List.append_assoc,
    field_after _ _ 72 j (by simp [x.ssrHead_length sweep, x.ssrAccounts_length, x.ssrEnd_length])]
  exact field_zeros 56 j

theorem Socket.ssrWords_length : (x.ssrWords sweep).length = 128 := by
  rw [Socket.ssrWords_eq]
  simp [x.ssrHead_length sweep, x.ssrAccounts_length, x.ssrEnd_length]

theorem Sensor.word_some (y : Sensor) (t : Int) (is : y.tf = some t) : y.word = BitVec.ofInt 16 t := by
  simp [Sensor.word, is, signedWord]

theorem Sensor.word_none (y : Sensor) (is : y.tf = none) : y.word = 0x8000 := by
  simp [Sensor.word, is]

theorem Sensor.stateWord_eq (y : Sensor) : y.stateWord = BitVec.ofNat 16 (y.st.code + 256 *
    (if y.st = .suspect then y.suspectCount else if y.st = .invalid then y.invalidCount else 0)) := by
  unfold Sensor.stateWord natWord
  cases y.st <;> rfl

theorem Gate.adoptionResult_code (g : Gate) : natWord g.adoptionResult.code =
    BitVec.ofNat 16 (if g.staleVisit then GateResult.stale.code else g.result.code) := by
  unfold Gate.adoptionResult natWord
  cases g.staleVisit <;> rfl

/-- The Socket Status Record holds each value at its offset. -/
theorem Socket.ssrWords_fields : socketStatusFields sweep x (x.ssrWords sweep) := by
  have head := x.ssrWords_head sweep
  have accounts := x.ssrWords_accounts sweep
  have tail := x.ssrWords_end sweep
  have head32 (k : Nat) (inside : k + 1 < 24) (n : Word32) (low : field (x.ssrHead sweep) k = n.extractLsb' 0 16)
      (high : field (x.ssrHead sweep) (k + 1) = n.extractLsb' 16 16) : field32 (x.ssrWords sweep) k = n :=
    field32_of_halves ((head k (by omega)).trans low) ((head (k + 1) inside).trans high)
  have accounts32 (k : Nat) (inside : k + 1 < 16) (n : Word32) (low : field x.ssrAccounts k = n.extractLsb' 0 16)
      (high : field x.ssrAccounts (k + 1) = n.extractLsb' 16 16) : field32 (x.ssrWords sweep) (40 + k) = n :=
    field32_of_halves ((accounts k (by omega)).trans low) ((accounts (k + 1) inside).trans high)
  refine ⟨x.ssrWords_length sweep, head 0 (by omega), (head 1 (by omega)).trans x.gate.adoptionResult_code,
    head 2 (by omega), head 3 (by omega), head32 4 (by omega) _ rfl rfl, head 6 (by omega), head 7 (by omega),
    head 8 (by omega), head 9 (by omega), head 10 (by omega), head 11 (by omega), head 12 (by omega),
    fun t is => (head 13 (by omega)).trans (x.sensor.word_some t is),
    fun is => (head 13 (by omega)).trans (x.sensor.word_none is), (head 14 (by omega)).trans x.sensor.stateWord_eq,
    head 15 (by omega), head 16 (by omega), head 17 (by omega), head 18 (by omega), head 19 (by omega),
    head32 20 (by omega) _ rfl rfl, head32 22 (by omega) _ rfl rfl, x.ssrWords_lanes sweep,
    accounts32 0 (by omega) _ rfl rfl, accounts32 2 (by omega) _ rfl rfl, accounts32 4 (by omega) _ rfl rfl,
    accounts 6 (by omega), accounts 7 (by omega), accounts32 8 (by omega) _ rfl rfl, accounts 10 (by omega),
    accounts 11 (by omega), accounts32 12 (by omega) _ rfl rfl, accounts32 14 (by omega) _ rfl rfl, fun k => ?_,
    tail 0 (by omega), tail 1 (by omega), tail 2 (by omega), tail 3 (by omega),
    field32_of_halves (tail 4 (by omega)) (tail 5 (by omega)), tail 6 (by omega), tail 7 (by omega),
    fun k past _ => x.ssrWords_padding sweep k past⟩
  have offset : 55 + k.code = 56 + k.ix.val := by cases k <;> rfl
  rw [offset]
  exact x.ssrWords_kinds sweep k.ix

end

/-! ## The fail record (TABLE 12-6) -/

/-- A fail record holds each value at its offset. -/
theorem FailRecord.words_fields (f : FailRecord) : failRecordFields f f.words := by
  let head : List Word := [f.sequence, natWord (f.kind.code + 256 * f.subcode),
    natWord (f.phase.code + 256 * f.details.length)] ++ words32 f.sweep ++ natWords32 f.dwell ++
    [f.voltage, f.current, f.temperature]
  have is : f.words = head ++ (f.details ++ List.replicate 6 0).take 6 := by
    simp only [FailRecord.words, head, List.append_assoc]
  have front (k : Nat) (inside : k < 10) : field f.words k = field head k := by
    rw [is]
    exact field_before head _ k inside
  refine ⟨?_, front 0 (by omega), front 1 (by omega), front 2 (by omega),
    field32_of_halves (front 3 (by omega)) (front 4 (by omega)),
    field32_of_halves (front 5 (by omega)) (front 6 (by omega)), front 7 (by omega), front 8 (by omega), front 9 (by omega),
    fun k inside => ?_⟩
  · rw [is]
    simp [head, words32, natWords32]
  · rw [is, field_after head _ 10 k rfl, field, List.getD_eq_getElem?_getD, List.getElem?_take_of_lt inside]
    by_cases held : k < f.details.length
    · rw [List.getElem?_append_left held, List.getD_eq_getElem?_getD]
    · rw [List.getElem?_append_right (by omega), List.getD_eq_getElem?_getD,
        List.getElem?_eq_none (Nat.le_of_not_lt held), List.getElem?_replicate]
      split <;> rfl

/-! ## The Board Status Record (TABLE 12-2) -/

section
variable (s : State)

/-- Words 0 to 23 of a Board Status Record. -/
def State.bsrHead (s : State) : List Word :=
  [natWord s.brc.state.code, natWord s.brc.shownReason.code,
    natWord s.scu.appliedConfigRev.toNat, natWord s.scu.configResult.code] ++
  words32 s.scu.sweepNumber ++ words32 s.time.runMs ++ words32 s.pxr.frameNumber ++
  [natWord s.scu.overrun, natWord s.scu.seenTag.toNat, natWord s.brc.acceptedTag.toNat,
    natWord s.brc.completedTag.toNat, natWord s.brc.result.code, natWord s.brc.detail,
    natWord s.brc.refusedTag.toNat, natWord s.brc.refusalReason.code, natWord s.brc.refusalCount,
    natWord s.brc.interlockCount, s.brc.mapGeneration, natWord s.brc.runFinished.toNat,
    natWord s.lockedMask, 0]

/-- Words 24 to 39. -/
def State.bsrFeeds (s : State) : List Word := s.banks.toList.flatMap fun b => words32 b.feed

/-- Words 48 to 55: the census. -/
def State.bsrCensus (s : State) : List Word :=
  [.empty, .waiting, .powering, .soaking, .stressing, .held, .complete, .retired].map fun p => natWord (s.census p)

theorem State.bsrWords_eq : s.bsrWords = s.bsrHead ++ (s.bsrFeeds ++
    (s.banks.toList.map (fun b => natWord b.tripCount) ++ (s.bsrCensus ++ List.replicate 72 0))) := by
  simp only [State.bsrWords, State.bsrHead, State.bsrFeeds, State.bsrCensus, List.append_assoc]

theorem State.bsrHead_length : s.bsrHead.length = 24 := rfl

theorem State.bsrFeeds_length : s.bsrFeeds.length = 16 := by
  simp [State.bsrFeeds, List.length_flatMap, words32, List.map_const']

theorem State.bsrCensus_length : s.bsrCensus.length = 8 := rfl

theorem State.bsrWords_head (k : Nat) (inside : k < 24) : field s.bsrWords k = field s.bsrHead k := by
  rw [State.bsrWords_eq]
  exact field_before _ _ k inside

theorem State.bsrWords_feed (b : BankIx) : field32 s.bsrWords (24 + 2 * b.val) = s.banks[b].feed := by
  have inside := b.isLt
  obtain ⟨low, high⟩ := field_words32 Bank.feed s.banks b
  rw [State.bsrWords_eq]
  exact field32_of_halves
    ((field_between _ _ _ 24 (2 * b.val) s.bsrHead_length (by rw [s.bsrFeeds_length]; omega)).trans low)
    ((field_between _ _ _ 24 (2 * b.val + 1) s.bsrHead_length (by rw [s.bsrFeeds_length]; omega)).trans high)

theorem State.bsrWords_trips (b : BankIx) : field s.bsrWords (40 + b.val) = natWord s.banks[b].tripCount := by
  rw [State.bsrWords_eq, ← List.append_assoc]
  refine (field_between _ _ _ 40 b.val (by simp [s.bsrHead_length, s.bsrFeeds_length]) (by simp)).trans ?_
  exact field_vector (fun b : Bank => natWord b.tripCount) s.banks b

theorem State.bsrWords_census (k : Nat) (inside : k < 8) : field s.bsrWords (48 + k) = field s.bsrCensus k := by
  rw [State.bsrWords_eq, ← List.append_assoc, ← List.append_assoc]
  exact field_between _ _ _ 48 k (by simp [s.bsrHead_length, s.bsrFeeds_length]) inside

theorem State.bsrWords_padding (k : Nat) (past : 56 ≤ k) : field s.bsrWords k = 0 := by
  obtain ⟨j, rfl⟩ := Nat.exists_eq_add_of_le past
  rw [State.bsrWords_eq, ← List.append_assoc, ← List.append_assoc, ← List.append_assoc,
    field_after _ _ 56 j (by simp [s.bsrHead_length, s.bsrFeeds_length, s.bsrCensus_length])]
  exact field_zeros 72 j

theorem State.bsrWords_length : s.bsrWords.length = 128 := by
  rw [State.bsrWords_eq]
  simp [s.bsrHead_length, s.bsrFeeds_length, s.bsrCensus_length]

/-- The Phase Census counts over the sockets by their number. -/
theorem State.census_eq (p : Phase) : s.census p = (List.finRange 32).countP fun i => (s.sock i).acct.phase == p := by
  have sockets : s.sockets.toList = (List.finRange 32).map s.sock := by
    refine List.ext_getElem (by simp) fun k here there => ?_
    simp [State.sock]
  rw [State.census, sockets, List.countP_map]
  rfl

theorem State.lockedMask_bits : s.lockedMask < 256 ∧ ∀ b : BankIx, (natWord s.lockedMask).getLsbD b.val = s.banks[b].locked := by
  have sum (f : Fin 8 → Bool) : let n := (List.finRange 8).foldl (fun n b => n + (if f b then 2 ^ b.val else 0)) 0
      n < 256 ∧ ∀ b : Fin 8, n / 2 ^ b.val % 2 = (f b).toNat := by
    have bit (b : Fin 8) : (if f b then 2 ^ b.val else 0) = 2 ^ b.val * (f b).toNat := by
      cases f b <;> simp
    have small (b : Fin 8) := (f b).toNat_lt
    simp only [bit]
    have total : (List.finRange 8).foldl (fun n b => n + 2 ^ b.val * (f b).toNat) 0 =
        0 + 1 * (f 0).toNat + 2 * (f 1).toNat + 4 * (f 2).toNat + 8 * (f 3).toNat + 16 * (f 4).toNat +
          32 * (f 5).toNat + 64 * (f 6).toNat + 128 * (f 7).toNat := rfl
    have b0 := small 0
    have b1 := small 1
    have b2 := small 2
    have b3 := small 3
    have b4 := small 4
    have b5 := small 5
    have b6 := small 6
    have b7 := small 7
    rw [total]
    refine ⟨by omega, fun b => ?_⟩
    match b with
    | 0 => exact show _ / 1 % 2 = _ by omega
    | 1 => exact show _ / 2 % 2 = _ by omega
    | 2 => exact show _ / 4 % 2 = _ by omega
    | 3 => exact show _ / 8 % 2 = _ by omega
    | 4 => exact show _ / 16 % 2 = _ by omega
    | 5 => exact show _ / 32 % 2 = _ by omega
    | 6 => exact show _ / 64 % 2 = _ by omega
    | 7 => exact show _ / 128 % 2 = _ by omega
  obtain ⟨small, bits⟩ := sum fun b => s.banks[b].locked
  exact ⟨small, fun b => natWord_bit _ b.val _ (bits b) (by omega)⟩

/-- The Board Status Record holds each value at its offset. -/
theorem State.bsrWords_fields : boardStatusFields s s.bsrWords := by
  have head := s.bsrWords_head
  have head32 (k : Nat) (inside : k + 1 < 24) (n : Word32) (low : field s.bsrHead k = n.extractLsb' 0 16)
      (high : field s.bsrHead (k + 1) = n.extractLsb' 16 16) : field32 s.bsrWords k = n :=
    field32_of_halves ((head k (by omega)).trans low) ((head (k + 1) inside).trans high)
  have mask : field s.bsrWords 22 = natWord s.lockedMask := head 22 (by omega)
  have reason : natWord s.brc.shownReason.code = BitVec.ofNat 16 (if s.brc.state = .holding then s.brc.reason.code else 0) := by
    unfold Brc.shownReason natWord
    split <;> rfl
  obtain ⟨small, bits⟩ := s.lockedMask_bits
  refine ⟨s.bsrWords_length, head 0 (by omega), (head 1 (by omega)).trans reason, head 2 (by omega), head 3 (by omega),
    head32 4 (by omega) _ rfl rfl, head32 6 (by omega) _ rfl rfl, head32 8 (by omega) _ rfl rfl, head 10 (by omega),
    head 11 (by omega), head 12 (by omega), head 13 (by omega), head 14 (by omega), head 15 (by omega),
    head 16 (by omega), head 17 (by omega), head 18 (by omega), head 19 (by omega), head 20 (by omega),
    head 21 (by omega), fun b => ⟨by rw [mask]; exact bits b, s.bsrWords_feed b, s.bsrWords_trips b⟩, fun p => ?_, ?_,
    head 23 (by omega), fun k past _ => s.bsrWords_padding k past⟩
  · rw [← s.census_eq p]
    have inside : p.code < 8 := by cases p <;> decide
    refine (s.bsrWords_census p.code inside).trans ?_
    cases p <;> rfl
  · rw [mask]
    exact natWord_field _ 8 8 0 (by omega) (by omega)

end

end Sys2Proof.Machine
end

section
/-! The arbiter beside the blocks: what the blocks do asks nothing of the port, and what the Scan Unit asks of it once a
transfer has released it (R12). -/

namespace Sys2Proof.Machine

/-! ## The port of another controller -/

/-- A state with the controller `m`, but for the ATTENTION register, which the blocks set. -/
def State.withPort (s : State) (m : Smc) : State := { s with smc := { m with attention := s.smc.attention } }

theorem State.releasePort_eq (s : State) : s.releasePort = s.withPort s.smc.release := by
  have same : { s.smc.release with attention := s.smc.attention } = s.smc.release := by
    rw [← Smc.release_attention]
  unfold State.releasePort State.withPort
  rw [same]

theorem State.withPort_ite (m : Smc) {p : Prop} [Decidable p] {a b c d : State} (yes : c = a.withPort m)
    (no : d = b.withPort m) : (if p then c else d) = (if p then a else b).withPort m := by
  split
  · exact yes
  · exact no

section
variable (s : State) (m : Smc)

theorem State.withPort_sock (i : SocketIx) : (s.withPort m).sock i = s.sock i := rfl

theorem State.raise_withPort (c : Cause) : (s.withPort m).raise c = (s.raise c).withPort m := rfl

theorem State.raiseIf_withPort (b : Bool) (c : Cause) : (s.withPort m).raiseIf b c = (s.raiseIf b c).withPort m := by
  unfold State.raiseIf
  split <;> rfl

theorem State.updAll_withPort (f : SocketIx → Socket → Socket) :
    (s.withPort m).updAll f = (s.updAll f).withPort m := by
  rw [State.updAll_eq, State.updAll_eq]
  rfl

theorem State.updSock_withPort (i : SocketIx) (f : Socket → Socket) :
    (s.withPort m).updSock i f = (s.updSock i f).withPort m := by
  rw [State.updSock_eq, State.updSock_eq]
  rfl

theorem State.completeWith_withPort (tag : Byte8) (r : CmdResult) (d : Nat) :
    (s.withPort m).completeWith tag r d = (s.completeWith tag r d).withPort m := rfl

theorem State.completeChannel_withPort (r : CmdResult) (d : Nat) :
    (s.withPort m).completeChannel r d = (s.completeChannel r d).withPort m := by
  unfold State.completeChannel
  change (match s.brc.channel with | some ch => _ | none => _) = _
  cases s.brc.channel <;> rfl

theorem State.refuse_withPort (tag : Byte8) (why : RefusalReason) :
    (s.withPort m).refuse tag why = (s.refuse tag why).withPort m := rfl

theorem State.enterHold_withPort (r : HoldReason) : (s.withPort m).enterHold r = (s.enterHold r).withPort m := by
  unfold State.enterHold
  rw [State.updAll_withPort]
  rfl

theorem State.checkStopped_withPort : (s.withPort m).checkStopped = s.checkStopped.withPort m := by
  unfold State.checkStopped
  exact State.withPort_ite m (State.completeChannel_withPort (s.setBoard .stopped .none) m _ _) rfl

theorem State.beginRun_withPort : (s.withPort m).beginRun = s.beginRun.withPort m := by
  unfold State.beginRun
  rw [State.updAll_withPort]
  rfl

theorem State.resumeRun_withPort : (s.withPort m).resumeRun = s.resumeRun.withPort m := by
  unfold State.resumeRun
  rw [State.updAll_withPort]
  rfl

theorem State.stopRunning_withPort : (s.withPort m).stopRunning = s.stopRunning.withPort m := by
  unfold State.stopRunning
  rw [State.updAll_withPort]
  rfl

theorem State.clearAccounts_withPort (mask : Word32) :
    (s.withPort m).clearAccounts mask = (s.clearAccounts mask).withPort m := by
  unfold State.clearAccounts
  dsimp only
  rw [State.updAll_withPort, State.updAll_withPort]
  rfl

theorem State.fillDone_withPort : (s.withPort m).fillDone = s.fillDone.withPort m := by
  unfold State.fillDone
  dsimp only
  rw [State.updAll_withPort]
  exact State.completeChannel_withPort { s.updAll _ with brc := _ } m _ _

theorem State.displace_withPort : (s.withPort m).displace = s.displace.withPort m := by
  unfold State.displace
  change (match s.brc.channel with | none => _ | some ch => _) = _
  cases s.brc.channel with
  | none => rfl
  | some ch =>
    dsimp only
    split
    · exact State.completeChannel_withPort _ m _ _
    · exact State.completeChannel_withPort { s with pxr := s.pxr.discard } m _ _
    · exact State.fillDone_withPort s m
    · exact State.completeChannel_withPort _ m _ _
    · rw [State.updAll_withPort]
      exact State.completeChannel_withPort _ m _ _
    · exact State.completeChannel_withPort _ m _ _

theorem State.judge_withPort (c : Command) : (s.withPort m).judge c = (s.judge c).withPort m := by
  have accept : (s.withPort m).accept c = (s.accept c).withPort m := rfl
  unfold State.judge
  cases c.code with
  | none => rfl
  | some code =>
    cases code with
    | startRun =>
      dsimp only [State.judgeStart]
      rw [accept, State.beginRun_withPort]
      exact State.withPort_ite m rfl (State.withPort_ite m rfl rfl)
    | hold =>
      dsimp only [State.judgeHold]
      rw [accept, State.enterHold_withPort]
      exact State.withPort_ite m rfl rfl
    | resume =>
      dsimp only [State.judgeResume]
      rw [accept, State.resumeRun_withPort]
      exact State.withPort_ite m rfl rfl
    | stopRun =>
      let t := (s.accept c).holdChannel c .stopRun .ramping
      have holds : ((s.withPort m).accept c).holdChannel c .stopRun .ramping = t.withPort m := rfl
      dsimp only [State.judgeStop]
      rw [holds, State.stopRunning_withPort, State.checkStopped_withPort]
      change (match s.brc.state with | .stopped => _ | .stopping => _ | .running => _ | .holding => _) = _
      cases s.brc.state with
      | stopped => rfl
      | stopping => exact State.checkStopped_withPort (t.setBoard .stopping .none) m
      | running => rfl
      | holding => rfl
    | loadLaneMap => rfl
    | fillLaneMap => exact State.withPort_ite m rfl (State.withPort_ite m rfl rfl)
    | clearAccounts =>
      dsimp only [State.judgeClear]
      rw [accept, State.clearAccounts_withPort]
      exact State.withPort_ite m rfl rfl
    | diagnose => exact State.withPort_ite m rfl (State.withPort_ite m rfl rfl)

theorem State.handOff_withPort (c : Command) : (s.withPort m).handOff c = (s.handOff c).withPort m := by
  have seen : { s.withPort m with scu := { s.scu with seenTag := c.tag } } = (s.seen c.tag).withPort m := rfl
  unfold State.handOff State.takeCommand
  dsimp only
  refine State.withPort_ite m rfl ?_
  exact (congrArg (fun t : State => t.judge c) (State.displace_withPort (s.seen c.tag) m)).trans
    (State.judge_withPort _ m c)

theorem State.dueCompletion_withPort : (s.withPort m).dueCompletion = s.dueCompletion.withPort m := by
  unfold State.dueCompletion
  change (match s.brc.channel with | some ch => _ | none => _) = _
  cases s.brc.channel with
  | none => rfl
  | some ch =>
    refine State.withPort_ite m ?_ rfl
    cases ch.code with
    | fillLaneMap => exact s.fillDone_withPort m
    | _ => exact s.completeChannel_withPort m _ _

theorem State.finishCheck_withPort : (s.withPort m).finishCheck = s.finishCheck.withPort m :=
  State.withPort_ite m rfl rfl

theorem State.headerWork_withPort : (s.withPort m).headerWork = s.headerWork.withPort m := by
  unfold State.headerWork
  rw [State.dueCompletion_withPort, State.finishCheck_withPort]

theorem State.takeConfig_withPort (r : List Word) : (s.withPort m).takeConfig r = (s.takeConfig r).withPort m := by
  refine State.withPort_ite m rfl (State.withPort_ite m rfl (State.withPort_ite m ?_ rfl))
  unfold State.adoptConfig
  dsimp only
  rw [State.updAll_withPort]
  rfl

theorem State.takeTag_withPort (r : List Word) : (s.withPort m).takeTag r = (s.takeTag r).withPort m :=
  State.withPort_ite m rfl (s.handOff_withPort m _)

/-- The header with its stale visit counted. -/
def State.headerMissed (s : State) : State :=
  let n := satAdd max16 s.scu.headerStale 1
  { s with scu := { s.scu with
    headerStale := n, headerStaleReported := s.scu.headerStaleReported || decide (s.scu.config.staleLimit ≤ n) } }

/-- The header with its run of stale visits ended. -/
def State.headerFresh (s : State) : State :=
  { s with scu := { s.scu with headerStale := 0, headerStaleReported := false } }

theorem State.headerRead_withPort (rec : Option (List Word)) :
    (s.withPort m).headerRead rec = (s.headerRead rec).withPort m := by
  cases rec with
  | none => exact State.raiseIf_withPort s.headerMissed m _ _
  | some r =>
    refine State.withPort_ite m ?_ rfl
    exact (congrArg (fun u : State => u.takeTag r) (s.headerFresh.takeConfig_withPort m r)).trans
      (State.takeTag_withPort _ m r)

theorem State.takeChunk_withPort (k : Nat) (rec : Option (List Word)) :
    (s.withPort m).takeChunk k rec = (s.takeChunk k rec).withPort m := by
  refine State.withPort_ite m ?_ rfl
  have fails (res : CmdResult) (d : Nat) : (s.withPort m).failLoad res d = (s.failLoad res d).withPort m :=
    State.completeChannel_withPort { s with pxr := s.pxr.discard } m res d
  cases rec with
  | none => exact fails _ _
  | some r =>
    dsimp only
    split
    · exact fails _ _
    · exact State.withPort_ite m rfl rfl

theorem State.closeSweep_withPort : (s.withPort m).closeSweep = s.closeSweep.withPort m := by
  unfold State.closeSweep State.fillAtEnd
  change (match s.brc.channel with | some ch => _ | none => _) = State.withPort (match s.brc.channel with | some ch => _ | none => _) m
  cases s.brc.channel with
  | none => rfl
  | some ch =>
    dsimp only
    split <;> rfl

end

/-! ## The request after a release (R12) -/

/-- A transfer asked for once the port has been released is granted, or waits behind the host's waiting word. -/
theorem asksFor_released (m : Smc) (a : BitVec 11) (t : Transfer) (waits : m.scanWaiting = none) :
    asksFor (requested { m.release with attention := a } t) m.hostWaiting t := by
  obtain ⟨free, host, -⟩ := m.released_release
  constructor
  · intro none
    obtain ⟨owner, -⟩ := free none waits
    unfold requested
    rw [if_pos owner]
    exact ⟨rfl, rfl, rfl, rfl⟩
  · intro waiting
    obtain ⟨owner, last, transfer, hostWaiting, -⟩ := host waiting waits
    unfold requested
    rw [if_neg (by rw [owner]; nofun)]
    exact ⟨owner, last, rfl, transfer, hostWaiting⟩

theorem State.asksFor_requestScan (s t : State) (f : Transfer) (waits : s.smc.scanWaiting = none) :
    asksFor ((t.withPort s.smc.release).requestScan f).smc s.smc.hostWaiting f :=
  asksFor_released s.smc t.smc.attention f waits

end Sys2Proof.Machine
end

section
/-! The header visit (sections 2.2 to 2.4, 3.2 and 3.9): the header-visit work, the end of the BCR read, and the statements
about a stale and about a synchronizing visit. -/

namespace Sys2Proof.Machine

/-! ## The header-visit work (R52, R64) -/

section
variable (s : State)

/-- The condition of the run-finished check. -/
def State.runFinishes (s : State) : Prop :=
  (s.brc.state = .running ∨ s.brc.state = .holding) ∧ s.brc.runFinished = false ∧
    ((List.finRange 32).all fun i => !s.sockets[i].acct.phase.reporting) = true

theorem State.finishCheck_finishes (finishes : s.runFinishes) :
    s.finishCheck = { s with brc := { s.brc with runFinished := true } }.raise .runFinished := if_pos finishes

theorem State.finishCheck_stands (stands : ¬s.runFinishes) : s.finishCheck = s := if_neg stands

theorem State.finishCheck_eq : s.finishCheck = { s with
    brc := { s.brc with runFinished := s.finishCheck.brc.runFinished }
    smc := { s.smc with attention := s.finishCheck.smc.attention } } := by
  by_cases finishes : s.runFinishes
  · rw [s.finishCheck_finishes finishes]
    rfl
  · rw [s.finishCheck_stands finishes]

theorem State.finishCheck_attention (n : Nat) (other : n ≠ Cause.runFinished.bit) :
    s.finishCheck.smc.attention.getLsbD n = s.smc.attention.getLsbD n := by
  by_cases finishes : s.runFinishes
  · rw [s.finishCheck_finishes finishes]
    exact Cause.stands _ n _ other
  · rw [s.finishCheck_stands finishes]

theorem State.finishCheck_checked : runFinishChecked s.brc.runFinished s.finishCheck := by
  have none : ((List.finRange 32).all fun i => !s.sockets[i].acct.phase.reporting) = true ↔
      ∀ i : SocketIx, (s.sock i).acct.phase.reporting = false := by
    simp [State.sock]
  by_cases finishes : s.runFinishes
  · rw [s.finishCheck_finishes finishes]
    obtain ⟨board, -, all⟩ := finishes
    exact ⟨iff_of_true rfl (.inr ⟨board, none.mp all⟩), fun _ _ => Cause.raised _ _⟩
  · rw [s.finishCheck_stands finishes]
    refine ⟨⟨.inl, fun ended => ?_⟩, fun before after => ?_⟩
    · rcases ended with before | ⟨board, all⟩
      · exact before
      · exact Bool.not_eq_false _ ▸ fun clear => finishes ⟨board, clear, none.mpr all⟩
    · rw [before] at after
      cases after

theorem State.dueCompletion_stands (stands : ∀ ch, s.brc.channel = some ch → ch.step ≠ .doneWait) :
    s.dueCompletion = s := by
  unfold State.dueCompletion
  split
  · next ch busy => exact if_neg (stands ch busy)
  · rfl

theorem State.dueCompletion_fill {ch : Channel} (busy : s.brc.channel = some ch) (waits : ch.step = .doneWait)
    (fill : ch.code = .fillLaneMap) : s.dueCompletion = s.fillDone := by
  unfold State.dueCompletion
  rw [busy]
  dsimp only
  rw [if_pos waits, fill]

/-- The detail of a completion at a header visit (R60). -/
def State.completionDetail (s : State) (ch : Channel) : Nat :=
  if ch.code = .diagnose then (List.finRange 32).countP fun i =>
    ch.mask.getLsbD i.val && (s.sock i).ex.diagResult == .fail
  else 0

theorem State.dueCompletion_other {ch : Channel} (busy : s.brc.channel = some ch) (waits : ch.step = .doneWait)
    (other : ch.code ≠ .fillLaneMap) : s.dueCompletion = s.completeChannel .success (s.completionDetail ch) := by
  unfold State.dueCompletion State.completionDetail
  rw [busy]
  dsimp only
  rw [if_pos waits]
  cases code : ch.code with
  | fillLaneMap => exact absurd code other
  | diagnose => rfl
  | _ => rfl

/-- The work changes the board, a fill's sockets and the ATTENTION register. -/
theorem State.headerWork_only : s.headerWork = { s with
    brc := s.headerWork.brc, sockets := s.headerWork.sockets
    smc := { s.smc with attention := s.headerWork.smc.attention } } := by
  have due : s.dueCompletion = { s with
      brc := s.dueCompletion.brc, sockets := s.dueCompletion.sockets
      smc := { s.smc with attention := s.dueCompletion.smc.attention } } := by
    cases channel : s.brc.channel with
    | none => rw [s.dueCompletion_stands (by rw [channel]; nofun)]
    | some ch =>
      by_cases waits : ch.step = .doneWait
      · by_cases fill : ch.code = .fillLaneMap
        · rw [s.dueCompletion_fill channel waits fill, s.fillDone_busy channel]
          rfl
        · rw [s.dueCompletion_other channel waits fill, s.completeChannel_busy channel]
          rfl
      · rw [s.dueCompletion_stands (by rw [channel]; intro _ is; cases is; exact waits)]
  have check := s.dueCompletion.finishCheck_eq
  unfold State.headerWork
  rw [check, due]

/-- What the work leaves of the command in progress and of the run. -/
theorem State.headerWork_looksDone : commandLooksDone s s.headerWork := by
  have only := s.headerWork_only
  have check := s.dueCompletion.finishCheck_eq
  have checked := s.dueCompletion.finishCheck_checked
  have others := s.dueCompletion.finishCheck_attention
  have brc : s.headerWork.brc = { s.dueCompletion.brc with runFinished := s.headerWork.brc.runFinished } :=
    congrArg (·.brc) check
  have sockets : s.headerWork.sockets = s.dueCompletion.sockets := congrArg (·.sockets) check
  have flag : s.dueCompletion.brc.runFinished = s.brc.runFinished := by
    cases channel : s.brc.channel with
    | none => rw [s.dueCompletion_stands (by rw [channel]; nofun)]
    | some ch =>
      by_cases waits : ch.step = .doneWait
      · by_cases fill : ch.code = .fillLaneMap
        · rw [s.dueCompletion_fill channel waits fill, s.fillDone_busy channel]
        · rw [s.dueCompletion_other channel waits fill, s.completeChannel_busy channel]
      · rw [s.dueCompletion_stands (by rw [channel]; intro _ is; cases is; exact waits)]
  rw [flag] at checked
  refine ⟨congrArg (·.pxr) only, congrArg (·.banks) only, checked, fun stands => ?_, fun ch busy waits => ?_⟩
  · have same := s.dueCompletion_stands stands
    rw [same] at brc sockets others
    exact ⟨brc, sockets, fun n other => (congrArg (fun t : State => t.finishCheck.smc.attention.getLsbD n) same).trans
      (others n other)⟩
  · have done (k : Nat) (other : k ≠ Cause.commandDone.bit) : s.dueCompletion.smc.attention.getLsbD k =
        s.smc.attention.getLsbD k ∧ s.dueCompletion.smc.attention.getLsbD Cause.commandDone.bit = true := by
      by_cases fill : ch.code = .fillLaneMap
      · rw [s.dueCompletion_fill busy waits fill, s.fillDone_busy busy]
        exact ⟨Cause.stands _ k _ other, Cause.raised _ _⟩
      · rw [s.dueCompletion_other busy waits fill, s.completeChannel_busy busy]
        exact ⟨Cause.stands _ k _ other, Cause.raised _ _⟩
    refine ⟨(others _ (by decide)).trans (done 0 (by decide)).2, fun n notFinished notDone =>
      (others n notFinished).trans (done n notDone).1, brc.trans ?_, fun other => ?_, fun fill i => ?_⟩
    · by_cases fill : ch.code = .fillLaneMap
      · rw [s.dueCompletion_fill busy waits fill, s.fillDone_busy busy, if_pos fill, if_neg (by rw [fill]; nofun)]
      · rw [s.dueCompletion_other busy waits fill, s.completeChannel_busy busy, if_neg fill]
        rfl
    · rw [sockets, s.dueCompletion_other busy waits other, s.completeChannel_busy busy]
    · have socks : s.headerWork.sock i = s.fillDone.sock i := by
        unfold State.sock
        rw [sockets, s.dueCompletion_fill busy waits fill]
      rw [socks, s.fillDone_sock]
      exact Socket.checkRoles_rolesChecked _ _ _

end

/-- What the work leaves asks only of some blocks. -/
theorem commandLooksDone_of_same {p t u : State} (looks : commandLooksDone p u) (brc : t.brc = u.brc)
    (sockets : t.sockets = u.sockets) (pxr : t.pxr = u.pxr) (banks : t.banks = u.banks)
    (attention : t.smc.attention = u.smc.attention) : commandLooksDone p t := by
  have sock (i : SocketIx) : t.sock i = u.sock i := congrArg (fun v : Vector Socket 32 => v[i]) sockets
  simpa only [commandLooksDone, runFinishChecked, brc, sockets, pxr, banks, attention, sock] using looks

/-! ## The end of the BCR read (R27) -/

theorem requested_attention (m : Smc) (t : Transfer) : (requested m t).attention = m.attention := by
  unfold requested
  split <;> rfl

section
variable (s : State) (u : BitVec 3) (live : s.pins.por = false) (reads : s.transferring = some .bcrRead)

/-- The state at the request of the BSR write, the port apart. -/
def State.headerVisited (s : State) (u : BitVec 3) : State := (s.headerRead (s.readRecord bcrBase 128 u)).headerWork

include live reads in
/-- A header visit without events before its request. -/
theorem exec_bcrReadComplete : exec (.bcrReadComplete u []) s =
    .next (((s.headerVisited u).withPort s.smc.release).requestScan (.bsrWrite (s.headerVisited u).bsrWords)) := by
  have done : s.bcrDone u [] =
      ((s.releasePort.headerRead (s.readRecord bcrBase 128 u)).headerWork.visitEvents []).writeHeader := by
    unfold State.bcrDone
    rw [reads]
  refine congrArg Host.Outcome.next ((s.live_of_released _ live).trans (done.trans ?_))
  rw [s.releasePort_eq, State.headerRead_withPort, State.headerWork_withPort]
  rfl

/-- The state after a header visit, the port apart. -/
theorem State.headerVisit_blocks (v : State) (ws : List Word) :
    let t := (v.withPort s.smc.release).requestScan (.bsrWrite ws)
    t = { v with smc := t.smc } ∧ t.smc.attention = v.smc.attention :=
  ⟨rfl, requested_attention _ _⟩

theorem State.headerVisit_fields (v : State) (m : Smc) :
    boardStatusFields ((v.withPort m).requestScan (.bsrWrite v.bsrWords)) v.bsrWords := by
  have words : ((v.withPort m).requestScan (.bsrWrite v.bsrWords)).bsrWords = v.bsrWords := rfl
  have fields := State.bsrWords_fields ((v.withPort m).requestScan (.bsrWrite v.bsrWords))
  rw [words] at fields
  exact fields

include live reads in
/-- A header visit that hands nothing over: the state `p` that the read leaves, its work, and the request of the BSR
write. -/
theorem headerVisit_looksDone (waits : s.smc.scanWaiting = none) (p : State)
    (reading : s.headerRead (s.readRecord bcrBase 128 u) = p) (keeps : p = { s with scu := p.scu, smc := p.smc }) :
    ∃ t ws, exec (.bcrReadComplete u []) s = .next t ∧
      t = { s with scu := p.scu, smc := t.smc, brc := t.brc, sockets := t.sockets } ∧ commandLooksDone p t ∧
      asksFor t.smc s.smc.hostWaiting (.bsrWrite ws) ∧ boardStatusFields t ws := by
  have visited : s.headerVisited u = p.headerWork := congrArg State.headerWork reading
  have visit := exec_bcrReadComplete s u live reads
  rw [visited] at visit
  refine ⟨_, _, visit, ?_, ?_, s.asksFor_requestScan _ _ waits, State.headerVisit_fields _ _⟩
  · have blocks := (s.headerVisit_blocks p.headerWork p.headerWork.bsrWords).1
    generalize ((p.headerWork.withPort s.smc.release).requestScan (.bsrWrite p.headerWork.bsrWords)) = t at blocks ⊢
    rw [p.headerWork_only, keeps] at blocks
    rw [blocks]
  · exact commandLooksDone_of_same p.headerWork_looksDone rfl rfl rfl rfl (requested_attention _ _)

end

/-- A stale read of the header (R30). -/
theorem State.staleHeader_eq (s : State) : let n := min 65535 (s.scu.headerStale + 1)
    let reach : Bool := s.scu.config.staleLimit ≤ n
    s.staleHeader = { s with
      scu := { s.scu with headerStale := n, headerStaleReported := s.scu.headerStaleReported || reach }
      smc := { s.smc with attention := if s.scu.headerStaleReported = false ∧ reach = true
        then s.smc.attention ||| Cause.controlStale.mask else s.smc.attention } } := by
  unfold State.staleHeader State.raiseIf
  dsimp only [satAdd, max16]
  by_cases reports : s.scu.headerStaleReported = false ∧
      decide (s.scu.config.staleLimit ≤ min 65535 (s.scu.headerStale + 1)) = true
  · rw [if_pos reports, if_pos (by rw [reports.1, reports.2]; rfl)]
    rfl
  · rw [if_neg reports, if_neg]
    rw [Bool.and_eq_true, Bool.not_eq_true']
    exact reports

/-- Settles O26: the header-visit work and the BSR write follow the state that the stale read leaves. -/
theorem staleHeaderVisitsKeepTheConfiguration : Obligations.StaleHeaderVisitsKeepTheConfiguration := by
  intro s u live reads waits bad n reach p
  have none : s.readRecord bcrBase 128 u = none := Option.isNone_iff_eq_none.mp bad
  refine headerVisit_looksDone s u live reads waits p ?_ rfl
  rw [none]
  exact s.staleHeader_eq

/-- Settles O27: the header-visit work and the BSR write follow the state that the synchronizing read leaves. -/
theorem headerSynchronizingVisit : Obligations.HeaderSynchronizingVisit := by
  intro s u r live reads fresh waits good p
  refine headerVisit_looksDone s u live reads waits p ?_ rfl
  rw [good]
  exact if_neg (by rw [fresh]; nofun)

end Sys2Proof.Machine
end

section
/-! The configuration revision of a header visit (R33, R34, R35, TABLE 2-1, TABLE 12-1). -/

namespace Sys2Proof.Machine

/-! ## The record (R34, R187) -/

section
variable (r : List Word)

/-- The configuration that validation makes of a record. -/
def BoardConfig.validated (r : List Word) : BoardConfig := (BoardConfig.ofBcr r).clamp

theorem configCodesGood_iff : configCodesGood r = true ↔ restartsListed r := by
  have code (w : Word) : (restartOf w).isSome = true ↔ w.toNat ≤ 1 := by
    rw [Word.le_one_iff]
    unfold restartOf
    by_cases zero : w = 0
    · rw [if_pos zero]
      exact iff_of_true rfl (.inl zero)
    · rw [if_neg zero]
      by_cases one : w = 1
      · rw [if_pos one]
        exact iff_of_true rfl (.inr one)
      · rw [if_neg one]
        exact iff_of_false nofun fun is => is.elim zero one
  unfold configCodesGood restartsListed
  rw [List.all_eq_true]
  constructor
  · exact fun good g => (code _).mp (good g.val (List.mem_range.mpr g.isLt))
  · exact fun listed g inside => (code _).mpr (listed ⟨g, List.mem_range.mp inside⟩)

theorem configFields_valid : ∀ f ∈ configFields r (BoardConfig.validated r), f.valid := by
  let w (k : Nat) : Nat := (field r k).toNat
  have nat (lo hi n : Nat) (range : lo ≤ hi) := FieldCheck.valid_nat lo hi n range
  have limit : (⟨(field r 5).toInt, 800, 3200, none, clampInt 800 3200 (field r 5).toInt⟩ : FieldCheck).valid :=
    FieldCheck.valid_clamp (by omega) rfl
  simp only [configFields, List.forall_mem_append, List.forall_mem_cons, List.not_mem_nil, false_imp_iff, implies_true,
    and_true, List.forall_mem_map]
  refine ⟨⟨nat 4 250 (w 1) (by omega), nat 1 255 (w 2) (by omega), nat 1024 65535 (w 3) (by omega),
    nat 100 25000 (w 4) (by omega), limit, nat 1 16 (w 6) (by omega)⟩, fun b _ => ?_⟩
  have budget : (BoardConfig.validated r).budgets[b] = clampNat 1000 60000 (w (16 + b.val)) := by
    simp [BoardConfig.validated, BoardConfig.clamp, BoardConfig.ofBcr, w]
  rw [budget]
  exact nat 1000 60000 _ (by omega)

theorem BoardConfig.validated_seed (g : Fin 4) :
    (BoardConfig.validated r).seeds[g] = if seedRead r g = 0 then 1 else seedRead r g := by
  have read : (BoardConfig.ofBcr r).seeds[g] = seedRead r g := Vector.getElem_ofFn _
  rw [← read]
  exact Vector.getElem_ofFn _

theorem BoardConfig.validated_restart (g : Fin 4) :
    (BoardConfig.validated r).restarts[g] = (restartOf (field r (12 + g.val))).getD .restart :=
  Vector.getElem_ofFn _

theorem configValidated_validated : configValidated r (BoardConfig.validated r) := by
  refine ⟨configFields_valid r, fun g => ⟨BoardConfig.validated_seed r g, fun is => ?_, fun is => ?_⟩⟩ <;>
  · rw [BoardConfig.validated_restart, is]
    rfl

/-- No field was clamped and no seed replaced where the configuration is the one read. -/
theorem configAsRead_iff : configAsRead r (BoardConfig.validated r) ↔ BoardConfig.validated r = BoardConfig.ofBcr r := by
  let c := BoardConfig.ofBcr r
  have seed (g : Fin 4) : c.clamp.seeds[g] = if c.seeds[g] = 0 then 1 else c.seeds[g] := Vector.getElem_ofFn _
  have seedOf (g : Fin 4) : c.seeds[g] = seedRead r g := Vector.getElem_ofFn _
  have budgetOf (b : Fin 8) : (c.budgets[b] : Int) = (field r (16 + b.val)).toNat := congrArg _ (Vector.getElem_ofFn _)
  have fields : (∀ f ∈ configFields r c.clamp, f.held = f.read) ↔
      (c.clamp.sweepPeriod = c.sweepPeriod ∧ c.clamp.staleLimit = c.staleLimit ∧ c.clamp.frameLength = c.frameLength ∧
        c.clamp.vectorRate = c.vectorRate ∧ c.clamp.absLimit = c.absLimit ∧ c.clamp.deadTime = c.deadTime) ∧
      ∀ b : Fin 8, c.clamp.budgets[b] = c.budgets[b] := by
    simp only [configFields, List.forall_mem_append, List.forall_mem_cons, List.not_mem_nil, false_imp_iff,
      implies_true, and_true, List.forall_mem_map, ← budgetOf, Int.natCast_inj, List.mem_finRange, true_imp_iff]
    exact Iff.rfl
  change ((∀ f ∈ configFields r c.clamp, f.held = f.read) ∧ _) ↔ c.clamp = c
  rw [fields]
  constructor
  · rintro ⟨⟨⟨sweep, stale, frame, rate, limit, dead⟩, budgets⟩, seeds⟩
    have sameSeeds : c.clamp.seeds = c.seeds := Vector.ext fun k inside => by
      have own := seed ⟨k, inside⟩
      rw [seedOf, if_neg (seeds ⟨k, inside⟩), ← seedOf] at own
      exact own
    have sameBudgets : c.clamp.budgets = c.budgets := Vector.ext fun k inside => budgets ⟨k, inside⟩
    have all : c.clamp = { c with
        sweepPeriod := c.clamp.sweepPeriod, staleLimit := c.clamp.staleLimit, frameLength := c.clamp.frameLength
        vectorRate := c.clamp.vectorRate, absLimit := c.clamp.absLimit, deadTime := c.clamp.deadTime
        seeds := c.clamp.seeds, budgets := c.clamp.budgets } := rfl
    rw [all, sweep, stale, frame, rate, limit, dead, sameSeeds, sameBudgets]
  · intro same
    refine ⟨by rw [same]; simp, fun g zero => ?_⟩
    have replaced := seed g
    rw [same, seedOf, if_pos zero, zero] at replaced
    exact absurd replaced (by decide)

theorem BoardConfig.validated_ranges : let c := BoardConfig.validated r
    (4 ≤ c.sweepPeriod ∧ c.sweepPeriod ≤ 250) ∧ (1 ≤ c.staleLimit ∧ c.staleLimit ≤ 255) ∧
    (1024 ≤ c.frameLength ∧ c.frameLength ≤ 65535) ∧ (100 ≤ c.vectorRate ∧ c.vectorRate ≤ 25000) ∧
    (1 ≤ c.deadTime ∧ c.deadTime ≤ 16) ∧ (800 ≤ c.absLimit ∧ c.absLimit ≤ 3200) ∧
    (∀ g : Fin 4, c.seeds[g] ≠ 0) ∧ ∀ b : BankIx, 1000 ≤ c.budgets[b] ∧ c.budgets[b] ≤ 60000 := by
  refine ⟨?_, ?_, ?_, ?_, ?_, ?_, fun g => ?_, fun b => ?_⟩
  case refine_7 =>
    rw [BoardConfig.validated_seed]
    split
    · decide
    · assumption
  case refine_8 =>
    have budget : (BoardConfig.validated r).budgets[b] = clampNat 1000 60000 (BoardConfig.ofBcr r).budgets[b] :=
      Vector.getElem_ofFn _
    rw [budget, clampNat]
    omega
  all_goals
    simp only [BoardConfig.validated, BoardConfig.clamp, clampNat, clampInt]
    omega

end

/-! ## The sockets (R35) -/

/-- A socket with its settings brought within the limits of a configuration. -/
def Socket.fitted (c : BoardConfig) (x : Socket) : Socket :=
  { x with gate := { x.gate with shadow := { x.gate.shadow with num := x.gate.shadow.num.fitConfig c } } }

theorem Socket.fitted_settingsFitted (c : BoardConfig) (frame : 1 ≤ c.frameLength) (x : Socket) :
    settingsFitted c x (x.fitted c) := by
  refine ⟨?_, ?_, ?_, ?_, ?_, ?_, ?_, rfl, rfl⟩ <;> simp only [Socket.fitted, Numbers.fitConfig] <;> omega

/-! ## The revision (R33, R34) -/

section
variable (s : State) (r : List Word)

theorem State.takeConfig_same (same : field8 r 0 = s.scu.appliedConfigRev) : s.takeConfig r = s := if_pos same

theorem State.takeConfig_waits (changed : field8 r 0 ≠ s.scu.appliedConfigRev) (board : s.brc.state ≠ .stopped) :
    s.takeConfig r = { s with scu := { s.scu with configResult := .pending } } := (if_neg changed).trans (if_pos board)

section
variable (changed : field8 r 0 ≠ s.scu.appliedConfigRev) (board : s.brc.state = .stopped)
include changed board

theorem State.takeConfig_rejected (undefined : ¬restartsListed r) : s.takeConfig r =
    { s with scu := { s.scu with appliedConfigRev := field8 r 0, configResult := .rejected } } :=
  (if_neg changed).trans ((if_neg (by rw [board]; simp)).trans (if_neg (by rw [configCodesGood_iff]; exact undefined)))

theorem State.takeConfig_adopted (listed : restartsListed r) : s.takeConfig r = { s with
    scu := { s.scu with
      appliedConfigRev := field8 r 0, configAdopted := true, config := BoardConfig.validated r
      configResult := if BoardConfig.validated r = BoardConfig.ofBcr r then .adopted else .clamped }
    pxr := { s.pxr with
      pendingLength := (BoardConfig.validated r).frameLength, pendingRate := (BoardConfig.validated r).vectorRate
      reloadAll := true }
    sockets := Vector.ofFn fun i => s.sockets[i].fitted (BoardConfig.validated r) } := by
  refine (if_neg changed).trans ((if_neg (by rw [board]; simp)).trans
    ((if_pos ((configCodesGood_iff r).mpr listed)).trans ?_))
  unfold State.adoptConfig
  dsimp only
  rw [s.updAll_quiet _ fun i => Socket.ends_of_phase _ _ rfl]
  rfl

end

/-- The read's count of stale visits has no part in it. -/
theorem State.takeConfig_headerFresh : s.headerFresh.takeConfig r = (s.takeConfig r).headerFresh := by
  by_cases same : field8 r 0 = s.scu.appliedConfigRev
  · rw [s.takeConfig_same r same]
    exact s.headerFresh.takeConfig_same r same
  by_cases board : s.brc.state = .stopped
  · by_cases listed : restartsListed r
    · rw [s.takeConfig_adopted r same board listed, s.headerFresh.takeConfig_adopted r same board listed]
      rfl
    · rw [s.takeConfig_rejected r same board listed, s.headerFresh.takeConfig_rejected r same board listed]
      rfl
  · rw [s.takeConfig_waits r same board, s.headerFresh.takeConfig_waits r same board]
    rfl

end

end Sys2Proof.Machine
end

section
/-! The hand-over of a command in a header visit (R36, R51, R55), and the statement about the configuration revision and
the command tag. -/

namespace Sys2Proof.Machine

/-! ## What a hand-over leaves -/

/-- What the judgement of a command leaves as it is. -/
structure State.KeepsBase (s t : State) : Prop where
  mem : t.mem = s.mem
  epoch : t.epoch = s.epoch
  freeCount : t.freeCount = s.freeCount
  pins : t.pins = s.pins
  time : t.time = s.time
  pending : t.pending = s.pending
  scu : t.scu = { s.scu with chunkIndex := t.scu.chunkIndex }

theorem State.KeepsBase.trans {s t u : State} (f : s.KeepsBase t) (g : t.KeepsBase u) : s.KeepsBase u where
  mem := g.mem.trans f.mem
  epoch := g.epoch.trans f.epoch
  freeCount := g.freeCount.trans f.freeCount
  pins := g.pins.trans f.pins
  time := g.time.trans f.time
  pending := g.pending.trans f.pending
  scu := g.scu.trans (congrArg (fun c : Scu => { c with chunkIndex := u.scu.chunkIndex }) f.scu)

theorem State.KeepsBase.refl (s : State) : s.KeepsBase s := ⟨rfl, rfl, rfl, rfl, rfl, rfl, rfl⟩

/-- A state is known by its six fields that no command touches, and by its blocks. -/
theorem State.eq_of_base {s t : State} (mem : t.mem = s.mem) (epoch : t.epoch = s.epoch)
    (freeCount : t.freeCount = s.freeCount) (pins : t.pins = s.pins) (time : t.time = s.time)
    (pending : t.pending = s.pending) : t = { s with
      scu := t.scu, smc := t.smc, brc := t.brc, pxr := t.pxr, banks := t.banks, sockets := t.sockets } := by
  rw [← mem, ← epoch, ← freeCount, ← pins, ← time, ← pending]

section
variable (s : State)

theorem State.updAll_keepsBase (f : SocketIx → Socket → Socket) : s.KeepsBase (s.updAll f) := by
  rw [State.updAll_eq]
  exact ⟨rfl, rfl, rfl, rfl, rfl, rfl, rfl⟩

theorem State.completeWith_keepsBase (tag : Byte8) (res : CmdResult) (d : Nat) : s.KeepsBase (s.completeWith tag res d) :=
  ⟨rfl, rfl, rfl, rfl, rfl, rfl, rfl⟩

theorem State.completeChannel_keepsBase (res : CmdResult) (d : Nat) : s.KeepsBase (s.completeChannel res d) := by
  unfold State.completeChannel
  split
  · exact s.completeWith_keepsBase _ _ _
  · exact .refl s

theorem State.refuse_keepsBase (tag : Byte8) (why : RefusalReason) : s.KeepsBase (s.refuse tag why) :=
  ⟨rfl, rfl, rfl, rfl, rfl, rfl, rfl⟩

theorem State.checkStopped_keepsBase : s.KeepsBase s.checkStopped := by
  unfold State.checkStopped
  split
  · have board : s.KeepsBase (s.setBoard .stopped .none) := ⟨rfl, rfl, rfl, rfl, rfl, rfl, rfl⟩
    exact board.trans (State.completeChannel_keepsBase _ _ _)
  · exact .refl s

/-- Every change of the board's fields, of the banks, of the exerciser and of the sockets keeps the rest. -/
theorem State.KeepsBase.of_blocks {s t : State} {smc : Smc} {brc : Brc} {pxr : Pxr} {banks : Vector Bank 8}
    {sockets : Vector Socket 32} (k : s.KeepsBase t) : s.KeepsBase { t with smc, brc, pxr, banks, sockets } :=
  ⟨k.mem, k.epoch, k.freeCount, k.pins, k.time, k.pending, k.scu⟩

theorem State.displace_keepsBase : s.KeepsBase s.displace := by
  have complete (t : State) (k : s.KeepsBase t) (res : CmdResult) (d : Nat) : s.KeepsBase (t.completeChannel res d) :=
    k.trans (t.completeChannel_keepsBase res d)
  unfold State.displace
  split
  · exact .refl s
  · split
    · exact complete s (.refl s) _ _
    · exact complete _ (.of_blocks (.refl s)) _ _
    · exact complete _ (.of_blocks (s.updAll_keepsBase _)) _ _
    · exact complete s (.refl s) _ _
    · exact complete _ (s.updAll_keepsBase _) _ _
    · exact complete s (.refl s) _ _

theorem State.judge_keepsBase (c : Command) : s.KeepsBase (s.judge c) := by
  have accepted : s.KeepsBase (s.accept c) := ⟨rfl, rfl, rfl, rfl, rfl, rfl, rfl⟩
  have all (f : SocketIx → Socket → Socket) : s.KeepsBase ((s.accept c).updAll f) :=
    accepted.trans ((s.accept c).updAll_keepsBase f)
  have refused := s.refuse_keepsBase c.tag
  unfold State.judge
  split
  · exact refused _
  · unfold State.judgeStart
    split
    · exact refused _
    · split
      · exact refused _
      · exact .trans (.of_blocks (all _)) (State.completeWith_keepsBase _ _ _ _)
  · unfold State.judgeHold
    split
    · exact refused _
    · exact .trans (.of_blocks (all _)) (State.completeWith_keepsBase _ _ _ _)
  · unfold State.judgeResume
    split
    · exact refused _
    · exact .trans (.of_blocks (all _)) (State.completeWith_keepsBase _ _ _ _)
  · unfold State.judgeStop
    split
    · exact accepted.trans ((s.accept c).completeWith_keepsBase _ _ _)
    · exact .trans (.of_blocks accepted) (State.checkStopped_keepsBase _)
    · exact .trans (.of_blocks (.trans (.of_blocks accepted) (State.updAll_keepsBase _ _))) (State.checkStopped_keepsBase _)
    · exact .trans (.of_blocks (.trans (.of_blocks accepted) (State.updAll_keepsBase _ _))) (State.checkStopped_keepsBase _)
  · exact ⟨rfl, rfl, rfl, rfl, rfl, rfl, rfl⟩
  · unfold State.judgeFill
    split
    · exact refused _
    · split
      · exact .of_blocks accepted
      · exact refused _
  · unfold State.judgeClear
    split
    · exact refused _
    · exact .trans (.of_blocks ((all _).trans (State.updAll_keepsBase _ _))) (State.completeWith_keepsBase _ _ _ _)
  · unfold State.judgeDiagnose
    split
    · exact refused _
    · split
      · exact accepted.trans ((s.accept c).completeWith_keepsBase _ _ _)
      · exact .of_blocks accepted

theorem State.takeCommand_keepsBase (c : Command) : s.KeepsBase (s.takeCommand c) := by
  unfold State.takeCommand
  split
  · exact s.refuse_keepsBase _ _
  · exact s.displace_keepsBase.trans (State.judge_keepsBase _ c)

theorem State.handOff_keepsBase (c : Command) : (s.seen c.tag).KeepsBase (s.handOff c) :=
  State.takeCommand_keepsBase (s.seen c.tag) c

theorem State.headerWork_keepsBase : s.KeepsBase s.headerWork := by
  rw [s.headerWork_only]
  exact .of_blocks (.refl s)

/-- A command on an idle channel leaves it idle or takes its first step. -/
theorem State.judge_notDone (c : Command) (idle : s.brc.channel = none) :
    ∀ ch, (s.judge c).brc.channel = some ch → ch.step ≠ .doneWait := by
  have idles {t : State} (none : t.brc.channel = none) : ∀ ch, t.brc.channel = some ch → ch.step ≠ .doneWait :=
    fun ch is => by rw [none] at is; cases is
  have steps {t : State} {k : Channel} (held : t.brc.channel = some k) (step : k.step ≠ .doneWait) :
      ∀ ch, t.brc.channel = some ch → ch.step ≠ .doneWait := fun ch is => by
    rw [held] at is
    cases is
    exact step
  have refused (why : RefusalReason) := idles (t := s.refuse c.tag why) idle
  have done (t : State) := idles (t := t.completeWith c.tag .success 0) rfl
  have ramps (t : State) (held : t.brc.channel = some (c.channel .stopRun .ramping)) :
      ∀ ch, t.checkStopped.brc.channel = some ch → ch.step ≠ .doneWait := by
    unfold State.checkStopped
    split
    · unfold State.completeChannel State.setBoard
      rw [held]
      exact idles rfl
    · exact steps held (by simp [Command.channel])
  unfold State.judge
  split
  · exact refused _
  · unfold State.judgeStart
    split
    · exact refused _
    · split
      · exact refused _
      · exact done _
  · unfold State.judgeHold
    split
    · exact refused _
    · exact done _
  · unfold State.judgeResume
    split
    · exact refused _
    · exact done _
  · unfold State.judgeStop
    split
    · exact done _
    · exact ramps _ rfl
    · exact ramps _ (by unfold State.stopRunning; rw [State.updAll_eq]; rfl)
    · exact ramps _ (by unfold State.stopRunning; rw [State.updAll_eq]; rfl)
  · exact steps rfl (by simp [Command.channel])
  · unfold State.judgeFill
    split
    · exact refused _
    · split
      · exact steps rfl (by simp [Command.channel])
      · exact refused _
  · unfold State.judgeClear
    split
    · exact refused _
    · exact done _
  · unfold State.judgeDiagnose
    split
    · exact refused _
    · split
      · exact done _
      · exact steps rfl (by simp [Command.channel])

/-- After a hand-over that does not meet a completion waiting, none waits. -/
theorem State.handOff_notDone (c : Command)
    (free : (∀ ch, s.brc.channel = some ch → ch.step ≠ .doneWait) ∨ c.code = some .stopRun) :
    ∀ ch, (s.handOff c).brc.channel = some ch → ch.step ≠ .doneWait := by
  cases channel : s.brc.channel with
  | none =>
    rw [s.handOff_idle c channel]
    exact State.judge_notDone _ c channel
  | some k =>
    by_cases stop : c.code = some .stopRun
    · rw [s.handOff_stopRun c channel stop, State.handOff_idle _ c (State.displace_channel s)]
      exact State.judge_notDone _ c (State.displace_channel s)
    · rw [s.handOff_busy c channel stop]
      exact free.resolve_right stop

end

/-! ## The command read and its row -/

/-- Two states that differ in nothing but the items of a command in progress that the command does not use. -/
structure State.ItemsApart (q v : State) : Prop where
  rest : v = { q with brc := { q.brc with channel := v.brc.channel } }
  idle : v.brc.channel = none ↔ q.brc.channel = none
  used : ∀ ch k, v.brc.channel = some ch → q.brc.channel = some k →
    ch.code = k.code ∧ ch.tag = k.tag ∧ ch.step = k.step ∧ (k.code = .diagnose → ch.mask = k.mask) ∧
    (k.code = .fillLaneMap → ch.fillDirection = k.fillDirection ∧ ch.fillLevel = k.fillLevel)

theorem State.ItemsApart.refl (s : State) : s.ItemsApart s where
  rest := rfl
  idle := .rfl
  used ch k left right := by
    rw [left] at right
    cases right
    exact ⟨rfl, rfl, rfl, fun _ => rfl, fun _ => ⟨rfl, rfl⟩⟩

/-- The channel that two commands take at the same step. -/
theorem State.holdChannel_itemsApart (s : State) {c d : Command} (code : CmdCode) (st : CmdStep) (tag : c.tag = d.tag)
    (mask : code = .diagnose → c.mask = d.mask) (fill : code = .fillLaneMap → c.fill = d.fill) :
    (s.holdChannel d code st).ItemsApart (s.holdChannel c code st) where
  rest := rfl
  idle := ⟨nofun, nofun⟩
  used ch k left right := by
    cases left
    cases right
    refine ⟨rfl, tag, rfl, mask, fun is => ?_⟩
    unfold Command.channel
    rw [fill is]
    exact ⟨rfl, rfl⟩

/-- The state with a command in progress. -/
def State.inProgress (s : State) (k : Channel) : State := { s with brc := { s.brc with channel := some k } }

/-- The end of a stop asks for the tag of the command in progress alone. -/
theorem State.checkStopped_itemsApart (s : State) {k l : Channel} (code : k.code = l.code) (tag : k.tag = l.tag)
    (step : k.step = l.step) (stop : l.code = .stopRun) :
    (s.inProgress l).checkStopped.ItemsApart (s.inProgress k).checkStopped := by
  have check (m : Channel) : (s.inProgress m).checkStopped = if s.brc.state = .stopping ∧ s.allOff = true then
      ((s.inProgress m).setBoard .stopped .none).completeWith m.tag .success 0 else s.inProgress m := rfl
  rw [check k, check l]
  split
  · rw [tag]
    exact .refl _
  · refine ⟨rfl, ⟨nofun, nofun⟩, fun ch m left right => ?_⟩
    cases left
    cases right
    refine ⟨code, tag, step, ?_, ?_⟩ <;> rw [stop] <;> nofun

theorem State.judgeStop_itemsApart (s : State) {c d : Command} (tag : c.tag = d.tag) :
    (s.judgeStop d).ItemsApart (s.judgeStop c) := by
  have ends (t : State) : (t.inProgress (d.channel .stopRun .ramping)).checkStopped.ItemsApart
      (t.inProgress (c.channel .stopRun .ramping)).checkStopped :=
    t.checkStopped_itemsApart rfl tag rfl rfl
  have runs (e : Command) : ((s.accept e).holdChannel e .stopRun .ramping).stopRunning =
      (s.accept e).stopRunning.inProgress (e.channel .stopRun .ramping) := by
    unfold State.stopRunning
    rw [State.updAll_eq, State.updAll_eq]
    rfl
  have accepted : s.accept c = s.accept d := by
    unfold State.accept
    rw [tag]
  unfold State.judgeStop
  rw [runs, runs, accepted, tag]
  split
  · exact .refl _
  · exact ends ((s.accept d).setBoard .stopping .none)
  · exact ends _
  · exact ends _

/-- Commands of one code and one tag are judged alike, but for the items that only the command's own work reads. -/
theorem State.judge_itemsApart (s : State) {c d : Command} (code : c.code = d.code) (tag : c.tag = d.tag)
    (mask : d.code = some .diagnose ∨ d.code = some .clearAccounts → c.mask = d.mask)
    (fill : d.code = some .fillLaneMap → c.fill = d.fill) : (s.judge d).ItemsApart (s.judge c) := by
  have accepted : s.accept c = s.accept d := by
    unfold State.accept
    rw [tag]
  unfold State.judge
  rw [code]
  split
  · rw [tag]
    exact .refl _
  · unfold State.judgeStart
    rw [accepted, tag]
    exact .refl _
  · unfold State.judgeHold
    rw [accepted, tag]
    exact .refl _
  · unfold State.judgeResume
    rw [accepted, tag]
    exact .refl _
  · exact s.judgeStop_itemsApart tag
  · unfold State.judgeLoad
    rw [accepted]
    have held := (s.accept d).holdChannel_itemsApart (c := c) .loadLaneMap .reading tag nofun nofun
    exact ⟨rfl, held.idle, held.used⟩
  · next is =>
    unfold State.judgeFill
    rw [accepted, tag, fill is]
    split
    · exact .refl _
    · split
      · exact State.holdChannel_itemsApart _ _ _ tag nofun fun _ => fill is
      · exact .refl _
  · next is =>
    unfold State.judgeClear
    rw [accepted, tag, mask (.inr is)]
    exact .refl _
  · next is =>
    unfold State.judgeDiagnose
    rw [accepted, tag, mask (.inl is)]
    split
    · exact .refl _
    · split
      · exact .refl _
      · exact State.holdChannel_itemsApart _ _ _ tag (fun _ => mask (.inl is)) nofun

theorem State.handOff_itemsApart (s : State) {c d : Command} (code : c.code = d.code) (tag : c.tag = d.tag)
    (mask : d.code = some .diagnose ∨ d.code = some .clearAccounts → c.mask = d.mask)
    (fill : d.code = some .fillLaneMap → c.fill = d.fill) : (s.handOff d).ItemsApart (s.handOff c) := by
  unfold State.handOff State.takeCommand
  rw [code, tag]
  split
  · exact .refl _
  · exact State.judge_itemsApart _ code tag mask fill

/-- The row of a command read hands over a command of its code with its items. -/
theorem exec_commandRow (r : List Word) (s : State) (live : s.pins.por = false) (row : Instr)
    (is : commandRow r = some row) : ∃ d, exec row s = .next (s.handOff d) ∧
      (s.handOff d).ItemsApart (s.handOff (Command.ofBcr r)) := by
  have code : (Command.ofBcr r).code = cmdCodeOf (field r 33).toNat := rfl
  unfold commandRow at is
  split at is <;> cases is <;> rename_i number <;> rw [number] at code
  · exact ⟨_, exec_startRun s _ live, s.handOff_itemsApart code rfl nofun nofun⟩
  · exact ⟨_, exec_hold s _ live, s.handOff_itemsApart code rfl nofun nofun⟩
  · exact ⟨_, exec_resume s _ live, s.handOff_itemsApart code rfl nofun nofun⟩
  · exact ⟨_, exec_stopRun s _ live, s.handOff_itemsApart code rfl nofun nofun⟩
  · exact ⟨_, exec_loadLaneMap s _ live, s.handOff_itemsApart code rfl nofun nofun⟩
  · exact ⟨_, exec_fillLaneMap s _ live _ _, s.handOff_itemsApart code rfl nofun fun _ => rfl⟩
  · exact ⟨_, exec_clearAccounts s _ live _, s.handOff_itemsApart code rfl (fun _ => rfl) nofun⟩
  · exact ⟨_, exec_diagnose s _ live _, s.handOff_itemsApart code rfl (fun _ => rfl) nofun⟩

theorem Command.ofBcr_undefined (r : List Word) (undefined : commandRow r = none) : (Command.ofBcr r).code = none := by
  unfold commandRow at undefined
  split at undefined <;> cases undefined
  unfold Command.ofBcr cmdCodeOf
  split <;> simp_all

theorem Command.ofBcr_stop (r : List Word) : (Command.ofBcr r).code = some .stopRun ↔
    commandRow r = some (.stopRun (field8 r 32)) := by
  unfold commandRow Command.ofBcr cmdCodeOf
  split <;> simp_all

/-! ## The end of the header visit -/

/-- The state at the end of a header visit with the work done on `v`. -/
def State.visitEnd (s v : State) : State := (v.withPort s.smc.release).requestScan (.bsrWrite v.bsrWords)

section
variable (s v : State)

theorem State.visitEnd_eq : s.visitEnd v = { v with smc := (s.visitEnd v).smc } := (s.headerVisit_blocks v v.bsrWords).1

theorem State.visitEnd_attention : (s.visitEnd v).smc.attention = v.smc.attention :=
  (s.headerVisit_blocks v v.bsrWords).2

theorem State.visitEnd_looksDone {p : State} (looks : commandLooksDone p v) : commandLooksDone p (s.visitEnd v) :=
  commandLooksDone_of_same looks rfl rfl rfl rfl (s.visitEnd_attention v)

end

/-- The run-finished check reads the board, the sockets and the ATTENTION register. -/
theorem runFinishChecked_of_same {before : Bool} {t u : State} (checked : runFinishChecked before u) (brc : t.brc = u.brc)
    (sockets : t.sockets = u.sockets) (attention : t.smc.attention = u.smc.attention) : runFinishChecked before t := by
  have sock (i : SocketIx) : t.sock i = u.sock i := congrArg (fun v : Vector Socket 32 => v[i]) sockets
  simpa only [runFinishChecked, brc, attention, sock] using checked

/-- What a revision leaves as it is. -/
theorem State.takeConfig_only (s : State) (r : List Word) : s.takeConfig r = { s with
    scu := (s.takeConfig r).scu, pxr := (s.takeConfig r).pxr, sockets := (s.takeConfig r).sockets } := by
  by_cases same : field8 r 0 = s.scu.appliedConfigRev
  · rw [s.takeConfig_same r same]
  by_cases board : s.brc.state = .stopped
  · by_cases listed : restartsListed r
    · rw [s.takeConfig_adopted r same board listed]
    · rw [s.takeConfig_rejected r same board listed]
  · rw [s.takeConfig_waits r same board]

theorem State.takeConfig_seenTag (s : State) (r : List Word) : (s.takeConfig r).scu.seenTag = s.scu.seenTag := by
  by_cases same : field8 r 0 = s.scu.appliedConfigRev
  · rw [s.takeConfig_same r same]
  by_cases board : s.brc.state = .stopped
  · by_cases listed : restartsListed r
    · rw [s.takeConfig_adopted r same board listed]
    · rw [s.takeConfig_rejected r same board listed]
  · rw [s.takeConfig_waits r same board]

/-- What the run-finished check leaves of a command that was handed over. -/
theorem commandHandedOver_finishCheck {r : List Word} {p t : State} (live : p.pins.por = false)
    (tag : (p.handOff (Command.ofBcr r)).scu.seenTag = field8 r 32)
    (finished : t = { (p.handOff (Command.ofBcr r)).finishCheck with smc := t.smc })
    (attention : t.smc.attention = (p.handOff (Command.ofBcr r)).finishCheck.smc.attention) :
    commandHandedOver r p t := by
  generalize handed : p.handOff (Command.ofBcr r) = v at tag finished attention
  have check := v.finishCheck_eq
  have scu : t.scu = v.scu := (congrArg State.scu finished :).trans (congrArg State.scu check :)
  have banks : t.banks = v.banks := (congrArg State.banks finished :).trans (congrArg State.banks check :)
  have pxr : t.pxr = v.pxr := (congrArg State.pxr finished :).trans (congrArg State.pxr check :)
  have sockets : t.sockets = v.sockets := (congrArg State.sockets finished :).trans (congrArg State.sockets check :)
  have brcEnd : t.brc = v.finishCheck.brc := (congrArg State.brc finished :)
  have brc : t.brc = { v.brc with runFinished := t.brc.runFinished } := by
    rw [brcEnd]
    exact congrArg State.brc check
  have channel : t.brc.channel = v.brc.channel := (congrArg Brc.channel brc :)
  have bits (n : Nat) (other : n ≠ Cause.runFinished.bit) :
      t.smc.attention.getLsbD n = v.smc.attention.getLsbD n := by
    rw [attention]
    exact v.finishCheck_attention n other
  have checked : runFinishChecked v.brc.runFinished t := runFinishChecked_of_same v.finishCheck_checked brcEnd
    (congrArg State.sockets finished :) attention
  refine ⟨fun row is => ?_, fun undefined => ?_⟩
  · obtain ⟨d, runs, apart⟩ := exec_commandRow r p live row is
    rw [handed] at apart
    obtain ⟨rest, idle, used⟩ := apart
    refine ⟨_, runs, ?_, ?_, ?_, ?_, ?_, ?_, ?_, fun n other => ?_, ?_⟩
    · exact sockets.trans (congrArg State.sockets rest :)
    · exact banks.trans (congrArg State.banks rest :)
    · exact pxr.trans (congrArg State.pxr rest :)
    · rw [scu, ← tag, congrArg State.scu rest]
    · rw [brc, congrArg State.brc rest]
    · rw [channel]
      exact idle
    · rw [channel]
      exact used
    · exact (bits n other).trans (congrArg (fun q : State => q.smc.attention.getLsbD n) rest :)
    · rw [congrArg (fun q : State => q.brc.runFinished) rest] at checked
      exact checked
  · have code := Command.ofBcr_undefined r undefined
    have refused : v = refusedState p (field8 r 32) (if p.brc.channel = none then .badCode else .busy) := by
      rw [← handed]
      cases busy : p.brc.channel with
      | none =>
        rw [p.handOff_idle _ busy, if_pos rfl]
        unfold State.judge
        rw [code]
        exact State.refuse_seen p _ _
      | some ch =>
        rw [p.handOff_busy _ busy (by rw [code]; nofun), if_neg (by nofun)]
        rfl
    have attended := bits Cause.commandRefused.bit (by decide)
    rw [refused] at sockets banks pxr brc attended checked
    exact ⟨sockets, banks, pxr, brc, attended.trans (Cause.raised _ _), checked⟩

/-- A good visit of a synchronized header: the revision, the tag, and the header-visit work. -/
theorem State.headerVisited_good (s : State) (u : BitVec 3) (r : List Word) (synced : s.scu.headerSynced = true)
    (good : s.readRecord bcrBase 128 u = some r) :
    s.headerVisited u = (((s.takeConfig r).headerFresh).takeTag r).headerWork := by
  unfold State.headerVisited
  rw [good]
  refine congrArg State.headerWork ((if_pos synced).trans ?_)
  exact congrArg (State.takeTag · r) (s.takeConfig_headerFresh r)

/-- Settles O28: the revision is handled by the code and range stages, the tag by the judgement of its row's command. -/
theorem configurationRevisionIsHandled : Obligations.ConfigurationRevisionIsHandled := by
  intro s r
  refine ⟨s.takeConfig_same r, s.takeConfig_waits r, s.takeConfig_rejected r, fun changed board listed => ?_, ?_⟩
  · have adopted := s.takeConfig_adopted r changed board listed
    have ranges := BoardConfig.validated_ranges r
    have config : (s.takeConfig r).scu.config = BoardConfig.validated r := by rw [adopted]
    intro t c
    have inForce : c = BoardConfig.validated r := config
    rw [inForce]
    obtain ⟨sweep, stale, frame, rate, dead, limit, seeds, budgets⟩ := ranges
    refine ⟨?_, configValidated_validated r, fun read => ?_, fun clamped => ?_, ?_, sweep, stale, frame, rate, dead, limit,
      seeds, budgets, ?_, fun i => ?_⟩
    · rw [show t = _ from adopted]
    · rw [show t = _ from adopted]
      exact if_pos ((configAsRead_iff r).mp read)
    · rw [show t = _ from adopted]
      exact if_neg fun same => clamped ((configAsRead_iff r).mpr same)
    · rw [show t = _ from adopted]
    · rw [show t = _ from adopted]
    · have fitted : t.sock i = (s.sock i).fitted (BoardConfig.validated r) := by
        rw [show t = _ from adopted]
        exact Vector.getElem_ofFn _
      rw [fitted]
      exact Socket.fitted_settingsFitted _ (by omega) _
  · intro u live reads synced waits good c p
    have only : p = { s with scu := p.scu, pxr := p.pxr, sockets := p.sockets } :=
      (congrArg State.headerFresh (s.takeConfig_only r) :)
    have seen : p.scu.seenTag = s.scu.seenTag := s.takeConfig_seenTag r
    have brc : p.brc = s.brc := (congrArg State.brc only :)
    have porLow : p.pins.por = false := (congrArg (fun t : State => t.pins.por) only :).trans live
    have visit := exec_bcrReadComplete s u live reads
    rw [s.headerVisited_good u r synced good] at visit
    have asks (v : State) : asksFor (s.visitEnd v).smc s.smc.hostWaiting (.bsrWrite v.bsrWords) :=
      s.asksFor_requestScan v _ waits
    have kept (v : State) (base : (p.seen (field8 r 32)).KeepsBase v) :
        s.visitEnd v = { s with scu := (s.visitEnd v).scu, smc := (s.visitEnd v).smc, brc := (s.visitEnd v).brc
                                pxr := (s.visitEnd v).pxr, banks := (s.visitEnd v).banks
                                sockets := (s.visitEnd v).sockets } := 
      State.eq_of_base (base.mem.trans (congrArg State.mem only :)) (base.epoch.trans (congrArg State.epoch only :))
        (base.freeCount.trans (congrArg State.freeCount only :)) (base.pins.trans (congrArg State.pins only :))
        (base.time.trans (congrArg State.time only :)) (base.pending.trans (congrArg State.pending only :))
    have taken (v : State) (base : (p.seen (field8 r 32)).KeepsBase v) :
        (s.visitEnd v).scu = { p.scu with seenTag := field8 r 32, chunkIndex := v.scu.chunkIndex } := base.scu
    have idle (same : field8 r 32 = p.scu.seenTag) : p.seen (field8 r 32) = p := by
      unfold State.seen
      rw [same]
    by_cases same : field8 r 32 = s.scu.seenTag
    · have same' : field8 r 32 = p.scu.seenTag := same.trans seen.symm
      have tagged : p.takeTag r = p := if_pos same'
      rw [show (s.takeConfig r).headerFresh = p from rfl, tagged] at visit
      have base : (p.seen (field8 r 32)).KeepsBase p.headerWork := by
        rw [idle same']
        exact p.headerWork_keepsBase
      refine ⟨_, _, visit, kept _ base, asks _, State.headerVisit_fields _ _, taken _ base, fun _ => ⟨?_, ?_⟩,
        (absurd same ·), (absurd same ·)⟩
      · exact (congrArg State.scu p.headerWork_only :)
      · exact s.visitEnd_looksDone _ p.headerWork_looksDone
    · have changed : field8 r 32 ≠ p.scu.seenTag := fun is => same (is.trans seen)
      have tagged : p.takeTag r = p.handOff (Command.ofBcr r) := if_neg changed
      rw [show (s.takeConfig r).headerFresh = p from rfl, tagged] at visit
      have hands := p.handOff_keepsBase (Command.ofBcr r)
      have base := hands.trans (State.headerWork_keepsBase _)
      refine ⟨_, _, visit, kept _ base, asks _, State.headerVisit_fields _ _, taken _ base, (absurd · same),
        fun _ free => ?_, fun _ ch busy waits notStop => ?_⟩
      · have stands : (p.handOff (Command.ofBcr r)).dueCompletion = p.handOff (Command.ofBcr r) := by
          refine State.dueCompletion_stands _ (p.handOff_notDone _ ?_)
          rw [brc, Command.ofBcr_stop]
          exact free
        have work : (p.handOff (Command.ofBcr r)).headerWork = (p.handOff (Command.ofBcr r)).finishCheck :=
          congrArg State.finishCheck stands
        rw [work]
        exact commandHandedOver_finishCheck porLow (congrArg Scu.seenTag hands.scu) (s.visitEnd_eq _)
          (s.visitEnd_attention _)
      · have busyThen : p.handOff (Command.ofBcr r) = refusedState p (field8 r 32) .busy :=
          p.handOff_busy _ (brc ▸ busy) fun stop => notStop ((Command.ofBcr_stop r).mp stop)
        rw [busyThen]
        exact s.visitEnd_looksDone _ (State.headerWork_looksDone _)

end Sys2Proof.Machine
end

section
/-! The ends of sweeps (sections 2.1 and 2.4) and of lane-map chunk reads (section 2.9). -/

namespace Sys2Proof.Machine

/-! ## The end of a sweep (R25, R26, R32, R58) -/

section
variable (s : State)

theorem State.fillAtEnd_blocks : s.fillAtEnd = { s with brc := s.fillAtEnd.brc, pxr := s.fillAtEnd.pxr } := by
  unfold State.fillAtEnd
  dsimp only
  (repeat' split) <;> rfl

theorem State.fillAtEnd_stands (other : ∀ ch, s.brc.channel = some ch → ch.code ≠ .fillLaneMap) : s.fillAtEnd = s := by
  unfold State.fillAtEnd
  split
  · next ch busy =>
    have code := other ch busy
    dsimp only
    split
    · next is _ => exact absurd is code
    · next is _ => exact absurd is code
    · rfl
  · rfl

/-- A fill writes one half at the end of a sweep. -/
theorem State.fillAtEnd_half {ch : Channel} (busy : s.brc.channel = some ch) (fill : ch.code = .fillLaneMap)
    {second : Bool} {next : CmdStep} (half : (second, ch.step, next) ∈
      [(false, CmdStep.firstHalf, CmdStep.secondHalf), (true, .secondHalf, .doneWait)]) :
    s.fillAtEnd = { s with
      pxr := s.pxr.fill second (fillEntry ch.fillDirection ch.fillLevel), brc := s.brc.setStep next } := by
  unfold State.fillAtEnd
  rw [busy]
  dsimp only
  rw [fill]
  simp only [List.mem_cons, Prod.mk.injEq, List.not_mem_nil, or_false] at half
  obtain ⟨rfl, step, rfl⟩ | ⟨rfl, step, rfl⟩ := half <;> rw [step]

theorem Pxr.fill_entry (p : Pxr) (second : Bool) (e : LaneEntry) (i : SocketIx) (l : LaneIx) :
    (p.fill second e).active[i][l] = if decide (16 ≤ i.val) = second then e else p.active[i][l] := by
  have row : (p.fill second e).active[i] =
      if decide (16 ≤ i.val) = second then Vector.replicate 16 e else p.active[i] := Vector.getElem_ofFn _
  rw [row]
  split
  · exact Vector.getElem_replicate _
  · rfl

theorem State.closeSweep_scu : s.closeSweep.scu = { s.scu with
    running := false, visit := .idle, deferred := false, syncFlag := s.scu.syncFlag || s.allSynced } := by
  unfold State.closeSweep
  rw [State.fillAtEnd_blocks]

theorem State.closeSweep_fill {ch : Channel} (busy : s.brc.channel = some ch) (fill : ch.code = .fillLaneMap)
    {second : Bool} {next : CmdStep} (half : (second, ch.step, next) ∈
      [(false, CmdStep.firstHalf, CmdStep.secondHalf), (true, .secondHalf, .doneWait)]) :
    s.closeSweep.brc = { s.brc with channel := some { ch with step := next } } ∧
    s.closeSweep.pxr = s.pxr.fill second (fillEntry ch.fillDirection ch.fillLevel) := by
  unfold State.closeSweep
  rw [State.fillAtEnd_half _ ?_ fill half]
  · refine ⟨?_, rfl⟩
    unfold Brc.setStep
    dsimp only
    rw [busy]
    rfl
  · exact busy

/-- The end of a sweep without events, on a port that the transfer has released. -/
theorem State.endSweep_withPort (m : Smc) : (s.withPort m).endSweep [] =
    if s.scu.deferred then (s.closeSweep.enterSweep.withPort m).requestScan .bcrRead else s.closeSweep.withPort m := by
  have ends : (s.withPort m).endSweep [] = if s.scu.deferred then
      (s.withPort m).closeSweep.enterSweep.requestScan .bcrRead else (s.withPort m).closeSweep := rfl
  rw [ends, State.closeSweep_withPort]
  rfl

/-- The sweep of a state `v` ends as that of `s`, where `v` differs from `s` in no part that the end reads. -/
theorem State.endSweep_sweepEnds (v : State) (scu : v.scu = { s.scu with chunkIndex := v.scu.chunkIndex })
    (sockets : v.sockets = s.sockets) (fills : (∀ ch, s.brc.channel = some ch → ch.code = .fillLaneMap →
      v.brc = s.brc ∧ v.pxr = s.pxr)) : sweepEnds s ((v.withPort s.smc.release).endSweep []) := by
  have deferred : v.scu.deferred = s.scu.deferred := by rw [scu]
  have synced : (v.scu.syncFlag || v.allSynced) = (s.scu.syncFlag || (s.scu.headerSynced &&
      (List.finRange 32).all fun i => (s.sock i).gate.synced)) := by
    unfold State.allSynced
    rw [scu, sockets]
    rfl
  have closed : v.closeSweep.scu = { s.scu with
      running := false, visit := .idle, deferred := false, syncFlag := s.scu.syncFlag || (s.scu.headerSynced &&
        (List.finRange 32).all fun i => (s.sock i).gate.synced), chunkIndex := v.closeSweep.scu.chunkIndex } := by
    rw [v.closeSweep_scu, synced, scu]
  have idle (m : Smc) : ((v.closeSweep.withPort m)).scu = v.closeSweep.scu := rfl
  have next (m : Smc) : ((v.closeSweep.enterSweep.withPort m).requestScan .bcrRead).scu = v.closeSweep.enterSweep.scu := rfl
  rw [State.endSweep_withPort, deferred]
  refine ⟨fun none => ?_, fun some => ?_, fun ch busy fill second step half => ?_⟩
  · rw [none]
    refine ⟨(idle _).trans (closed.trans ?_), fun host scan => (s.smc.released_release.1 host scan).1⟩
    rw [Scu.mk.injEq]
    exact ⟨rfl, rfl, rfl, rfl, none.symm, rfl, rfl, rfl, rfl, rfl, rfl, rfl, rfl, rfl, rfl, rfl, rfl, rfl⟩
  · rw [some]
    refine ⟨(next _).trans ?_, fun waits => s.asksFor_requestScan v.closeSweep.enterSweep _ waits⟩
    exact congrArg (fun x : Scu => { x with sweepNumber := x.sweepNumber + 1, running := true, visit := .header }) closed
  · obtain ⟨brc, pxr⟩ := fills ch busy fill
    obtain ⟨stepped, filled⟩ := v.closeSweep_fill (brc ▸ busy) fill half
    have fields (t : State) (brcT : t.brc = v.closeSweep.brc) (pxrT : t.pxr = v.closeSweep.pxr) :
        t.brc = { s.brc with channel := some { ch with step := step } } ∧ t.pxr = { s.pxr with active := t.pxr.active } ∧
        ∀ (i : SocketIx) (l : LaneIx), t.pxr.active[i][l] = if decide (16 ≤ i.val) = second then
          fillEntry ch.fillDirection ch.fillLevel else s.pxr.active[i][l] := by
      rw [brcT, pxrT, stepped, filled, brc, pxr]
      exact ⟨rfl, rfl, s.pxr.fill_entry second _⟩
    split
    · exact fields _ rfl rfl
    · exact fields _ rfl rfl

end

/-! ## Chunk reads (R43, R57, R130) -/

section
variable (s : State) (u : BitVec 3) (c : Nat)

theorem exec_laneMapChunkReadComplete (live : s.pins.por = false) (reads : s.transferring = some (.chunkRead c))
    (gap : List VisitEvent) : exec (.laneMapChunkReadComplete u gap) s =
      .next ((((s.takeChunk c (s.readRecord (chunkBase c) 64 u))).withPort s.smc.release).endSweep gap) := by
  have done : s.chunkDone u gap = (s.releasePort.takeChunk c (s.readRecord (chunkBase c) 64 u)).endSweep gap := by
    unfold State.chunkDone
    rw [reads]
  rw [s.releasePort_eq, State.takeChunk_withPort] at done
  exact congrArg Host.Outcome.next ((s.live_of_released _ live).trans done)

end

theorem State.atStep_busy (s : State) {ch : Channel} (busy : s.brc.channel = some ch) (code : ch.code = .loadLaneMap)
    (step : ch.step = .reading) : s.brc.atStep .loadLaneMap .reading = true := by
  unfold Brc.atStep
  rw [busy]
  dsimp only
  rw [code, step]
  rfl

/-- A chunk that ends its load: with PARITY, or with BAD_MAP. -/
theorem State.failLoad_busy (s : State) {ch : Channel} (busy : s.brc.channel = some ch) (res : CmdResult) (d : Nat) :
    s.failLoad res d = { s with
      pxr := s.pxr.discard
      brc := { s.brc with completedTag := ch.tag, result := res, detail := d, channel := none }
      smc := { s.smc with attention := s.smc.attention ||| Cause.commandDone.mask } } :=
  State.completeChannel_busy { s with pxr := s.pxr.discard } busy res d

theorem Pxr.deliver_active (p : Pxr) (c : Nat) (es : List (Option LaneEntry)) : (p.deliver c es).active = p.active := by
  simp only [Pxr.deliver]

theorem Pxr.deliver_count (p : Pxr) (c : Nat) (es : List (Option LaneEntry)) :
    (p.deliver c es).delivered = p.delivered + 1 := rfl

theorem Pxr.deliver_entry (p : Pxr) (c : Nat) (es : List (Option LaneEntry)) (i : SocketIx) (l : LaneIx)
    (chunk : i.val / 2 = c) : (p.deliver c es).staging[i][l] =
      (es.getD (16 * (i.val % 2) + l.val) none).getD LaneEntry.reset := by
  have row : (p.deliver c es).staging[i] = if i.val / 2 = c then
      Vector.ofFn fun l : LaneIx => (es.getD (16 * (i.val % 2) + l.val) none).getD LaneEntry.reset else p.staging[i] :=
    Vector.getElem_ofFn _
  rw [row, if_pos chunk]
  exact Vector.getElem_ofFn _

/-- What a delivered chunk changes. -/
theorem State.deliverChunk_eq (s : State) (c : Nat) (es : List (Option LaneEntry)) : s.deliverChunk c es = { s with
    scu := { s.scu with chunkIndex := s.scu.chunkIndex + 1 }
    pxr := { s.pxr.deliver c es with swapPending := s.pxr.swapPending || decide (c = 15) }
    brc := if c = 15 then s.brc.setStep .swapWait else s.brc } := by
  unfold State.deliverChunk
  dsimp only
  split
  · next last => simp [last]
  · next other => simp [other, Pxr.deliver]

/-- What the end of a sweep without events leaves, where no fill is in progress. -/
theorem State.endSweep_stands (v : State) (m : Smc) (other : ∀ ch, v.brc.channel = some ch → ch.code ≠ .fillLaneMap) :
    let t := (v.withPort m).endSweep []
    t = { v with scu := t.scu, smc := t.smc } ∧ t.smc.attention = v.smc.attention ∧
      t.scu.chunkIndex = v.scu.chunkIndex := by
  have closed : v.closeSweep = { v with scu := v.closeSweep.scu } := by
    unfold State.closeSweep
    rw [State.fillAtEnd_stands _ ?_]
    exact other
  have chunk : v.closeSweep.scu.chunkIndex = v.scu.chunkIndex := by rw [v.closeSweep_scu]
  rw [State.endSweep_withPort]
  dsimp only
  split
  · refine ⟨?_, (requested_attention _ _).trans (congrArg (fun w : State => w.smc.attention) closed :), chunk⟩
    rw [closed]
    rfl
  · refine ⟨?_, (congrArg (fun w : State => w.smc.attention) closed :), chunk⟩
    rw [closed]
    rfl

/-- Settles O36. -/
theorem chunkReadsDeliverOrEndTheLoad : Obligations.ChunkReadsDeliverOrEndTheLoad := by
  intro s u c ch live reads busy code step failed
  refine ⟨_, exec_laneMapChunkReadComplete s u c live reads [], ?_⟩
  have reading := s.atStep_busy busy code step
  have ends (v : State) (scu : v.scu = { s.scu with chunkIndex := v.scu.chunkIndex }) (sockets : v.sockets = s.sockets) :=
    s.endSweep_sweepEnds v scu sockets fun k is fill => by
      rw [busy] at is
      cases is
      rw [code] at fill
      cases fill
  have fails (res : CmdResult) (d : Nat) (taken : s.takeChunk c (s.readRecord (chunkBase c) 64 u) = s.failLoad res d) : 
      let t := (((s.takeChunk c (s.readRecord (chunkBase c) 64 u))).withPort s.smc.release).endSweep []
      t.pxr.active = s.pxr.active ∧ t.mem = s.mem ∧ t.sockets = s.sockets ∧ sweepEnds s t ∧ failed t res d := by
    have load := s.failLoad_busy busy res d
    have only := (s.failLoad res d).endSweep_stands s.smc.release (by rw [load]; nofun)
    have sweep := ends (s.failLoad res d) (by rw [load]) (by rw [load])
    rw [taken]
    generalize ((s.failLoad res d).withPort s.smc.release).endSweep [] = t at only sweep
    obtain ⟨blocks, attention, -⟩ := only
    rw [load] at blocks attention
    refine ⟨?_, ?_, ?_, sweep, ?_, ?_, attention⟩ <;> rw [blocks] <;> rfl
  cases rec : s.readRecord (chunkBase c) 64 u with
  | none =>
    have taken : s.takeChunk c (s.readRecord (chunkBase c) 64 u) = s.failLoad .parity c := by
      unfold State.takeChunk
      rw [if_pos reading, rec]
    obtain ⟨active, mem, sockets, sweep, failure⟩ := fails _ _ taken
    rw [rec] at active mem sockets sweep failure
    exact ⟨active, mem, sockets, sweep, fun _ => failure, nofun⟩
  | some r =>
    cases bad : firstBad (chunkEntries r) 0 with
    | some k =>
      have taken : s.takeChunk c (s.readRecord (chunkBase c) 64 u) = s.failLoad .badMap (32 * c + k) := by
        unfold State.takeChunk
        rw [if_pos reading, rec]
        dsimp only
        rw [bad]
      obtain ⟨active, mem, sockets, sweep, failure⟩ := fails _ _ taken
      rw [rec] at active mem sockets sweep failure
      refine ⟨active, mem, sockets, sweep, nofun, fun q is => ?_⟩
      cases is
      rw [bad]
      exact ⟨fun j is => by cases is; exact failure, nofun⟩
    | none =>
      have taken : s.takeChunk c (some r) = s.deliverChunk c (chunkEntries r) := by
        unfold State.takeChunk
        rw [if_pos reading]
        dsimp only
        rw [bad]
      have delivered := s.deliverChunk_eq c (chunkEntries r)
      have stepped : (s.deliverChunk c (chunkEntries r)).brc.channel =
          some { ch with step := if c = 15 then .swapWait else .reading } := by
        rw [delivered]
        dsimp only
        split
        · simp [Brc.setStep, busy]
        · rw [busy, ← step]
      have only := (s.deliverChunk c (chunkEntries r)).endSweep_stands s.smc.release fun k is => by
        rw [stepped] at is
        cases is
        rw [code]
        nofun
      have sweep := ends (s.deliverChunk c (chunkEntries r)) (by rw [delivered]) (by rw [delivered])
      rw [taken]
      generalize ((s.deliverChunk c (chunkEntries r)).withPort s.smc.release).endSweep [] = t at only sweep
      obtain ⟨blocks, attention, chunk⟩ := only
      have channel : t.brc.channel = some { ch with step := if c = 15 then .swapWait else .reading } :=
        (congrArg (fun w : State => w.brc.channel) blocks :).trans stepped
      rw [delivered] at blocks attention chunk
      have pxr : t.pxr = _ := (congrArg State.pxr blocks :)
      have brc : t.brc = _ := (congrArg State.brc blocks :)
      have active : t.pxr.active = (s.pxr.deliver c (chunkEntries r)).active := by rw [pxr]
      refine ⟨active.trans (s.pxr.deliver_active c _), by rw [blocks], by rw [blocks], sweep, nofun, fun q is => ?_⟩
      cases is
      rw [bad]
      have pending : t.pxr.swapPending = (s.pxr.swapPending || decide (c = 15)) := by rw [pxr]
      have staged : t.pxr.staging = (s.pxr.deliver c (chunkEntries r)).staging := by rw [pxr]
      have counts : t.pxr.delivered = (s.pxr.deliver c (chunkEntries r)).delivered := by rw [pxr]
      have count : t.pxr.delivered = s.pxr.delivered + 1 := counts.trans (s.pxr.deliver_count c _)
      have steps : t.brc = if c = 15 then s.brc.setStep .swapWait else s.brc := brc
      refine ⟨nofun, fun _ => ⟨attention, count, chunk, fun other => ⟨?_, ?_⟩, fun last => ⟨?_, ?_⟩, fun i l half => ?_⟩⟩
      · rw [steps, if_neg other]
      · simp [pending, other]
      · simp [pending, last]
      · rw [channel, if_pos last]
      · rw [staged]
        exact s.pxr.deliver_entry c _ i l half

end Sys2Proof.Machine
end

section
/-! The visit of a socket at which no event of another block falls (sections 2.2 and 10.9): its four works in their order,
each on its own socket, and how the visit goes on to its records. -/

namespace Sys2Proof.Machine

/-! ## The works -/

/-- The four works of a visit: the thermal work, and those of the Socket Accounting Unit (R171). -/
inductive VisitWork where
  | thermal
  | account (w : AccountWork)

/-- Their order at a visit. -/
def worksOf : ThermalPlace → List VisitWork
  | .first => [.thermal, .account .credit, .account .decide, .account .startInterval]
  | .afterCredit => [.account .credit, .thermal, .account .decide, .account .startInterval]
  | .afterDecide => [.account .credit, .account .decide, .thermal, .account .startInterval]
  | .last => [.account .credit, .account .decide, .account .startInterval, .thermal]

/-- What a work makes of its socket. -/
def Socket.visitWork (c : Ctx) (share : Int) (adopted : Option Bool) (x : Socket) : VisitWork → Socket
  | .thermal => x.thermalVisit c share
  | .account .credit => x.credit c
  | .account .decide => x.decide c adopted
  | .account .startInterval => x.startInterval

/-- What a list of works makes of it. -/
def Socket.visitWorks (c : Ctx) (share : Int) (adopted : Option Bool) (ws : List VisitWork) (x : Socket) : Socket :=
  ws.foldl (Socket.visitWork c share adopted) x

/-- A work on the state. -/
def State.visitWork (i : SocketIx) (adopted : Option Bool) (s : State) : VisitWork → State
  | .thermal => s.thermalWork i
  | .account w => s.accountWork i adopted w

def State.visitWorks (i : SocketIx) (adopted : Option Bool) (ws : List VisitWork) (s : State) : State :=
  ws.foldl (State.visitWork i adopted) s

theorem State.visitWork_eq (s : State) (i : SocketIx) (adopted : Option Bool) (w : VisitWork) :
    State.visitWork i adopted s w = s.updSock i fun x => x.visitWork (s.ctx i) (s.share i) adopted w := by
  cases w with
  | thermal => rfl
  | account w => cases w <;> rfl

theorem VisitOrder.quiet_gaps {o : VisitOrder} (quiet : o.quiet = true) :
    o.gap0 = [] ∧ o.gap1 = [] ∧ o.gap2 = [] ∧ o.gap3 = [] ∧ o.gap4 = [] := by
  simpa [VisitOrder.quiet, VisitOrder.events, and_assoc] using quiet

/-- A visit without events is its four works. -/
theorem State.visitSocket_quiet (s : State) (i : SocketIx) (rec : Option (List Word)) {o : VisitOrder}
    (quiet : o.quiet = true) : s.visitSocket i rec o =
      (s.takeRecord i rec).1.visitWorks i (s.takeRecord i rec).2 (worksOf o.thermal) := by
  obtain ⟨gap0, gap1, gap2, gap3, gap4⟩ := VisitOrder.quiet_gaps quiet
  unfold State.visitSocket State.atThermal State.beforeThermal State.afterThermal
  dsimp only
  rw [gap0, gap1, gap2, gap3, gap4]
  cases o.thermal <;> rfl

/-! ## Beside the socket visited -/

/-- `t` differs from `s` in the socket `i` and in the ATTENTION register only. -/
structure State.Beside (i : SocketIx) (s t : State) : Prop where
  rest : t = { s with sockets := t.sockets, smc := { s.smc with attention := t.smc.attention } }
  others : ∀ j : SocketIx, j ≠ i → t.sock j = s.sock j

section
variable {i : SocketIx} {s t : State}

theorem State.Beside.refl (i : SocketIx) (s : State) : State.Beside i s s := ⟨rfl, fun _ _ => rfl⟩

theorem State.Beside.trans {u : State} (f : State.Beside i s t) (g : State.Beside i t u) : State.Beside i s u where
  rest := by
    refine g.rest.trans ?_
    rw [f.rest]
  others j other := (g.others j other).trans (f.others j other)

theorem State.updSock_beside (s : State) (i : SocketIx) (f : Socket → Socket) : State.Beside i s (s.updSock i f) where
  rest := by rw [State.updSock_eq]
  others j other := s.sock_updSock_other i j f other

theorem State.raiseIf_beside (s : State) (i : SocketIx) (b : Bool) (c : Cause) : State.Beside i s (s.raiseIf b c) := by
  cases b
  · exact .refl i s
  · exact ⟨rfl, fun _ _ => rfl⟩

theorem State.Beside.ctx (b : State.Beside i s t) : t.ctx i = s.ctx i := by
  rw [b.rest]
  rfl

theorem foldl_congr {α β : Type} {f g : β → α → β} {l : List α} (same : ∀ b, ∀ a ∈ l, f b a = g b a) (b : β) :
    l.foldl f b = l.foldl g b := by
  induction l generalizing b with
  | nil => rfl
  | cons a l ih =>
    rw [List.foldl_cons, List.foldl_cons, same b a (.head l), ih fun b a mem => same b a (.tail _ mem)]

theorem State.Beside.share (b : State.Beside i s t) : t.share i = s.share i := by
  have config : t.scu = s.scu := by rw [b.rest]
  unfold State.share
  rw [config]
  congr 1
  refine foldl_congr (fun n j mem => ?_) _
  rw [b.others j (by simpa using (List.mem_filter.mp mem).2)]

end

/-! ## What the works make of the state -/

section
variable (i : SocketIx) (adopted : Option Bool)

theorem State.visitWorks_beside (ws : List VisitWork) (s : State) :
    State.Beside i s (s.visitWorks i adopted ws) ∧ (s.visitWorks i adopted ws).sock i =
      (s.sock i).visitWorks (s.ctx i) (s.share i) adopted ws := by
  induction ws generalizing s with
  | nil => exact ⟨.refl i s, rfl⟩
  | cons w ws ih =>
    have work : State.Beside i s (State.visitWork i adopted s w) := by
      rw [s.visitWork_eq i adopted w]
      exact s.updSock_beside i _
    have here : (State.visitWork i adopted s w).sock i = (s.sock i).visitWork (s.ctx i) (s.share i) adopted w := by
      rw [s.visitWork_eq i adopted w]
      exact s.sock_updSock_same i _
    obtain ⟨beside, sock⟩ := ih (State.visitWork i adopted s w)
    rw [work.ctx, work.share, here] at sock
    exact ⟨work.trans beside, sock⟩

/-- No work raises a cause but SOCKET_ENDED. -/
theorem State.visitWorks_bits (ws : List VisitWork) (s : State) (n : Nat) (other : n ≠ Cause.socketEnded.bit) :
    (s.visitWorks i adopted ws).smc.attention.getLsbD n = s.smc.attention.getLsbD n := by
  induction ws generalizing s with
  | nil => rfl
  | cons w ws ih =>
    refine (ih (State.visitWork i adopted s w)).trans ?_
    rw [s.visitWork_eq i adopted w, State.updSock_eq]
    dsimp only
    split
    · exact Cause.stands _ n _ other
    · rfl

/-- And none clears it. -/
theorem State.visitWorks_keepsEnded (ws : List VisitWork) (s : State)
    (set : s.smc.attention.getLsbD Cause.socketEnded.bit = true) :
    (s.visitWorks i adopted ws).smc.attention.getLsbD Cause.socketEnded.bit = true := by
  induction ws generalizing s with
  | nil => exact set
  | cons w ws ih =>
    refine ih (State.visitWork i adopted s w) ?_
    rw [s.visitWork_eq i adopted w, State.updSock_eq]
    dsimp only
    split
    · exact Cause.stays _ set
    · exact set

/-- A socket that is in COMPLETE or RETIRED after the works was in that phase before them, or has ended. -/
theorem State.visitWorks_ended (ws : List VisitWork) (s : State)
    (terminal : ((s.visitWorks i adopted ws).sock i).acct.phase.terminal = true) :
    ((s.visitWorks i adopted ws).sock i).acct.phase = (s.sock i).acct.phase ∨
      (s.visitWorks i adopted ws).smc.attention.getLsbD Cause.socketEnded.bit = true := by
  induction ws generalizing s with
  | nil => exact .inl rfl
  | cons w ws ih =>
    rcases ih (State.visitWork i adopted s w) terminal with same | ended
    · by_cases before : ((State.visitWork i adopted s w).sock i).acct.phase = (s.sock i).acct.phase
      · exact .inl (same.trans before)
      · refine .inr (State.visitWorks_keepsEnded i adopted ws _ ?_)
        have work := s.visitWork_eq i adopted w
        have here : (State.visitWork i adopted s w).sock i = (s.sock i).visitWork (s.ctx i) (s.share i) adopted w := by
          rw [work]
          exact s.sock_updSock_same i _
        rw [here] at before same
        rw [work]
        refine s.updSock_ended i _ ?_
        have ends : ((s.sock i).visitWork (s.ctx i) (s.share i) adopted w).acct.phase.terminal = true := by
          rw [← same]
          exact terminal
        unfold Socket.ends
        rw [ends]
        simpa using Ne.symm before
    · exact .inr ended

end

/-! ## How the visit goes on (R28, R42, R46) -/

section
variable (q : State) (i : SocketIx)

theorem State.nextMove_blocks (left : Nat) (moved : Bool) : let t := q.nextMove i left moved
    t = { q with scu := { q.scu with visit := t.scu.visit }, smc := t.smc } ∧ t.smc.attention = q.smc.attention := by
  unfold State.nextMove State.writeStatus State.requestScan
  dsimp only
  split <;> exact ⟨rfl, by rw [Smc.requestScan_eq]; exact requested_attention _ _⟩

/-- The next record that has room, or the Socket Status Record, is asked for. -/
theorem State.nextMove_asks (left : Nat) (moved : Bool) : visitAsks q (q.nextMove i left moved) i left moved := by
  refine ⟨fun none => ?_, fun f rest some staged => ?_⟩
  · subst none
    refine ⟨(q.sock i).ssrWords q.scu.sweepNumber, ?_, (q.sock i).ssrWords_fields _⟩
    unfold State.nextMove State.writeStatus State.requestScan
    dsimp only
    rw [Smc.requestScan_eq]
    rfl
  · obtain ⟨n, rfl⟩ := Nat.exists_eq_succ_of_ne_zero (Nat.ne_of_gt some)
    refine ⟨(q.sock i).gate.nextSlot, f.words, rfl, ?_, f.words_fields⟩
    unfold State.nextMove State.requestScan
    rw [staged]
    dsimp only
    rw [Smc.requestScan_eq]

theorem Socket.moveCount_eq (x : Socket) : x.moveCount = movesOf x := rfl

/-- On a port that the visit's transfer has released, what is asked for is granted, or waits behind the host. -/
theorem State.nextMove_goesOn (s : State) (left : Nat) (moved : Bool) (waits : s.smc.scanWaiting = none)
    (port : q.smc = { s.smc.release with attention := q.smc.attention })
    (sweep : q.scu.sweepNumber = s.scu.sweepNumber) :
    visitGoesOn s (q.nextMove i left moved) i left moved := by
  have asked (f : Transfer) : asksFor (requested q.smc f) s.smc.hostWaiting f := by
    rw [port]
    exact asksFor_released s.smc _ f waits
  have sock : (q.nextMove i left moved).sock i = q.sock i :=
    (congrArg (fun t : State => t.sock i) (q.nextMove_blocks i left moved).1 :)
  obtain ⟨status, record⟩ := q.nextMove_asks i left moved
  unfold visitGoesOn
  dsimp only
  rw [sock]
  refine ⟨fun none => ?_, fun f rest some staged => ?_⟩
  · obtain ⟨ws, is, fields⟩ := status none
    rw [is, ← sweep]
    exact ⟨rfl, ws, asked _, fields⟩
  · obtain ⟨slot, ws, place, is, fields⟩ := record f rest some staged
    rw [is]
    exact ⟨rfl, slot, ws, place, asked _, fields⟩

end

/-! ## The end of an SCR read -/

/-- What the end of an SCR read leaves at a visit without events: the socket is the one its record and its works make,
no other changes, and the visit goes on. -/
structure State.VisitLeaves (s : State) (i : SocketIx) (rec : Option (List Word)) (place : ThermalPlace) (t : State) : Prop where
  rest : t = { s with sockets := t.sockets, smc := t.smc, scu := t.scu }
  scu : t.scu = { s.scu with visit := t.scu.visit }
  others : ∀ j : SocketIx, j ≠ i → t.sock j = s.sock j
  here : t.sock i = ((s.sock i).takeRecord s.scu.config s.pxr.active i rec).1.visitWorks (s.ctx i) (s.share i)
    ((s.sock i).takeRecord s.scu.config s.pxr.active i rec).2 (worksOf place)
  bits : ∀ n : Nat, n ≠ Cause.socketEnded.bit → n ≠ Cause.controlStale.bit →
    t.smc.attention.getLsbD n = s.smc.attention.getLsbD n
  stale : t.smc.attention.getLsbD Cause.controlStale.bit = (s.smc.attention.getLsbD Cause.controlStale.bit ||
    (s.sock i).gate.newlyStale ((s.sock i).takeRecord s.scu.config s.pxr.active i rec).1.gate)
  hasEnded : (t.sock i).acct.phase.terminal = true → (t.sock i).acct.phase = (s.sock i).acct.phase ∨
    t.smc.attention.getLsbD Cause.socketEnded.bit = true
  goesOn : s.smc.scanWaiting = none → visitGoesOn s t i (movesOf (t.sock i)) false

theorem Socket.takeRecord_phase (cfg : BoardConfig) (m : LaneMap) (i : SocketIx) (rec : Option (List Word)) (x : Socket) :
    (x.takeRecord cfg m i rec).1.acct.phase = x.acct.phase := by
  unfold Socket.takeRecord Socket.revisionGate
  (repeat' split) <;> rfl

section
variable (s : State) (i : SocketIx) (rec : Option (List Word))

theorem State.takeRecord_beside : State.Beside i s (s.takeRecord i rec).1 :=
  (s.updSock_beside i _).trans (State.raiseIf_beside _ i _ _)

theorem State.takeRecord_here : (s.takeRecord i rec).1.sock i =
    ((s.sock i).takeRecord s.scu.config s.pxr.active i rec).1 := by
  have raised (t : State) (b : Bool) (c : Cause) : (t.raiseIf b c).sock i = t.sock i := by
    unfold State.sock
    rw [State.raiseIf_sockets]
  exact (raised _ _ _).trans (s.sock_updSock_same i _)

theorem State.takeRecord_attention : (s.takeRecord i rec).1.smc.attention =
    if (s.sock i).gate.newlyStale ((s.sock i).takeRecord s.scu.config s.pxr.active i rec).1.gate = true then
      s.smc.attention ||| Cause.controlStale.mask else s.smc.attention := by
  have quiet : (s.updSock i fun _ => ((s.sock i).takeRecord s.scu.config s.pxr.active i rec).1).smc.attention =
      s.smc.attention := by
    rw [State.updSock_eq]
    have quiet : s.sockets[i].ends ((s.sock i).takeRecord s.scu.config s.pxr.active i rec).1 = false :=
      Socket.ends_of_phase _ _ ((s.sock i).takeRecord_phase s.scu.config s.pxr.active i rec)
    exact if_neg (by rw [quiet]; nofun)
  unfold State.takeRecord State.raiseIf
  dsimp only
  split
  · exact congrArg (· ||| Cause.controlStale.mask) quiet
  · exact quiet

end

/-- The request after the works of a visit leaves what they made of the socket. -/
theorem State.nextMove_visitLeaves (s q : State) (i : SocketIx) (rec : Option (List Word)) (place : ThermalPlace)
    (beside : State.Beside i (s.withPort s.smc.release) q)
    (here : q.sock i = ((s.sock i).takeRecord s.scu.config s.pxr.active i rec).1.visitWorks (s.ctx i) (s.share i)
      ((s.sock i).takeRecord s.scu.config s.pxr.active i rec).2 (worksOf place))
    (bits : ∀ n : Nat, n ≠ Cause.socketEnded.bit → q.smc.attention.getLsbD n =
      (if (s.sock i).gate.newlyStale ((s.sock i).takeRecord s.scu.config s.pxr.active i rec).1.gate = true then
        s.smc.attention ||| Cause.controlStale.mask else s.smc.attention).getLsbD n)
    (ended : (q.sock i).acct.phase.terminal = true → (q.sock i).acct.phase = (s.sock i).acct.phase ∨
      q.smc.attention.getLsbD Cause.socketEnded.bit = true) :
    s.VisitLeaves i rec place (q.nextMove i (q.sock i).moveCount false) := by
  have moved := q.nextMove_blocks i (q.sock i).moveCount false
  have goesOn := q.nextMove_goesOn i s (q.sock i).moveCount false
  generalize q.nextMove i (q.sock i).moveCount false = t at moved goesOn ⊢
  obtain ⟨blocks, attention⟩ := moved
  have sock (j : SocketIx) : t.sock j = q.sock j := (congrArg (fun w : State => w.sock j) blocks :)
  have port : q.smc = { s.smc.release with attention := q.smc.attention } := by
    rw [beside.rest]
    rfl
  have scu : q.scu = s.scu := by
    rw [beside.rest]
    rfl
  rw [scu] at blocks
  refine ⟨?_, ?_, fun j other => (sock j).trans (beside.others j other), (sock i).trans here, fun n notEnded notStale => ?_,
    ?_, fun terminal => ?_, fun waits => ?_⟩
  · rw [blocks, beside.rest]
    rfl
  · rw [blocks]
  · rw [attention, bits n notEnded]
    split
    · exact Cause.stands _ n _ notStale
    · rfl
  · rw [attention, bits _ (by decide)]
    split
    · next is => rw [Cause.raised, is, Bool.or_true]
    · next not => rw [eq_false_of_ne_true not, Bool.or_false]
  · rw [sock] at terminal ⊢
    rw [attention]
    exact ended terminal
  · rw [sock, ← Socket.moveCount_eq]
    exact goesOn waits port (congrArg Scu.sweepNumber scu)

/-- The end of an SCR read without events. -/
theorem exec_scrReadComplete_quiet (s : State) (u : BitVec 3) (o : VisitOrder) (i : SocketIx) (live : s.pins.por = false)
    (reads : s.transferring = some (.scrRead i)) (quiet : o.quiet = true) :
    ∃ t, exec (.scrReadComplete u o) s = .next t ∧
      s.VisitLeaves i (s.readRecord (scrBase i) 64 u) o.thermal t := by
  have done : s.scrDone u o = (s.releasePort.visitSocket i (s.readRecord (scrBase i) 64 u) o).nextMove i
      ((s.releasePort.visitSocket i (s.readRecord (scrBase i) 64 u) o).sock i).moveCount false := by
    unfold State.scrDone
    rw [reads]
  refine ⟨s.scrDone u o, congrArg Host.Outcome.next (s.live_of_released _ live), ?_⟩
  rw [done, State.visitSocket_quiet _ i _ quiet, s.releasePort_eq]
  generalize s.readRecord (scrBase i) 64 u = rec
  let v := s.withPort s.smc.release
  have taken := v.takeRecord_beside i rec
  obtain ⟨beside, here⟩ := State.visitWorks_beside i (v.takeRecord i rec).2 (worksOf o.thermal) (v.takeRecord i rec).1
  have ended := State.visitWorks_ended i (v.takeRecord i rec).2 (worksOf o.thermal) (v.takeRecord i rec).1
  have bits := State.visitWorks_bits i (v.takeRecord i rec).2 (worksOf o.thermal) (v.takeRecord i rec).1
  rw [taken.ctx, taken.share, v.takeRecord_here i rec] at here
  rw [v.takeRecord_here i rec, Socket.takeRecord_phase] at ended
  rw [v.takeRecord_attention i rec] at bits
  exact s.nextMove_visitLeaves _ i rec o.thermal (taken.trans beside) here bits ended

end Sys2Proof.Machine
end

section
/-! The works of a visit on their socket (sections 7.1 and 10.9): what each keeps, what the phase decisions are, and the
thermal state that the works leave. -/

namespace Sys2Proof.Machine

/-! ## The crediting and the interval start -/

section
variable (c : Ctx) (x : Socket)

/-- The crediting changes what was credited and the spoil. -/
theorem Account.credit_eq (now : Word32) (period : Nat) (a : Account) : a.credit now period = { a with
    dwellSec := (a.credit now period).dwellSec, dwellMs := (a.credit now period).dwellMs
    oosSec := (a.credit now period).oosSec, oosMs := (a.credit now period).oosMs
    lateCount := (a.credit now period).lateCount, prevVisit := some now, spoil := false } := by
  unfold Account.credit Account.creditInterval
  split
  · rfl
  · (repeat' split) <;> rfl

/-- A change of the account that leaves the phase, the bin, the counts and the records. -/
structure Socket.Ledger (x y : Socket) : Prop where
  acct : y = { x with acct := { x.acct with
    dwellSec := y.acct.dwellSec, dwellMs := y.acct.dwellMs, oosSec := y.acct.oosSec, oosMs := y.acct.oosMs
    lateCount := y.acct.lateCount, prevVisit := y.acct.prevVisit, spoil := y.acct.spoil
    stressedAtStart := y.acct.stressedAtStart, leftStress := y.acct.leftStress } }

theorem Socket.Ledger.refl : x.Ledger x := ⟨rfl⟩

theorem Socket.credit_ledger : x.Ledger (x.credit c) where
  acct := by
    unfold Socket.credit
    rw [x.acct.credit_eq]

theorem Socket.startInterval_ledger : x.Ledger x.startInterval := ⟨rfl⟩

end

section
variable {x y : Socket} (l : x.Ledger y)
include l

theorem Socket.Ledger.gate : y.gate = x.gate := (congrArg Socket.gate l.acct :)
theorem Socket.Ledger.rail : y.rail = x.rail := (congrArg Socket.rail l.acct :)
theorem Socket.Ledger.sensor : y.sensor = x.sensor := (congrArg Socket.sensor l.acct :)
theorem Socket.Ledger.thermal : y.thermal = x.thermal := (congrArg Socket.thermal l.acct :)
theorem Socket.Ledger.ex : y.ex = x.ex := (congrArg Socket.ex l.acct :)
theorem Socket.Ledger.phase : y.acct.phase = x.acct.phase := (congrArg (fun z : Socket => z.acct.phase) l.acct :)

end

/-! ## The thermal work -/

section
variable (c : Ctx) (share : Int) (x : Socket)

/-- The thermal work changes the thermal state and, with a condition, counts, records and strikes, or retires. -/
theorem Socket.thermalVisit_cases : (∃ z a, x.thermalVisit c share = ({ x with thermal := z } : Socket).accounted a) ∨
    x.acct.phase.reporting = true ∧ (x.thermalVisit c share).acct.phase = .retired := by
  cases updates : x.updates c with
  | none =>
    have rests := x.thermalVisit_rests c share updates
    exact .inl ⟨(x.thermalVisit c share).thermal, x.acct, by rw [rests]; rfl⟩
  | some tf =>
    have visit : x.thermalVisit c share = ((x.updated c share tf).runawayStep c tf).soakStep c
        (x.updated c share tf).soakExpired (x.updated c share tf).thermalDetails := by
      unfold Socket.thermalVisit
      rw [updates]
    rw [visit]
    rcases (x.updated c share tf).runawayStep_cases c tf with ⟨a, is⟩ | ⟨reports, retired⟩
    · rw [is]
      rcases Socket.soakStep_cases c (Socket.accounted _ a) (x.updated c share tf).soakExpired
        (x.updated c share tf).thermalDetails with ⟨b, isSoak⟩ | ⟨reports, retired⟩
      · exact .inl ⟨_, b, isSoak⟩
      · exact .inr ⟨reports, retired⟩
    · rcases Socket.soakStep_cases c ((x.updated c share tf).runawayStep c tf) (x.updated c share tf).soakExpired
        (x.updated c share tf).thermalDetails with ⟨b, isSoak⟩ | ⟨-, again⟩
      · rw [isSoak]
        exact .inr ⟨reports, retired⟩
      · exact .inr ⟨reports, again⟩

@[simp] theorem Socket.runawayStep_gate (tf : Int) : (x.runawayStep c tf).gate = x.gate := by
  unfold Socket.runawayStep
  (repeat' split) <;> simp

@[simp] theorem Socket.soakStep_gate (b : Bool) (d : List Word) : (x.soakStep c b d).gate = x.gate := by
  unfold Socket.soakStep
  split <;> simp

@[simp] theorem Socket.thermalVisit_gate : (x.thermalVisit c share).gate = x.gate := by
  cases updates : x.updates c with
  | none => rw [x.thermalVisit_rests c share updates]
  | some tf =>
    unfold Socket.thermalVisit
    rw [updates]
    simp [Socket.updated]

/-- The thermal work is a sequence of changes of the thermal state and of THERMAL conditions of a visit. -/
theorem Socket.thermalVisit_steps {R : Socket → Socket → Prop} (trans : ∀ {x y z : Socket}, R x y → R y z → R x z)
    (thermal : ∀ (x : Socket) (z : Thermal), R x { x with thermal := z })
    (condition : ∀ (x : Socket) (sub : Nat) (d : List Word), sub ≠ subAbsLimit →
      R x (x.takeCondition c .thermal sub d)) : R x (x.thermalVisit c share) := by
  cases updates : x.updates c with
  | none =>
    rw [x.thermalVisit_rests c share updates]
    exact thermal x _
  | some tf =>
    have runs (y : Socket) : R y (y.runawayStep c tf) := by
      unfold Socket.runawayStep
      (repeat' split)
      · exact trans (thermal y _) (condition _ _ _ (by decide))
      · exact thermal y _
      · exact thermal y _
    have soaks (y : Socket) (b : Bool) (d : List Word) : R y (y.soakStep c b d) := by
      unfold Socket.soakStep
      split
      · exact trans (thermal y _) (condition _ _ _ (by decide))
      · exact thermal y y.thermal
    unfold Socket.thermalVisit
    rw [updates]
    exact trans (trans (thermal x _) (runs _)) (soaks _ _ _)

/-- Outside the reporting phases it changes the thermal state only. -/
theorem Socket.thermalVisit_silent (silent : x.acct.phase.reporting = false) :
    ∃ z, x.thermalVisit c share = { x with thermal := z } := by
  refine Socket.thermalVisit_steps c share x (R := fun x y => x.acct.phase.reporting = false →
    ∃ z, y = { x with thermal := z }) (fun f g silent => ?_) (fun x z _ => ⟨z, rfl⟩) (fun x sub d _ silent => ?_) silent
  · obtain ⟨z, rfl⟩ := f silent
    obtain ⟨w, rfl⟩ := g silent
    exact ⟨w, rfl⟩
  · exact ⟨x.thermal, x.takeCondition_dropped c .thermal sub d silent⟩

/-- A THERMAL condition under IGNORE or LOG counts, and under LOG is recorded. -/
theorem Socket.takeCondition_noted (sub : Nat) (d : List Word) (other : sub ≠ subAbsLimit)
    (passive : x.gate.shadow.kindActions[Kind.thermal.ix] = .ignore ∨
      x.gate.shadow.kindActions[Kind.thermal.ix] = .log) :
    ∃ a, x.takeCondition c .thermal sub d = x.accounted a ∧ a.strikes = x.acct.strikes := by
  have action := Settings.actionFor_kindAction x.gate.shadow .thermal sub (.inr other)
  by_cases reports : x.acct.phase.reporting = true
  · rcases passive with ignores | logs
    · exact ⟨(x.counted .thermal).acct, x.takeCondition_ignore c .thermal sub d reports (action.trans ignores), rfl⟩
    · refine ⟨(x.recorded c .thermal sub d).acct, ?_, ?_⟩
      · exact (x.takeCondition_log c .thermal sub d reports (action.trans logs)).trans (x.recorded_accounted c .thermal sub d)
      · have strikes := x.takeCondition_strikes c .thermal sub d reports
        rw [x.takeCondition_log c .thermal sub d reports (action.trans logs), action, logs] at strikes
        exact strikes
  · exact ⟨x.acct, x.takeCondition_dropped c .thermal sub d (by simpa using reports), rfl⟩

/-- Nor, with the Kind Action IGNORE or LOG of THERMAL, anything but the thermal state, the counts and the records. -/
theorem Socket.thermalVisit_passive (passive : x.gate.shadow.kindActions[Kind.thermal.ix] = .ignore ∨
    x.gate.shadow.kindActions[Kind.thermal.ix] = .log) : ∃ z a, x.thermalVisit c share =
      ({ x with thermal := z } : Socket).accounted a ∧ a.strikes = x.acct.strikes := by
  refine Socket.thermalVisit_steps c share x (R := fun x y => x.gate.shadow.kindActions[Kind.thermal.ix] = .ignore ∨
    x.gate.shadow.kindActions[Kind.thermal.ix] = .log → ∃ z a, y = ({ x with thermal := z } : Socket).accounted a ∧
      a.strikes = x.acct.strikes) (fun f g passive => ?_) (fun x z _ => ⟨z, x.acct, rfl, rfl⟩)
      (fun x sub d other passive => ?_) passive
  · obtain ⟨z, a, rfl, same⟩ := f passive
    obtain ⟨w, b, rfl, again⟩ := g passive
    exact ⟨w, b, rfl, again.trans same⟩
  · obtain ⟨a, is, same⟩ := x.takeCondition_noted c sub d other passive
    exact ⟨x.thermal, a, is, same⟩

end

/-! ## The phase decisions -/

section
variable (x : Socket)

/-- The soak test and the completion test (R163, R166). -/
def Socket.tests (x : Socket) : Socket := x.soakTest.completionTest

theorem Socket.tests_other (notSoaking : x.acct.phase ≠ .soaking) (notStressing : x.acct.phase ≠ .stressing) :
    x.tests = x := by
  have soak : x.soakTest = x := if_neg fun is => notSoaking is.1
  unfold Socket.tests
  rw [soak]
  exact if_neg fun is => notStressing is.1

theorem Socket.completeAdopted_other (other : x.acct.phase ≠ .complete) : x.completeAdopted = x :=
  if_neg fun is => other is.1

theorem Socket.enable_other (c : Ctx) (other : x.acct.phase ≠ .empty) : x.enable c = x := if_neg other

theorem Socket.withdraw_other (silent : x.acct.phase.reporting = false) : x.withdraw = x :=
  if_neg (by rw [silent]; nofun)

theorem Socket.withdraw_phase (reports : x.acct.phase.reporting = true) : x.withdraw.acct.phase = .empty := by
  unfold Socket.withdraw
  rw [if_pos reports]
  simp [Socket.powerOff, Socket.takedown, Socket.changePhase]

/-- The entry of an EMPTY socket: into WAITING, out of which a locked bank or its lost sensor may retire it. -/
theorem Socket.enable_phase (c : Ctx) (empty : x.acct.phase = .empty) :
    (x.enable c).acct.phase = .waiting ∨ (x.enable c).acct.phase = .retired := by
  have loss (y : Socket) (in_ : y.acct.phase = .waiting ∨ y.acct.phase = .retired) :
      (y.reportLoss c).acct.phase = .waiting ∨ (y.reportLoss c).acct.phase = .retired := by
    unfold Socket.reportLoss
    split
    · rcases Socket.takeCondition_cases c .sensorLost 0 [y.sensor.raw] y with ⟨a, is⟩ | ⟨-, a, is⟩
      · rw [is]
        exact in_
      · rw [is]
        exact .inr rfl
    · exact in_
  unfold Socket.enable
  rw [if_pos empty]
  refine loss _ ?_
  split
  · unfold Socket.chainEntry
    split
    · exact .inr rfl
    · exact .inl rfl
  · exact .inl rfl

end

section
variable (c : Ctx) (adopted : Option Bool) (x : Socket)

theorem Socket.decide_reporting (reports : x.acct.phase.reporting = true) (goesOn : adopted ≠ some false) :
    x.decide c adopted = x.tests := by
  have notComplete : x.acct.phase ≠ .complete := fun is => by rw [is] at reports; cases reports
  have notEmpty : x.acct.phase ≠ .empty := fun is => by rw [is] at reports; cases reports
  match adopted with
  | none => rfl
  | some true =>
    unfold Socket.decide Socket.takeEnable
    dsimp only
    rw [x.enable_other c notEmpty, x.completeAdopted_other notComplete]
    rfl
  | some false => exact absurd rfl goesOn

theorem Socket.decide_withdraw (reports : x.acct.phase.reporting = true) : x.decide c (some false) = x.withdraw := by
  have empty := x.withdraw_phase reports
  unfold Socket.decide Socket.takeEnable
  dsimp only
  rw [Socket.completeAdopted_other _ (by rw [empty]; nofun)]
  exact Socket.tests_other _ (by rw [empty]; nofun) (by rw [empty]; nofun)

theorem Socket.decide_enable (empty : x.acct.phase = .empty) : x.decide c (some true) = x.enable c := by
  have phase := x.enable_phase c empty
  unfold Socket.decide Socket.takeEnable
  dsimp only
  rw [Socket.completeAdopted_other _ (by rcases phase with is | is <;> rw [is] <;> nofun)]
  exact Socket.tests_other _ (by rcases phase with is | is <;> rw [is] <;> nofun)
    (by rcases phase with is | is <;> rw [is] <;> nofun)

theorem Socket.completeAdopted_phase : x.completeAdopted.acct.phase = x.acct.phase := by
  unfold Socket.completeAdopted
  split <;> rfl

theorem Socket.decide_complete (complete : x.acct.phase = .complete) (adopts : adopted.isSome = true) :
    x.decide c adopted = x.completeAdopted := by
  have phase : x.completeAdopted.acct.phase = .complete := x.completeAdopted_phase.trans complete
  have stands := x.completeAdopted.tests_other (by rw [phase]; nofun) (by rw [phase]; nofun)
  have enabled := x.enable_other c (by rw [complete]; nofun)
  have withdrawn := x.withdraw_other (by rw [complete]; rfl)
  unfold Socket.decide Socket.takeEnable
  match adopted with
  | some true =>
    dsimp only
    rw [enabled]
    exact stands
  | some false =>
    dsimp only
    rw [withdrawn]
    exact stands

theorem Socket.decide_stands (silent : x.acct.phase.reporting = false)
    (stands : x.acct.phase = .retired ∨ (x.acct.phase = .empty ∧ adopted ≠ some true) ∨
      (x.acct.phase = .complete ∧ adopted = none)) : x.decide c adopted = x := by
  have quiet : x.tests = x := by
    refine x.tests_other ?_ ?_ <;>
    · intro is
      rw [is] at silent
      cases silent
  match adopted with
  | none => exact quiet
  | some true =>
    have retired : x.acct.phase = .retired := by simpa using stands
    unfold Socket.decide Socket.takeEnable
    dsimp only
    rw [x.enable_other c (by rw [retired]; nofun), x.completeAdopted_other (by rw [retired]; nofun)]
    exact quiet
  | some false =>
    have notComplete : x.acct.phase ≠ .complete := by
      rcases stands with is | ⟨is, -⟩ | ⟨-, is⟩
      · rw [is]
        nofun
      · rw [is]
        nofun
      · cases is
    unfold Socket.decide Socket.takeEnable
    dsimp only
    rw [x.withdraw_other silent, x.completeAdopted_other notComplete]
    exact quiet

/-- The decisions are one of five, by the phase and the Enable adopted. -/
theorem Socket.decide_cases :
    (x.acct.phase.reporting = true ∧ adopted ≠ some false ∧ x.decide c adopted = x.tests) ∨
    (x.acct.phase.reporting = true ∧ adopted = some false ∧ x.decide c adopted = x.withdraw) ∨
    (x.acct.phase = .empty ∧ adopted = some true ∧ x.decide c adopted = x.enable c) ∨
    (x.acct.phase = .complete ∧ adopted.isSome = true ∧ x.decide c adopted = x.completeAdopted) ∨
    (x.acct.phase.reporting = false ∧ x.decide c adopted = x) := by
  cases reports : x.acct.phase.reporting with
  | true =>
    by_cases off : adopted = some false
    · exact .inr (.inl ⟨rfl, off, off ▸ x.decide_withdraw c reports⟩)
    · exact .inl ⟨rfl, off, x.decide_reporting c adopted reports off⟩
  | false =>
    by_cases enters : x.acct.phase = .empty ∧ adopted = some true
    · obtain ⟨empty, rfl⟩ := enters
      exact .inr (.inr (.inl ⟨empty, rfl, x.decide_enable c empty⟩))
    by_cases takes : x.acct.phase = .complete ∧ adopted.isSome = true
    · exact .inr (.inr (.inr (.inl ⟨takes.1, takes.2, x.decide_complete c adopted takes.1 takes.2⟩)))
    · refine .inr (.inr (.inr (.inr ⟨rfl, x.decide_stands c adopted reports ?_⟩)))
      cases phase : x.acct.phase <;> simp_all [Phase.reporting]

end

/-! ## What the phase decisions keep -/

/-- What the decisions leave as it is: the gate, the sensor, the rail's samples, its threshold and its part in the
allocation, the mode and the suspension flag of the exercise, the soak timer, and a runaway count of 0. -/
structure Socket.Keeps (x y : Socket) : Prop where
  gate : y.gate = x.gate
  sensor : y.sensor = x.sensor
  voltage : y.rail.voltage = x.rail.voltage
  current : y.rail.current = x.rail.current
  drawn : y.rail.allocCurrent = x.rail.allocCurrent
  threshold : y.rail.threshold = x.rail.threshold
  pending : y.ex.pendingMode = x.ex.pendingMode
  flag : y.ex.suspendFlag = x.ex.suspendFlag
  soakMs : y.thermal.soakMs = x.thermal.soakMs
  runaway : x.thermal.runaway = 0 → y.thermal.runaway = 0

theorem Socket.Keeps.refl (x : Socket) : x.Keeps x := ⟨rfl, rfl, rfl, rfl, rfl, rfl, rfl, rfl, rfl, id⟩

theorem Socket.Keeps.trans {x y z : Socket} (f : x.Keeps y) (g : y.Keeps z) : x.Keeps z :=
  ⟨g.gate.trans f.gate, g.sensor.trans f.sensor, g.voltage.trans f.voltage, g.current.trans f.current,
    g.drawn.trans f.drawn, g.threshold.trans f.threshold,
    g.pending.trans f.pending, g.flag.trans f.flag, g.soakMs.trans f.soakMs, g.runaway ∘ f.runaway⟩

/-- A change of the accounts and the exercise. -/
theorem Socket.Keeps.of_blocks {x y : Socket} (gate : y.gate = x.gate) (rail : y.rail = x.rail)
    (sensor : y.sensor = x.sensor) (thermal : y.thermal = x.thermal) (pending : y.ex.pendingMode = x.ex.pendingMode)
    (flag : y.ex.suspendFlag = x.ex.suspendFlag) : x.Keeps y :=
  ⟨gate, sensor, by rw [rail], by rw [rail], by rw [rail], by rw [rail], pending, flag, by rw [thermal],
    by rw [thermal]; exact id⟩

theorem Rail.takedown_drawn (r : Rail) : r.takedown.allocCurrent = r.allocCurrent := by
  rw [Rail.allocCurrent_eq, Rail.allocCurrent_eq]
  unfold Rail.takedown
  cases st : r.st <;> simp [Rail.clearChecks, st]

theorem Rail.chainEntry_drawn (b : Bank) (r : Rail) : (r.chainEntry b).allocCurrent = r.allocCurrent := by
  rw [Rail.allocCurrent_eq, Rail.allocCurrent_eq]
  unfold Rail.chainEntry Rail.joinChain
  cases st : r.st <;> simp [st]
  cases b.holdOff <;> rfl

theorem Rail.chainEntry_samples (b : Bank) (r : Rail) :
    (r.chainEntry b).voltage = r.voltage ∧ (r.chainEntry b).current = r.current := by
  unfold Rail.chainEntry Rail.joinChain
  (repeat' split) <;> exact ⟨rfl, rfl⟩

theorem Rail.takedown_threshold (r : Rail) : r.takedown.threshold = r.threshold := by
  unfold Rail.takedown
  split <;> rfl

theorem Rail.chainEntry_threshold (b : Bank) (r : Rail) : (r.chainEntry b).threshold = r.threshold := by
  unfold Rail.chainEntry Rail.joinChain
  (repeat' split) <;> rfl

theorem Exercise.followPhase_pending (e : Exercise) (old new : Phase) :
    (e.followPhase old new).pendingMode = e.pendingMode ∧ (e.followPhase old new).suspendFlag = e.suspendFlag := by
  unfold Exercise.followPhase Exercise.beginStress Exercise.pause Exercise.halt
  (repeat' split) <;> exact ⟨rfl, rfl⟩

section
variable (x : Socket)

theorem Socket.changePhase_keeps (p : Phase) (r : ResumePhase) (other : p ≠ .soaking) : x.Keeps (x.changePhase p r) := by
  obtain ⟨pending, flag⟩ := x.ex.followPhase_pending x.acct.phase p
  exact .of_blocks (by simp) (by simp) (x.changePhase_sensor p r other) (x.changePhase_thermal p r other)
    (by rw [x.changePhase_ex]; exact pending) (by rw [x.changePhase_ex]; exact flag)

theorem Socket.takedown_keeps : x.Keeps x.takedown :=
  ⟨rfl, rfl, x.rail.takedown_voltage, x.rail.takedown_current, x.rail.takedown_drawn, x.rail.takedown_threshold,
    rfl, rfl, rfl, id⟩

theorem Socket.powerOff_keeps : x.Keeps x.powerOff := by
  have rests : x.Keeps { x with thermal := x.thermal.rest } := ⟨rfl, rfl, rfl, rfl, rfl, rfl, rfl, rfl, rfl, fun _ => rfl⟩
  exact rests.trans (Socket.takedown_keeps _)

theorem Socket.retire_keeps (k : RetireKind) : x.Keeps (x.retire k) where
  gate := by simp
  sensor := by simp
  voltage := by simp
  current := by simp
  drawn := by
    rw [Socket.retire_rail]
    exact x.rail.takedown_drawn
  threshold := by
    rw [Socket.retire_rail]
    exact x.rail.takedown_threshold
  pending := (x.changePhase_keeps .retired .none nofun).pending
  flag := (x.changePhase_keeps .retired .none nofun).flag
  soakMs := by
    rw [Socket.retire_thermal]
    rfl
  runaway _ := by
    rw [Socket.retire_thermal]
    rfl

theorem Socket.accounted_keeps (a : Account) : x.Keeps (x.accounted a) := ⟨rfl, rfl, rfl, rfl, rfl, rfl, rfl, rfl, rfl, id⟩

theorem Socket.takeCondition_keeps (c : Ctx) (k : Kind) (sub : Nat) (d : List Word) :
    x.Keeps (x.takeCondition c k sub d) := by
  rcases Socket.takeCondition_cases c k sub d x with ⟨a, is⟩ | ⟨-, a, is⟩ <;> rw [is]
  · exact x.accounted_keeps a
  · exact (x.accounted_keeps a).trans (Socket.retire_keeps _ _)

theorem Socket.chainEntry_keeps (c : Ctx) : x.Keeps (x.chainEntry c) := by
  unfold Socket.chainEntry Socket.report
  split
  · split
    · exact x.retire_keeps _
    · exact .refl x
  · obtain ⟨voltage, current⟩ := x.rail.chainEntry_samples c.bank
    exact ⟨rfl, rfl, voltage, current, x.rail.chainEntry_drawn c.bank, x.rail.chainEntry_threshold c.bank, rfl, rfl,
      rfl, id⟩

theorem Socket.enable_keeps (c : Ctx) : x.Keeps (x.enable c) := by
  have waits := x.changePhase_keeps .waiting .none nofun
  have loss (y : Socket) : y.Keeps (y.reportLoss c) := by
    unfold Socket.reportLoss
    split
    · exact y.takeCondition_keeps c _ _ _
    · exact .refl y
  unfold Socket.enable
  split
  · refine .trans ?_ (loss _)
    split
    · exact waits.trans (Socket.chainEntry_keeps _ c)
    · exact waits
  · exact .refl x

theorem Socket.withdraw_keeps : x.Keeps x.withdraw := by
  have empties := x.changePhase_keeps .empty .none nofun
  unfold Socket.withdraw
  split
  · refine .trans (.trans empties ?_) (Socket.powerOff_keeps _)
    exact .of_blocks rfl rfl rfl rfl rfl rfl
  · exact .refl x

theorem Socket.completeAdopted_keeps : x.Keeps x.completeAdopted := by
  unfold Socket.completeAdopted
  split
  · exact x.powerOff_keeps
  · exact .refl x

theorem Socket.complete_keeps : x.Keeps x.complete := by
  have ends := x.changePhase_keeps .complete .none nofun
  have binned (b : Bin) : x.Keeps { x.changePhase .complete .none with
      acct := { (x.changePhase .complete .none).acct with bin := b } } := ends.trans (.of_blocks rfl rfl rfl rfl rfl rfl)
  unfold Socket.complete
  dsimp only
  split
  · exact (binned _).trans (Socket.powerOff_keeps _)
  · exact binned _

theorem Socket.tests_keeps : x.Keeps x.tests := by
  have soaks : x.Keeps x.soakTest := by
    unfold Socket.soakTest
    split
    · exact x.changePhase_keeps .stressing .none nofun
    · exact .refl x
  have completes (y : Socket) : y.Keeps y.completionTest := by
    unfold Socket.completionTest
    split
    · exact y.complete_keeps
    · exact .refl y
  exact soaks.trans (completes _)

theorem Socket.decide_keeps (c : Ctx) (adopted : Option Bool) : x.Keeps (x.decide c adopted) := by
  rcases x.decide_cases c adopted with ⟨-, -, is⟩ | ⟨-, -, is⟩ | ⟨-, -, is⟩ | ⟨-, -, is⟩ | ⟨-, is⟩ <;> rw [is]
  · exact x.tests_keeps
  · exact x.withdraw_keeps
  · exact x.enable_keeps c
  · exact x.completeAdopted_keeps
  · exact .refl x

end

/-! ## The thermal state after the decisions -/

section
variable (c : Ctx) (adopted : Option Bool) (x : Socket)

/-- The phases at which the thermal state of a visit is given: the visit ends no phase, or completes the socket held
powered. -/
def Socket.staysUnder (x : Socket) (q : Phase) (held : Prop) : Prop :=
  q = x.acct.phase ∨ (x.acct.phase = .soaking ∧ q = .stressing) ∨
    ((x.acct.phase = .soaking ∨ x.acct.phase = .stressing) ∧ q = .complete ∧ held)

theorem Socket.soakTest_thermal : x.soakTest.thermal = x.thermal := by
  unfold Socket.soakTest
  split
  · exact x.changePhase_thermal _ _ nofun
  · rfl

theorem Socket.tests_thermal (held : x.tests.acct.phase = .complete → x.gate.shadow.endAction = .holdPowered) :
    x.tests.thermal = x.thermal := by
  have gate : x.soakTest.gate = x.gate := by
    unfold Socket.soakTest
    split <;> simp
  unfold Socket.tests Socket.completionTest at held ⊢
  split at held
  · next completes =>
    rw [if_pos completes]
    have stays : x.soakTest.complete.acct.phase = .complete := by
      unfold Socket.complete
      dsimp only
      split <;> rfl
    have keeps := held stays
    rw [← gate] at keeps
    unfold Socket.complete
    dsimp only
    rw [if_neg (by rw [Socket.changePhase_gate, keeps]; nofun)]
    exact (x.soakTest.changePhase_thermal .complete .none nofun).trans x.soakTest_thermal
  · next goesOn =>
    rw [if_neg goesOn]
    exact x.soakTest_thermal

/-- Decisions that end no phase leave the thermal state, but for the power-off of a COMPLETE socket. -/
theorem Socket.decide_thermal {held : Prop} (holds : held → x.gate.shadow.endAction = .holdPowered)
    (stays : x.staysUnder (x.decide c adopted).acct.phase held) :
    (x.decide c adopted).thermal = x.thermal ∨
      (x.acct.phase = .complete ∧ (x.gate.shadow.endAction = .powerOff ∨ x.gate.shadow.enable = false) ∧
        (x.decide c adopted).thermal = x.thermal.rest) := by
  unfold Socket.staysUnder at stays
  rcases x.decide_cases c adopted with ⟨reports, -, is⟩ | ⟨reports, -, is⟩ | ⟨empty, -, is⟩ | ⟨complete, -, is⟩ | ⟨-, is⟩ <;>
    rw [is] at stays ⊢
  · refine .inl (x.tests_thermal fun ends => ?_)
    rw [ends] at stays
    rcases stays with same | ⟨-, none⟩ | ⟨-, -, is⟩
    · rw [← same] at reports
      cases reports
    · cases none
    · exact holds is
  · rw [x.withdraw_phase reports] at stays
    rcases stays with same | ⟨-, none⟩ | ⟨-, none, -⟩
    · rw [← same] at reports
      cases reports
    · cases none
    · cases none
  · rw [empty] at stays
    rcases x.enable_phase c empty with is | is <;> rw [is] at stays <;> simp at stays
  · unfold Socket.completeAdopted
    split
    · next off => exact .inr ⟨complete, off.2, rfl⟩
    · exact .inl rfl
  · exact .inl rfl

end

end Sys2Proof.Machine
end

section
/-! What the four works of a visit leave (sections 7.1 and 10.9), and the statement about a stale visit. -/

namespace Sys2Proof.Machine

/-! ## The thermal work between the others -/

/-- What TABLE 7-1 says reads of a socket its settings, its sensor and its thermal state; of a socket out of control, not
the thermal state. -/
theorem thermalWorked_of_same {ctrl ctrl' : Prop} {b : Bank} {h : Nat} {x x' : Socket} {z : Thermal}
    (worked : thermalWorked ctrl b h x z) (same : ctrl' ↔ ctrl) (gate : x'.gate.shadow = x.gate.shadow)
    (sensor : x'.sensor = x.sensor) (thermal : ctrl → x'.thermal = x.thermal) : thermalWorked ctrl' b h x' z := by
  obtain ⟨ceiling, hMax, rests, first, holds, lost, found, updates⟩ := worked
  unfold thermalWorked
  rw [gate, sensor, same]
  refine ⟨ceiling, hMax, rests, first, fun control invalid => ?_, lost, found, fun tf control valid value => ?_⟩
  · rw [thermal control]
    exact holds control invalid
  · rw [thermal control]
    exact updates tf control valid value

/-- A socket out of control that is powered off keeps the thermal state of its rest. -/
theorem thermalWorked_rest {b : Bank} {h : Nat} {x : Socket} {z : Thermal} {ctrl : Prop} (out : ¬ctrl)
    (worked : thermalWorked ctrl b h x z) : thermalWorked ctrl b h x z.rest := by
  obtain ⟨ceiling, hMax, -⟩ := worked
  exact ⟨ceiling, hMax, fun _ _ => ⟨rfl, rfl, rfl, rfl, rfl, rfl⟩, fun _ => ⟨rfl, rfl, rfl, rfl, rfl, rfl⟩,
    fun is => absurd is out, fun is => absurd is out, fun _ _ => ⟨rfl, rfl, rfl, rfl, rfl, rfl⟩, fun _ is => absurd is out⟩

/-- Whether a socket is under control asks for its phase and its settings. -/
theorem controlled_of_same (c : Ctx) {x y : Socket} (gate : y.gate.shadow = x.gate.shadow)
    (phase : y.acct.phase = x.acct.phase) : controlled c y ↔ controlled c x := by
  unfold controlled
  rw [gate, phase]

theorem controlled_active (c : Ctx) {x : Socket} (active : x.acct.phase = .soaking ∨ x.acct.phase = .stressing) :
    controlled c x := by
  unfold controlled
  rcases active with is | is <;> simp [is]

/-- A COMPLETE socket that is held powered on a RUNNING board. -/
def Socket.heldPowered (c : Ctx) (x : Socket) : Prop :=
  x.gate.shadow.endAction = .holdPowered ∧ x.gate.shadow.enable = true ∧ c.board = .running

theorem controlled_held (c : Ctx) {x : Socket} (complete : x.acct.phase = .complete) (held : x.heldPowered c) :
    controlled c x := by
  obtain ⟨action, enable, board⟩ := held
  simp [controlled, complete, action, enable, board]

/-- A COMPLETE socket with POWER_OFF or Enable 0 is not. -/
theorem not_controlled_off (c : Ctx) {x : Socket} (complete : x.acct.phase = .complete)
    (off : x.gate.shadow.endAction = .powerOff ∨ x.gate.shadow.enable = false) : ¬controlled c x := by
  rcases off with is | is <;> simp [controlled, complete, is]

section
variable (c : Ctx) (share : Int) (adopted : Option Bool) {x y w v : Socket}

/-- The headroom of a socket, from the share of the other three. -/
def Socket.room (share : Int) (x : Socket) : Nat := (share - x.rail.allocCurrent).toNat

theorem Socket.decide_retired (retired : x.acct.phase = .retired) : x.decide c adopted = x :=
  x.decide_stands c adopted (by rw [retired]; rfl) (.inl retired)

/-- Decisions after the thermal work: the ledger entries between them ask for nothing. -/
theorem thermalWorked_decided (before : x.Ledger w) (between : (w.thermalVisit c share).Ledger v)
    (after : (v.decide c adopted).Ledger y) (stays : x.staysUnder y.acct.phase (x.heldPowered c)) :
    thermalWorked (controlled c x) c.bank (x.room share) x y.thermal := by
  rcases w.thermalVisit_cases c share with ⟨z, a, is⟩ | ⟨reports, retired⟩
  · have kept : (w.thermalVisit c share).acct.phase = w.acct.phase := by rw [is]; rfl
    have phase : v.acct.phase = x.acct.phase := between.phase.trans (kept.trans before.phase)
    have gate : v.gate = x.gate := between.gate.trans ((w.thermalVisit_gate c share).trans before.gate)
    have worked := (w.thermalVisit_worked c share kept).1
    have moved : thermalWorked (controlled c x) c.bank (x.room share) x (w.thermalVisit c share).thermal := by
      unfold Socket.room
      rw [← before.rail]
      exact thermalWorked_of_same worked (controlled_of_same c (by rw [before.gate]) before.phase.symm)
        (by rw [before.gate]) before.sensor.symm fun _ => before.thermal.symm
    unfold Socket.staysUnder at stays
    rw [after.phase, ← phase] at stays
    rw [after.thermal]
    rcases v.decide_thermal c adopted (fun held => by rw [gate]; exact held.1) stays with same | ⟨complete, off, rests⟩
    · rw [same, between.thermal]
      exact moved
    · rw [rests, between.thermal]
      rw [gate] at off
      exact thermalWorked_rest (not_controlled_off c (phase.symm.trans complete) off) moved
  · have gone : v.acct.phase = .retired := between.phase.trans retired
    unfold Socket.staysUnder at stays
    rw [after.phase, Socket.decide_retired c adopted gone, gone] at stays
    rw [before.phase] at reports
    rcases stays with same | ⟨-, none⟩ | ⟨-, none, -⟩
    · rw [← same] at reports
      cases reports
    · cases none
    · cases none

/-- Decisions before it. -/
theorem thermalWorked_afterDecide (before : x.Ledger w) (between : (w.decide c adopted).Ledger v)
    (after : (v.thermalVisit c share).Ledger y) (stays : x.staysUnder y.acct.phase (x.heldPowered c)) :
    thermalWorked (controlled c x) c.bank (x.room share) x y.thermal := by
  have keeps := w.decide_keeps c adopted
  have gate : v.gate = x.gate := between.gate.trans (keeps.gate.trans before.gate)
  rcases v.thermalVisit_cases c share with ⟨z, a, is⟩ | ⟨reports, retired⟩
  · have kept : (v.thermalVisit c share).acct.phase = v.acct.phase := by rw [is]; rfl
    have worked := (v.thermalVisit_worked c share kept).1
    have room : x.room share = v.room share := by
      unfold Socket.room
      rw [between.rail, keeps.drawn, before.rail]
    have phase : y.acct.phase = v.acct.phase := after.phase.trans kept
    unfold Socket.staysUnder at stays
    rw [phase] at stays
    have decided := w.decide_thermal c adopted (held := x.heldPowered c) (fun held => by rw [before.gate]; exact held.1)
      (by rw [← between.phase]; unfold Socket.staysUnder; rw [before.phase]; exact stays)
    rw [after.thermal, room]
    refine thermalWorked_of_same worked ?_ (by rw [gate]) (by rw [between.sensor, keeps.sensor, before.sensor])
      fun control => ?_
    · rcases stays with same | ⟨soaks, stresses⟩ | ⟨active, complete, held⟩
      · exact controlled_of_same c (by rw [gate]) same.symm
      · exact iff_of_true (controlled_active c (.inl soaks)) (controlled_active c (.inr stresses))
      · refine iff_of_true (controlled_active c active) (controlled_held c complete ?_)
        unfold Socket.heldPowered
        rw [gate]
        exact held
    · rcases decided with same | ⟨complete, off, -⟩
      · rw [between.thermal, same, before.thermal]
      · rw [before.phase] at complete
        have still : v.acct.phase = .complete := by simpa [complete] using stays
        rw [before.gate, ← gate] at off
        exact absurd control (not_controlled_off c still off)
  · unfold Socket.staysUnder at stays
    rw [after.phase, retired] at stays
    have was : Phase.retired = x.acct.phase := by simpa using stays
    rw [between.phase, Socket.decide_retired c adopted (before.phase.trans was.symm), before.phase, ← was] at reports
    cases reports

/-- The thermal state that the works of a visit leave, where the visit ends no phase or completes the socket held
powered. -/
theorem Socket.visitWorks_worked (place : ThermalPlace)
    (stays : x.staysUnder (x.visitWorks c share adopted (worksOf place)).acct.phase (x.heldPowered c)) :
    thermalWorked (controlled c x) c.bank (x.room share) x (x.visitWorks c share adopted (worksOf place)).thermal := by
  cases place with
  | first => exact thermalWorked_decided c share adopted (.refl x) (Socket.credit_ledger c _) (Socket.startInterval_ledger _) stays
  | afterCredit => exact thermalWorked_decided c share adopted (x.credit_ledger c) (.refl _) (Socket.startInterval_ledger _) stays
  | afterDecide => exact thermalWorked_afterDecide c share adopted (x.credit_ledger c) (.refl _) (Socket.startInterval_ledger _) stays
  | last => exact thermalWorked_afterDecide c share adopted (x.credit_ledger c) (Socket.startInterval_ledger _) (.refl _) stays

end

/-! ## What all four works keep -/

section
variable (c : Ctx) (share : Int) (adopted : Option Bool) (x : Socket)

theorem Socket.visitWorks_gate (ws : List VisitWork) : (x.visitWorks c share adopted ws).gate = x.gate := by
  induction ws generalizing x with
  | nil => rfl
  | cons w ws ih =>
    refine (ih _).trans ?_
    match w with
    | .thermal => exact x.thermalVisit_gate c share
    | .account .credit => rfl
    | .account .decide => exact (x.decide_keeps c adopted).gate
    | .account .startInterval => rfl

/-- The crediting is the only work that changes what was credited. -/
theorem Socket.visitWork_tally (w : VisitWork) (other : w ≠ .account .credit) :
    (x.visitWork c share adopted w).acct.tally = x.acct.tally := by
  match w with
  | .thermal => exact (x.thermalVisit_follows c share).tally
  | .account .credit => exact absurd rfl other
  | .account .decide => exact (x.decide_follows c adopted).tally
  | .account .startInterval => rfl

theorem Account.credit_prevVisit (now : Word32) (period : Nat) (a : Account) :
    (a.credit now period).prevVisit = some now := rfl

/-- What the visit has credited, where the thermal work comes first or later. -/
theorem Socket.visitWorks_tally (place : ThermalPlace) : (x.visitWorks c share adopted (worksOf place)).acct.tally =
    ((if place = .first then x.thermalVisit c share else x).credit c).acct.tally := by
  have decided (y : Socket) : (y.decide c adopted).acct.tally = y.acct.tally := (y.decide_follows c adopted).tally
  have started (y : Socket) : y.startInterval.acct.tally = y.acct.tally := rfl
  have worked (y : Socket) : (y.thermalVisit c share).acct.tally = y.acct.tally := (y.thermalVisit_follows c share).tally
  cases place with
  | first => exact (started _).trans (decided _)
  | afterCredit => exact (started _).trans ((decided _).trans (worked _))
  | afterDecide => exact (started _).trans ((worked _).trans (decided _))
  | last => exact (worked _).trans ((started _).trans (decided _))

theorem Socket.visitWorks_prevVisit (place : ThermalPlace) :
    (x.visitWorks c share adopted (worksOf place)).acct.prevVisit = some c.runMs :=
  (congrArg Account.prevVisit (x.visitWorks_tally c share adopted place) :)

end

/-! ## Through the visit -/

section
variable (cfg : BoardConfig) (m : LaneMap) (i : SocketIx) (rec : Option (List Word)) (x : Socket)

theorem Rail.adopt_drawn (old new : Numbers) (r : Rail) : (r.adopt old new).allocCurrent = r.allocCurrent := by
  rw [Rail.allocCurrent_eq, Rail.allocCurrent_eq]
  unfold Rail.adopt
  by_cases fast : old.fastLimit = new.fastLimit <;> by_cases volts : old.railSetpoint = new.railSetpoint <;>
    cases st : r.st <;> simp [fast, volts, st]

/-- The record read reaches the gate, the rail and the exercise, and reports a spoil at most. -/
theorem Socket.takeRecord_blocks : let y := (x.takeRecord cfg m i rec).1
    y.sensor = x.sensor ∧ y.thermal = x.thermal ∧ y.acct = { x.acct with spoil := y.acct.spoil } ∧
      y.rail.allocCurrent = x.rail.allocCurrent := by
  unfold Socket.takeRecord Socket.revisionGate
  (repeat' split)
  · exact ⟨rfl, rfl, rfl, rfl⟩
  · exact ⟨rfl, rfl, rfl, rfl⟩
  · exact ⟨rfl, rfl, rfl, rfl⟩
  · exact ⟨rfl, rfl, rfl, Rail.adopt_drawn _ _ _⟩
  · exact ⟨rfl, rfl, rfl, rfl⟩

end

/-- The thermal state after a visit without events. -/
theorem State.VisitLeaves.worksThermal {s t : State} {i : SocketIx} {rec : Option (List Word)} {place : ThermalPlace}
    (v : s.VisitLeaves i rec place t) : visitWorksThermal s t i := by
  let y := ((s.sock i).takeRecord s.scu.config s.pxr.active i rec).1
  obtain ⟨sensor, thermal, acct, drawn⟩ := (s.sock i).takeRecord_blocks s.scu.config s.pxr.active i rec
  have gate : (t.sock i).gate = y.gate := by
    rw [v.here]
    exact Socket.visitWorks_gate _ _ _ _ _
  have phase : y.acct.phase = (s.sock i).acct.phase := (congrArg Account.phase acct :)
  have room : headroomOf s i = y.room (s.share i) := by
    rw [← s.share_headroom i]
    unfold Socket.room
    rw [drawn]
  unfold visitWorksThermal
  dsimp only
  intro stays
  let x : Socket := { s.sock i with gate := (t.sock i).gate }
  have shadow : x.gate = y.gate := gate
  rw [room]
  change thermalWorked (controlled (s.ctx i) x) _ _ x _
  refine thermalWorked_of_same (x := y) ?_ (controlled_of_same _ (by rw [shadow]) phase.symm) (by rw [shadow])
    sensor.symm fun _ => thermal.symm
  rw [v.here]
  refine Socket.visitWorks_worked _ _ _ _ ?_
  unfold Socket.staysUnder
  rw [← v.here, phase]
  rcases stays with same | soaks | ⟨active, complete, action, enable, running⟩
  · exact .inl same
  · exact .inr (.inl soaks)
  · refine .inr (.inr ⟨active, complete, ?_⟩)
    rw [shadow] at action enable
    exact ⟨action, enable, running⟩

/-- Settles O29. -/
theorem staleVisitsKeepTheShadow : Obligations.StaleVisitsKeepTheShadow := by
  intro s u o i live reads quiet bad g reach
  obtain ⟨t, runs, v⟩ := exec_scrReadComplete_quiet s u o i live reads quiet
  have none : s.readRecord (scrBase i) 64 u = none := Option.isNone_iff_eq_none.mp bad
  rw [none] at v
  have gate : (t.sock i).gate = g.stale s.scu.config.staleLimit := by
    rw [v.here]
    exact Socket.visitWorks_gate _ _ _ _ _
  have prev : (t.sock i).acct.prevVisit = some s.time.runMs := by
    rw [v.here]
    exact Socket.visitWorks_prevVisit _ _ _ _ _
  have stale : g.newlyStale (g.stale s.scu.config.staleLimit) = (!g.staleReported && reach) := by
    change (!g.staleReported && (g.staleReported || reach)) = _
    cases g.staleReported <;> rfl
  refine ⟨t, runs, v.rest, v.scu, v.others, ?_, ?_, ?_, ?_, ?_, ?_, ?_, v.stale.trans (congrArg _ stale), ?_, prev,
    v.worksThermal, v.goesOn⟩ <;> rw [gate] <;> rfl

end Sys2Proof.Machine
end

section
/-! The crediting of intervals (section 10.9), also at a visit at which other events fall, and the statement about it. -/

namespace Sys2Proof.Machine

/-! ## One crediting (R172) -/

section
variable (now : Word32) (period : Nat) (a : Account)

theorem Account.credit_first (first : a.prevVisit = none) : (a.credit now period).tally =
    { a.tally with prevVisit := some now } := by
  unfold Account.credit
  rw [first]
  rfl

theorem Account.creditInterval_credited (e : Nat) : credited e period a (a.creditInterval period e) := by
  have stressed : (a.stressedAtStart && !a.leftStress && a.phase == .stressing) = true ↔
      (a.stressedAtStart = true ∧ a.leftStress = false ∧ a.phase = .stressing) := by
    simp [and_assoc]
  unfold Account.creditInterval
  refine ⟨fun late => ?_, fun inTime => ?_⟩
  · rw [if_pos late]
    exact ⟨⟨rfl, rfl⟩, ⟨rfl, rfl⟩, rfl⟩
  · rw [if_neg (by omega)]
    refine ⟨?_, fun is clean => ?_, fun is spoiled => ?_, fun not was => ?_, fun start left => ?_⟩
    · (repeat' split) <;> rfl
    · rw [if_pos (stressed.mpr is), if_neg (by rw [clean]; nofun)]
      exact ⟨⟨rfl, rfl⟩, rfl, rfl⟩
    · rw [if_pos (stressed.mpr is), if_pos spoiled]
      exact ⟨⟨rfl, rfl⟩, rfl, rfl⟩
    · rw [if_neg (fun is => not (stressed.mp is)), if_pos (by simpa using was)]
      exact ⟨⟨rfl, rfl⟩, rfl, rfl⟩
    · rw [if_neg (fun is => by rw [start] at is; cases is), if_neg (by simp [start, left])]
      exact ⟨⟨rfl, rfl⟩, ⟨rfl, rfl⟩⟩

theorem Account.credit_credited {p : Word32} (before : a.prevVisit = some p) :
    credited (now - p).toNat period a (a.credit now period) := by
  unfold Account.credit
  rw [before]
  exact a.creditInterval_credited period _

/-- Dwell stands, or grows by an interval that is not late and clean in stress. -/
theorem Account.credit_dwell :
    ((a.credit now period).dwellSec = a.dwellSec ∧ (a.credit now period).dwellMs = a.dwellMs) ∨
    (∃ e, e ≤ 2 * period ∧ (a.credit now period).dwellSec = min max32 (a.dwellSec + (a.dwellMs + e) / 1000) ∧
      (a.credit now period).dwellMs = (a.dwellMs + e) % 1000) ∧
      a.stressedAtStart = true ∧ a.leftStress = false ∧ a.phase = .stressing ∧ a.spoil = false := by
  cases before : a.prevVisit with
  | none =>
    have first := a.credit_first now period before
    exact .inl ⟨(congrArg Account.dwellSec first :), (congrArg Account.dwellMs first :)⟩
  | some p =>
    obtain ⟨late, inTime⟩ := a.credit_credited now period before
    rcases Nat.lt_or_ge (2 * period) (now - p).toNat with is | is
    · exact .inl (late is).1
    obtain ⟨-, clean, spoiled, left, idle⟩ := inTime is
    by_cases stressed : a.stressedAtStart = true ∧ a.leftStress = false ∧ a.phase = .stressing
    · cases spoil : a.spoil with
      | true => exact .inl (spoiled stressed spoil).1
      | false =>
        obtain ⟨-, ms, sec⟩ := clean stressed spoil
        exact .inr ⟨⟨_, is, sec, ms⟩, stressed.1, stressed.2.1, stressed.2.2, rfl⟩
    · by_cases was : a.stressedAtStart = true ∨ a.leftStress = true
      · exact .inl (left stressed was).1
      · rw [not_or, Bool.not_eq_true, Bool.not_eq_true] at was
        exact .inl (idle was.1 was.2).1

end

/-- What was credited asks of the account before for the tally, the interval and the phase. -/
theorem credited_of_same {e period : Nat} {a a' b b' : Account} (is : credited e period a b) (tally : a'.tally = a.tally)
    (interval : (a'.phase, a'.leftStress, a'.stressedAtStart, a'.spoil) = (a.phase, a.leftStress, a.stressedAtStart, a.spoil))
    (after : b'.tally = b.tally) : credited e period a' b' := by
  simp only [Prod.mk.injEq] at interval
  obtain ⟨phase, left, start, spoil⟩ := interval
  have dwellSec : a'.dwellSec = a.dwellSec := (congrArg Account.dwellSec tally :)
  have dwellMs : a'.dwellMs = a.dwellMs := (congrArg Account.dwellMs tally :)
  have oosSec : a'.oosSec = a.oosSec := (congrArg Account.oosSec tally :)
  have oosMs : a'.oosMs = a.oosMs := (congrArg Account.oosMs tally :)
  have late : a'.lateCount = a.lateCount := (congrArg Account.lateCount tally :)
  have dwellSec' : b'.dwellSec = b.dwellSec := (congrArg Account.dwellSec after :)
  have dwellMs' : b'.dwellMs = b.dwellMs := (congrArg Account.dwellMs after :)
  have oosSec' : b'.oosSec = b.oosSec := (congrArg Account.oosSec after :)
  have oosMs' : b'.oosMs = b.oosMs := (congrArg Account.oosMs after :)
  have late' : b'.lateCount = b.lateCount := (congrArg Account.lateCount after :)
  simpa only [credited, phase, left, start, spoil, dwellSec, dwellMs, oosSec, oosMs, late, dwellSec', dwellMs', oosSec',
    oosMs', late'] using is

/-! ## The visit among other events (R171) -/

/-- A work of a visit and the gap after it. -/
def State.workIn (i : SocketIx) (adopted : Option Bool) (s : State) (w : VisitWork × List VisitEvent) : State :=
  (State.visitWork i adopted s w.1).visitEvents w.2

/-- The works of a visit with the gaps after them. -/
def stepsOf (o : VisitOrder) : List (VisitWork × List VisitEvent) :=
  (worksOf o.thermal).zip [o.gap1, o.gap2, o.gap3, o.gap4]

theorem State.visitSocket_steps (s : State) (i : SocketIx) (rec : Option (List Word)) (o : VisitOrder) :
    s.visitSocket i rec o = (stepsOf o).foldl (State.workIn i (s.takeRecord i rec).2)
      ((s.takeRecord i rec).1.visitEvents o.gap0) := by
  unfold State.visitSocket State.atThermal State.beforeThermal State.afterThermal stepsOf
  cases o.thermal <;> rfl

/-- What every event and every work of a list keeps. -/
theorem State.workIn_keeps {P : State → Prop} (i : SocketIx) (adopted : Option Bool)
    (kept : ∀ {s t : State}, s.Event t → P s → P t) (ws : List (VisitWork × List VisitEvent))
    (works : ∀ w ∈ ws, ∀ s : State, P s → P (State.visitWork i adopted s w.1)) (s : State) (h : P s) :
    P (ws.foldl (State.workIn i adopted) s) := by
  induction ws generalizing s with
  | nil => exact h
  | cons w ws ih =>
    refine ih (fun v mem => works v (List.mem_cons_of_mem _ mem)) _ ?_
    exact State.visitEvents_keep kept _ _ (works w List.mem_cons_self s h)

theorem State.visitWork_here (s : State) (i : SocketIx) (adopted : Option Bool) (w : VisitWork) :
    (State.visitWork i adopted s w).sock i = (s.sock i).visitWork (s.ctx i) (s.share i) adopted w := by
  rw [s.visitWork_eq i adopted w]
  exact s.sock_updSock_same i _

/-- After the crediting no event and no other work changes what was credited. -/
theorem State.workIn_tally (i : SocketIx) (adopted : Option Bool) (ws : List (VisitWork × List VisitEvent)) (s : State)
    (later : ∀ w ∈ ws, w.1 ≠ .account .credit) :
    ((ws.foldl (State.workIn i adopted) s).sock i).acct.tally = (s.sock i).acct.tally := by
  refine State.workIn_keeps (P := fun t => (t.sock i).acct.tally = (s.sock i).acct.tally) i adopted
    (fun e h => ((e.follows i).tally).trans h) ws (fun w mem t h => ?_) s rfl
  rw [t.visitWork_here]
  exact ((t.sock i).visitWork_tally _ _ adopted w.1 (later w mem)).trans h

/-- A socket that was STRESSING at its interval's start is STRESSING, or has left stress. -/
def Account.startKept (a : Account) : Prop := a.stressedAtStart = true → a.inStress

theorem Socket.Follows.startKept {x y : Socket} (f : x.Follows y) (kept : x.acct.startKept) : y.acct.startKept := by
  intro start
  rw [f.interval.1] at start
  exact f.interval.2 (kept start)

theorem Socket.startInterval_startKept (x : Socket) : x.startInterval.acct.startKept :=
  fun start => .inl (by simpa [Socket.startInterval] using start)

/-- The second part of the statement: the end of an SCR read at a visit with events. -/
theorem exec_scrReadComplete (s : State) (u : BitVec 3) (o : VisitOrder) (i : SocketIx) (live : s.pins.por = false)
    (reads : s.transferring = some (.scrRead i)) : ∃ t, exec (.scrReadComplete u o) s = .next t ∧
      (t.sock i) = (s.releasePort.visitSocket i (s.readRecord (scrBase i) 64 u) o).sock i := by
  refine ⟨s.scrDone u o, congrArg Host.Outcome.next (s.live_of_released _ live), ?_⟩
  unfold State.scrDone
  rw [reads]
  exact (congrArg (fun t : State => t.sock i) (State.nextMove_blocks _ i _ false).1 :)

theorem State.workIn_startKept (i : SocketIx) (adopted : Option Bool) (before after : List (VisitWork × List VisitEvent))
    (gap : List VisitEvent) (s : State) (thermal : ∀ w ∈ after, w.1 = .thermal) :
    (((before ++ (.account .startInterval, gap) :: after).foldl (State.workIn i adopted) s).sock i).acct.startKept := by
  rw [List.foldl_append, List.foldl_cons]
  have kept {t u : State} (e : t.Event u) (h : (t.sock i).acct.startKept) : (u.sock i).acct.startKept :=
    (e.follows i).startKept h
  refine State.workIn_keeps (P := fun t => (t.sock i).acct.startKept) i adopted kept after (fun w mem t h => ?_) _
    (State.visitEvents_keep (P := fun t => (t.sock i).acct.startKept) kept _ _ ?_)
  · rw [t.visitWork_here, thermal w mem]
    exact (Socket.thermalVisit_follows _ _ _).startKept h
  · rw [State.visitWork_here]
    exact Socket.startInterval_startKept _

theorem Rail.adopt_live (old new : Numbers) (r : Rail) (settled : r.st ≠ .settle) :
    (r.adopt old new).st = r.st ∨ (r.adopt old new).st.live = true := by
  unfold Rail.adopt
  by_cases fast : old.fastLimit = new.fastLimit <;> by_cases volts : old.railSetpoint = new.railSetpoint <;>
    cases st : r.st <;> simp_all [RailState.live]

theorem Exercise.adopt_running (e : Exercise) (mode : ExMode) (p : Phase) (runs : e.st = .running) :
    (e.adopt mode p).st = .running := by
  simp [Exercise.adopt, runs]

theorem Socket.setRail_acct (x : Socket) (r : Rail) (calm : r.st = x.rail.st ∨ r.st.live = true) :
    (x.setRail r).acct = x.acct := by
  have none : (x.acct.spoil || (r.st != x.rail.st && !r.st.live)) = x.acct.spoil := by
    rcases calm with is | is <;> simp [is]
  unfold Socket.setRail
  dsimp only
  rw [none]

theorem Socket.setEx_acct (x : Socket) (e : Exercise) (calm : x.ex.st = .running → e.st = .running) :
    (x.setEx e).acct = x.acct := by
  have none : (x.acct.spoil || (x.ex.st == .running && e.st != .running && x.acct.phase == .stressing &&
      x.ex.mode != .idle)) = x.acct.spoil := by
    by_cases runs : x.ex.st = .running
    · simp [runs, calm runs]
    · simp [runs]
  unfold Socket.setEx
  dsimp only
  rw [none]

/-- An adoption reports no spoil but for a rail in SETTLE. -/
theorem Socket.adopt_acct (x : Socket) (rev : Byte8) (st : Settings) (n : Nat) (settled : x.rail.st ≠ .settle) :
    (x.adopt rev st n).acct = x.acct := by
  have rail := x.setRail_acct _ (Rail.adopt_live x.gate.shadow.num st.num x.rail settled)
  have ex := (x.setRail (x.rail.adopt x.gate.shadow.num st.num)).setEx_acct _
    (Exercise.adopt_running _ st.mode (x.setRail (x.rail.adopt x.gate.shadow.num st.num)).acct.phase)
  exact ex.trans rail

theorem Socket.takeRecord_acct (cfg : BoardConfig) (m : LaneMap) (i : SocketIx) (rec : Option (List Word)) (x : Socket)
    (settled : x.rail.st ≠ .settle) : (x.takeRecord cfg m i rec).1.acct = x.acct := by
  have gate (y : Socket) (acct : y.acct = x.acct) (rail : y.rail = x.rail) (r : List Word) :
      (y.revisionGate cfg m i r).1.acct = x.acct := by
    unfold Socket.revisionGate
    split
    · exact acct
    · split
      · exact acct
      · exact (y.adopt_acct _ _ _ (by rw [rail]; exact settled)).trans acct
  unfold Socket.takeRecord
  split
  · rfl
  · split
    · exact gate { x with gate := x.gate.fresh.takeAck _ } rfl rfl _
    · rfl

/-- The crediting as the first work of a visit: of the account that the visit finds. -/
theorem State.workIn_credits (s : State) (i : SocketIx) (rec : Option (List Word)) (adopted : Option Bool)
    (gap : List VisitEvent) (settled : (s.sock i).rail.st ≠ .settle) :
    ((State.workIn i adopted (s.takeRecord i rec).1 (.account .credit, gap)).sock i).acct.tally =
      ((s.sock i).acct.credit s.time.runMs s.scu.interval).tally := by
  have ctx := (s.takeRecord_beside i rec).ctx
  refine State.visitEvents_keep (P := fun t => (t.sock i).acct.tally =
    ((s.sock i).acct.credit s.time.runMs s.scu.interval).tally) (fun e h => ((e.follows i).tally).trans h) _ _ ?_
  rw [State.visitWork_here, ctx, s.takeRecord_here]
  exact congrArg (fun a : Account => (a.credit s.time.runMs s.scu.interval).tally)
    ((s.sock i).takeRecord_acct _ _ _ rec settled)

/-- The work before the last in time: the interval start, with or without the thermal work after it. -/
theorem stepsOf_start (o : VisitOrder) : ∃ before gap after, stepsOf o = before ++ (.account .startInterval, gap) :: after ∧
    (∀ w ∈ after, w.1 = .thermal) ∧ (o.thermal ≠ .last → gap = o.gap4 ∧ after = []) := by
  unfold stepsOf worksOf
  cases o.thermal with
  | last => exact ⟨[_, _], _, [_], rfl, by simp, fun not => absurd rfl not⟩
  | _ => exact ⟨[_, _, _], _, [], rfl, by simp, fun _ => ⟨rfl, rfl⟩⟩

theorem stepsOf_credit (o : VisitOrder) (early : o.thermal ≠ .first) :
    ∃ rest, stepsOf o = (.account .credit, o.gap1) :: rest ∧ ∀ w ∈ rest, w.1 ≠ .account .credit := by
  unfold stepsOf worksOf
  cases place : o.thermal with
  | first => exact absurd place early
  | _ => exact ⟨_, rfl, by simp⟩

/-- The crediting gives the visit's moment, and the interval found case by case. -/
theorem credited_tally {now : Word32} {period : Nat} {a b : Account} (is : b.tally = (a.credit now period).tally) :
    b.prevVisit = some now ∧
    (a.prevVisit = none → (b.dwellSec, b.dwellMs, b.oosSec, b.oosMs, b.lateCount) =
      (a.dwellSec, a.dwellMs, a.oosSec, a.oosMs, a.lateCount)) ∧
    ∀ p, a.prevVisit = some p → credited (now - p).toNat period a b := by
  refine ⟨(congrArg Account.prevVisit is :), fun first => ?_, fun p before => ?_⟩
  · have kept := is.trans (a.credit_first now period first)
    exact (congrArg (fun y : Account => (y.dwellSec, y.dwellMs, y.oosSec, y.oosMs, y.lateCount)) kept :)
  · exact credited_of_same (a.credit_credited now period before) rfl rfl is

/-- Settles O10: the crediting is the only work that credits, and the interval start the only one that begins an
interval; every event, and every other work, follows the socket (`Socket.Follows`). -/
theorem creditingIsBounded : Obligations.CreditingIsBounded := by
  refine ⟨fun now period a sec ms => ?_, fun s u o i live reads => ?_⟩
  · dsimp only
    rcases a.credit_dwell now period with ⟨sameSec, sameMs⟩ | ⟨⟨e, short, grownSec, grownMs⟩, stressed⟩
    · rw [sameSec, sameMs]
      exact ⟨ms, sec, by omega, fun differs => absurd rfl differs⟩
    · rw [grownSec, grownMs]
      refine ⟨Nat.mod_lt _ (by omega), Nat.min_le_left _ _, ?_, fun _ => stressed⟩
      have quotient := Nat.div_add_mod (a.dwellMs + e) 1000
      have least := Nat.min_le_right max32 (a.dwellSec + (a.dwellMs + e) / 1000)
      omega
  · intro a
    obtain ⟨t, runs, here⟩ := exec_scrReadComplete s u o i live reads
    refine ⟨t, runs, ?_⟩
    rw [State.visitSocket_steps, s.releasePort_eq] at here
    generalize s.readRecord (scrBase i) 64 u = rec at here
    generalize ((s.withPort s.smc.release).takeRecord i rec).2 = adopted at here
    obtain ⟨before, gap, after, start, thermal, last⟩ := stepsOf_start o
    refine ⟨fun credits calm settled => ?_, fun starts calm => ?_, ?_⟩
    · obtain ⟨rest, steps, later⟩ := stepsOf_credit o credits
      rw [calm, steps, List.foldl_cons] at here
      have stands := State.workIn_tally i adopted rest (State.workIn i adopted
        ((s.withPort s.smc.release).takeRecord i rec).1 (.account .credit, o.gap1)) later
      have found := (s.withPort s.smc.release).workIn_credits i rec adopted o.gap1 settled
      have tally : (t.sock i).acct.tally = (a.credit s.time.runMs s.scu.interval).tally := by
        rw [here]
        exact stands.trans found
      exact credited_tally tally
    · obtain ⟨same, none⟩ := last starts
      rw [start, same, none, calm, List.foldl_append, List.foldl_cons] at here
      have begun := here.trans (State.visitWork_here _ i adopted (.account .startInterval))
      rw [begun]
      exact ⟨rfl, beq_iff_eq⟩
    · rw [here, start]
      exact State.workIn_startKept i adopted before after gap _ thermal

end Sys2Proof.Machine
end

section
/-! The phase decisions of a visit that adopts no Enable (R163, R166), and the statement about a good visit without a new
Revision. -/

namespace Sys2Proof.Machine

/-! ## The tests -/

section
variable (x : Socket)

/-- A change of phase that begins no soak. -/
theorem Socket.changePhase_eq (p : Phase) (r : ResumePhase) (other : p ≠ .soaking) : x.changePhase p r = { x with
    ex := x.ex.followPhase x.acct.phase p
    acct := { x.acct with
      phase := p, resume := r
      spoil := x.acct.spoil || (x.ex.st == .running && (x.ex.followPhase x.acct.phase p).st != .running &&
        x.acct.phase == .stressing && x.ex.mode != .idle)
      leftStress := x.acct.leftStress || (x.acct.phase == .stressing && p != .stressing) } } := by
  unfold Socket.changePhase
  dsimp only
  rw [if_neg fun is => other is.2]
  rfl

/-- A soaked socket begins its stress (R163). -/
theorem Socket.soakTest_soaked (soaks : x.acct.phase = .soaking)
    (soaked : x.gate.shadow.num.soakTime * 1000 ≤ x.sensor.inWindowMs) : x.soakTest = { x with
    ex := x.ex.beginStress, acct := { x.acct with phase := .stressing, resume := .none } } := by
  unfold Socket.soakTest
  rw [if_pos ⟨soaks, soaked⟩, x.changePhase_eq .stressing .none nofun, soaks]
  simp [Exercise.followPhase]

theorem Socket.soakTest_other (not : ¬(x.acct.phase = .soaking ∧ x.gate.shadow.num.soakTime * 1000 ≤ x.sensor.inWindowMs)) :
    x.soakTest = x := if_neg not

/-- What the completion of a STRESSING socket makes of it (R166). -/
theorem Socket.complete_leaves (stressing : x.acct.phase = .stressing) :
    x.complete.acct.phase = .complete ∧ x.complete.acct.resume = .none ∧
    x.complete.acct.bin = (if x.acct.strikes = 0 then .pass else .passWithEvents) ∧
    x.complete.acct.dwellSec = x.acct.dwellSec ∧ x.complete.ex = x.ex.halt ∧
    (x.gate.shadow.endAction = .powerOff → x.complete.thermal = x.thermal.rest ∧ x.complete.rail = x.rail.takedown) ∧
    (x.gate.shadow.endAction = .holdPowered → x.complete.rail = x.rail) := by
  unfold Socket.complete
  rw [x.changePhase_eq .complete .none nofun, stressing]
  dsimp only
  split
  · next off => exact ⟨rfl, rfl, rfl, rfl, rfl, fun _ => ⟨rfl, rfl⟩, fun hold => absurd (hold.symm.trans off) nofun⟩
  · next not => exact ⟨rfl, rfl, rfl, rfl, rfl, fun off => absurd off not, fun _ => rfl⟩

/-- The decisions and the interval that begins, of a socket whose interval has been credited. -/
theorem Socket.tests_decide (clean : x.acct.spoil = false) : visitDecides x x.tests.startInterval := by
  have stress (y : Socket) (phase : y.acct.phase = .stressing) (calm : y.acct.spoil = false)
      (same : y.gate = x.gate ∧ y.rail = x.rail ∧ y.acct.strikes = x.acct.strikes ∧
        y.acct.dwellSec = x.acct.dwellSec) (diag : x.ex.st ≠ .diag → y.ex.st ≠ .diag)
      (before : x.acct.phase = .stressing ∨ (x.acct.phase = .soaking ∧
        x.gate.shadow.num.soakTime * 1000 ≤ x.sensor.inWindowMs))
      (arms : x.acct.phase = .soaking → y.ex.st = if x.ex.suspendFlag then .suspended else .armed) :
      visitDecides x y.completionTest.startInterval := by
    obtain ⟨gate, rail, strikes, dwell⟩ := same
    unfold visitDecides
    by_cases reached : x.gate.shadow.num.targetDwell ≤ x.acct.dwellSec
    · have done : y.completionTest = y.complete := if_pos ⟨phase, by rw [gate, dwell]; exact reached⟩
      obtain ⟨complete, resume, bin, sec, ex, off, holds⟩ := y.complete_leaves phase
      rw [done]
      have started : y.complete.startInterval.acct.stressedAtStart = false := by
        simp [Socket.startInterval, complete]
      refine ⟨fun _ short => absurd (show x.acct.dwellSec < _ from sec.trans dwell ▸ short) (by omega), fun _ _ => ⟨complete, resume, started,
        bin.trans (by rw [strikes]), fun notDiag => ?_, fun is => ?_, fun is => ?_⟩, fun not => absurd before not, rfl⟩
      · exact (congrArg Exercise.st ex).trans (y.ex.halt_st (diag notDiag))
      · obtain ⟨thermal, down⟩ := off (by rw [gate]; exact is)
        change y.complete.thermal.u = 0 ∧ y.complete.thermal.grant = 0 ∧ (_ → y.complete.rail.st = _)
        rw [thermal, down, rail]
        exact ⟨rfl, rfl, x.rail.takedown_checked⟩
      · exact (holds (by rw [gate]; exact is)).trans rail
    · have goesOn : y.completionTest = y := if_neg fun is => reached (by rw [← gate, ← dwell]; exact is.2)
      rw [goesOn]
      refine ⟨fun _ _ => ⟨phase, by simp [Socket.startInterval, phase], calm, fun soaked => arms soaked.1⟩,
        fun _ long => absurd (show _ ≤ x.acct.dwellSec from dwell ▸ long) reached, fun not => absurd before not, rfl⟩
  unfold Socket.tests
  by_cases soaked : x.acct.phase = .soaking ∧ x.gate.shadow.num.soakTime * 1000 ≤ x.sensor.inWindowMs
  · have begun : x.ex.beginStress.st = if x.ex.suspendFlag then .suspended else .armed := by
      unfold Exercise.beginStress
      split <;> simp_all [Exercise.arm]
    rw [x.soakTest_soaked soaked.1 soaked.2]
    refine stress _ rfl clean ⟨rfl, rfl, rfl, rfl⟩ (fun _ => ?_) (.inr soaked) fun _ => begun
    change x.ex.beginStress.st ≠ .diag
    rw [begun]
    split <;> nofun
  · rw [x.soakTest_other soaked]
    by_cases stressing : x.acct.phase = .stressing
    · exact stress x stressing clean ⟨rfl, rfl, rfl, rfl⟩ id (.inl stressing) fun is => absurd (is.symm.trans stressing) nofun
    · have stands : x.completionTest = x := if_neg fun is => stressing is.1
      rw [stands]
      have none : ¬(x.acct.phase = .stressing ∨ (x.acct.phase = .soaking ∧
        x.gate.shadow.num.soakTime * 1000 ≤ x.sensor.inWindowMs)) := by simp [stressing, soaked]
      exact ⟨fun is => absurd is none, fun is => absurd is none,
        fun _ => ⟨rfl, by simp [Socket.startInterval, stressing], clean, rfl, rfl, rfl⟩, rfl⟩

end

/-! ## The decisions among the other works -/

/-- The decisions ask of the socket before for its settings, its sensor, its rail, its exercise, its standing and its
strikes. -/
theorem visitDecides_before {x x' y : Socket} (d : visitDecides x y) (shadow : x'.gate.shadow = x.gate.shadow)
    (blocks : (x'.sensor, x'.rail, x'.ex) = (x.sensor, x.rail, x.ex))
    (acct : (x'.acct.phase, x'.acct.resume, x'.acct.bin, x'.acct.strikes) =
      (x.acct.phase, x.acct.resume, x.acct.bin, x.acct.strikes)) : visitDecides x' y := by
  simp only [Prod.mk.injEq] at blocks acct
  obtain ⟨sensor, rail, ex⟩ := blocks
  obtain ⟨phase, resume, bin, strikes⟩ := acct
  simpa only [visitDecides, shadow, sensor, rail, ex, phase, resume, bin, strikes] using d

/-- And of the one after, but for the thermal state of a socket powered off, not for the thermal state. -/
theorem visitDecides_after {x y y' : Socket} (d : visitDecides x y) (blocks : (y'.rail, y'.ex) = (y.rail, y.ex))
    (acct : (y'.acct.phase, y'.acct.resume, y'.acct.bin, y'.acct.stressedAtStart, y'.acct.spoil, y'.acct.dwellSec,
      y'.acct.leftStress) = (y.acct.phase, y.acct.resume, y.acct.bin, y.acct.stressedAtStart, y.acct.spoil,
      y.acct.dwellSec, y.acct.leftStress))
    (off : y.acct.phase = .complete → x.gate.shadow.endAction = .powerOff → y'.thermal.u = 0 ∧ y'.thermal.grant = 0) :
    visitDecides x y' := by
  simp only [Prod.mk.injEq] at blocks acct
  obtain ⟨rail, ex⟩ := blocks
  obtain ⟨phase, resume, bin, start, spoil, dwell, left⟩ := acct
  obtain ⟨goesOn, completes, other, begun⟩ := d
  unfold visitDecides
  simp only [phase, resume, bin, start, spoil, dwell, left, rail, ex]
  refine ⟨goesOn, fun stressing reached => ?_, other, begun⟩
  obtain ⟨complete, resumes, started, binned, stops, powered, holds⟩ := completes stressing reached
  exact ⟨complete, resumes, started, binned, stops,
    fun is => ⟨(off complete is).1, (off complete is).2, (powered is).2.2⟩, holds⟩

section
variable (c : Ctx) (share : Int) (x : Socket)

/-- The thermal work out of control changes the thermal state only, and leaves u and grant 0 (R108). -/
theorem Socket.thermalVisit_out (out : ¬controlled c x) :
    ∃ z, x.thermalVisit c share = { x with thermal := z } ∧ z.u = 0 ∧ z.grant = 0 := by
  have none : x.updates c = .none := by
    cases updates : x.updates c with
    | none => rfl
    | some tf => exact absurd ((x.updates_iff c tf).mp updates).1 out
  obtain ⟨-, -, rests, -, -, -, lost, -⟩ := x.thermalVisit_rests_worked c share none
  have form := x.thermalVisit_rests c share none
  refine ⟨(x.thermalVisit c share).thermal, ?_, ?_⟩
  · rw [form]
  · by_cases gone : x.sensor.st = .lost
    · obtain ⟨u, -, -, -, grant, -⟩ := lost out gone
      exact ⟨u, grant⟩
    · obtain ⟨u, -, -, -, grant, -⟩ := rests out gone
      exact ⟨u, grant⟩

/-- So it leaves a COMPLETE socket with POWER_OFF. -/
theorem Socket.thermalVisit_poweredOff (complete : x.acct.phase = .complete)
    (off : x.gate.shadow.endAction = .powerOff) :
    (x.thermalVisit c share).thermal.u = 0 ∧ (x.thermalVisit c share).thermal.grant = 0 := by
  obtain ⟨z, is, rests⟩ := x.thermalVisit_out c share (not_controlled_off c complete (.inl off))
  rw [is]
  exact rests

variable (passive : x.gate.shadow.kindActions[Kind.thermal.ix] = .ignore ∨
  x.gate.shadow.kindActions[Kind.thermal.ix] = .log)
include passive

/-- The decisions of a visit without an Enable adopted, at whichever place the thermal work falls. -/
theorem Socket.visitWorks_decides (place : ThermalPlace) :
    visitDecides x (x.visitWorks c share none (worksOf place)) := by
  have credited (y : Socket) : visitDecides (y.credit c) (y.credit c).tests.startInterval :=
    Socket.tests_decide _ rfl
  cases place with
  | first =>
    obtain ⟨z, a, is, strikes⟩ := x.thermalVisit_passive c share passive
    refine visitDecides_before (credited (x.thermalVisit c share)) ?_ ?_ ?_
    · exact (congrArg Gate.shadow (x.thermalVisit_gate c share)).symm
    · rw [is]
      rfl
    · rw [is]
      unfold Socket.credit
      rw [Account.credit_eq]
      dsimp only [Socket.accounted]
      rw [strikes]
  | afterCredit =>
    obtain ⟨z, a, is, strikes⟩ := (x.credit c).thermalVisit_passive c share passive
    have spoil : ((x.credit c).thermalVisit c share).acct.spoil = false := by
      rw [is]
      rfl
    refine visitDecides_before (x := (x.credit c).thermalVisit c share) (Socket.tests_decide _ spoil) ?_ ?_ ?_
    · exact (congrArg Gate.shadow ((x.credit c).thermalVisit_gate c share)).symm
    · rw [is]
      rfl
    · rw [is]
      dsimp only [Socket.accounted]
      rw [strikes]
      unfold Socket.credit
      rw [Account.credit_eq]
  | afterDecide =>
    have gate : (x.credit c).tests.gate = x.gate := (x.credit c).tests_keeps.gate
    obtain ⟨z, a, is, -⟩ := (x.credit c).tests.thermalVisit_passive c share (by rw [gate]; exact passive)
    have before := visitDecides_before (x' := x) (credited x) rfl rfl (by
      unfold Socket.credit
      rw [Account.credit_eq])
    refine visitDecides_after (y' := ((x.credit c).tests.thermalVisit c share).startInterval) before ?_ ?_
      fun complete off => ?_
    · rw [is]
      rfl
    · rw [is]
      rfl
    · exact (x.credit c).tests.thermalVisit_poweredOff c share complete (by rw [gate]; exact off)
  | last =>
    have gate : (x.credit c).tests.startInterval.gate = x.gate := (x.credit c).tests_keeps.gate
    obtain ⟨z, a, is, -⟩ := (x.credit c).tests.startInterval.thermalVisit_passive c share (by rw [gate]; exact passive)
    have before := visitDecides_before (x' := x) (credited x) rfl rfl (by
      unfold Socket.credit
      rw [Account.credit_eq])
    refine visitDecides_after (y' := (x.credit c).tests.startInterval.thermalVisit c share) before ?_ ?_
      fun complete off => ?_
    · rw [is]
      rfl
    · rw [is]
      rfl
    · exact (x.credit c).tests.startInterval.thermalVisit_poweredOff c share complete (by rw [gate]; exact off)

/-- And what they credit, also where the thermal work comes first. -/
theorem Socket.visitWorks_credited (adopted : Option Bool) (place : ThermalPlace) {b : Account}
    (is : b = (x.visitWorks c share adopted (worksOf place)).acct) :
    (x.acct.prevVisit = none → (b.dwellSec, b.dwellMs, b.oosSec, b.oosMs, b.lateCount) =
      (x.acct.dwellSec, x.acct.dwellMs, x.acct.oosSec, x.acct.oosMs, x.acct.lateCount)) ∧
    ∀ p, x.acct.prevVisit = some p → credited (c.runMs - p).toNat c.period x.acct b := by
  have tally := (congrArg Account.tally is).trans (x.visitWorks_tally c share adopted place)
  by_cases early : place = .first
  · rw [if_pos early] at tally
    obtain ⟨z, a, worked, -⟩ := x.thermalVisit_passive c share passive
    have same : (x.thermalVisit c share).acct.tally = x.acct.tally := (x.thermalVisit_follows c share).tally
    obtain ⟨-, first, later⟩ := credited_tally tally
    have prev : (x.thermalVisit c share).acct.prevVisit = x.acct.prevVisit := (congrArg Account.prevVisit same :)
    rw [prev] at first later
    refine ⟨fun none => (first none).trans ?_, fun p before => ?_⟩
    · exact (congrArg (fun y : Account => (y.dwellSec, y.dwellMs, y.oosSec, y.oosMs, y.lateCount)) same :)
    · exact credited_of_same (later p before) same.symm (by rw [worked]; rfl) rfl
  · rw [if_neg early] at tally
    exact (credited_tally tally).2

end

/-! ## A good record without a new Revision -/

/-- What the gate takes of it (R31, R41). -/
def Gate.taken (r : List Word) (g : Gate) : Gate :=
  if g.synced then g.fresh.takeAck (field8 r 1) else g.fresh.synchronize r

theorem Socket.takeRecord_taken (cfg : BoardConfig) (m : LaneMap) (i : SocketIx) (r : List Word) (x : Socket)
    (same : x.gate.synced = false ∨ field8 r 0 = x.gate.appliedRev) :
    x.takeRecord cfg m i (some r) = ({ x with gate := x.gate.taken r }, none) := by
  unfold Socket.takeRecord Gate.taken
  dsimp only
  by_cases synced : x.gate.synced = true
  · rw [if_pos synced, if_pos synced]
    have rev : field8 r 0 = (x.gate.fresh.takeAck (field8 r 1)).appliedRev := by
      refine (same.resolve_left (by rw [synced]; nofun)).trans ?_
      unfold Gate.takeAck
      split <;> rfl
    exact if_pos rev
  · rw [if_neg synced, if_neg synced]

/-- It ends the run of stale visits, synchronizes, and keeps the shadow. -/
theorem Gate.taken_stands (r : List Word) (g : Gate) : (g.taken r).synced = true ∧ (g.taken r).staleCount = 0 ∧
    (g.taken r).staleReported = false ∧ (g.taken r).staleVisit = false ∧ (g.taken r).shadow = g.shadow := by
  unfold Gate.taken Gate.takeAck
  split
  · next synced => split <;> exact ⟨synced, rfl, rfl, rfl, rfl⟩
  · exact ⟨rfl, rfl, rfl, rfl, rfl⟩

theorem Gate.taken_appliedRev (r : List Word) (g : Gate) (same : g.synced = false ∨ field8 r 0 = g.appliedRev) :
    (g.taken r).appliedRev = field8 r 0 := by
  unfold Gate.taken Gate.takeAck
  split
  · next synced =>
    have rev := same.resolve_left (by rw [synced]; nofun)
    split <;> exact rev.symm
  · rfl

/-- Settles O30. -/
theorem goodVisitsTakeTheirRecord : Obligations.GoodVisitsTakeTheirRecord := by
  intro s u o i r live reads quiet good unchanged
  obtain ⟨t, runs, v⟩ := exec_scrReadComplete_quiet s u o i live reads quiet
  let x : Socket := { s.sock i with gate := (s.sock i).gate.taken r }
  have here : t.sock i = x.visitWorks (s.ctx i) (s.share i) none (worksOf o.thermal) := by
    rw [v.here, good, Socket.takeRecord_taken _ _ _ _ _ unchanged]
  have gate : (t.sock i).gate = (s.sock i).gate.taken r := by
    rw [here]
    exact x.visitWorks_gate _ _ _ _
  have prev : (t.sock i).acct.prevVisit = some s.time.runMs := by
    rw [here]
    exact x.visitWorks_prevVisit _ _ _ _
  obtain ⟨synced, count, reported, -, shadow⟩ := (s.sock i).gate.taken_stands r
  have first (new : (s.sock i).gate.synced = false) : (s.sock i).gate.taken r = (s.sock i).gate.fresh.synchronize r :=
    if_neg (by rw [new]; nofun)
  have later (old : (s.sock i).gate.synced = true) : (s.sock i).gate.taken r =
    (s.sock i).gate.fresh.takeAck (field8 r 1) := if_pos old
  refine ⟨t, runs, v.rest, v.scu, v.others, by rw [gate]; exact synced, by rw [gate]; exact count,
    by rw [gate]; exact reported, by rw [gate]; exact shadow, by rw [gate]; exact Gate.taken_appliedRev r _ unchanged,
    prev, fun new => ?_, fun old => ?_, fun passive => ?_, v.worksThermal, v.goesOn⟩
  · rw [gate, first new]
    exact ⟨rfl, rfl, rfl, rfl, rfl⟩
  · rw [gate, later old]
    unfold Gate.takeAck
    split
    · next near => exact ⟨rfl, (if_pos near).symm, rfl⟩
    · next far => exact ⟨rfl, (if_neg far).symm, rfl⟩
  · rw [← shadow] at passive
    have decides := x.visitWorks_decides (s.ctx i) (s.share i) passive o.thermal
    obtain ⟨none, some⟩ := x.visitWorks_credited (s.ctx i) (s.share i) passive Option.none o.thermal (congrArg Socket.acct here)
    refine ⟨?_, fun complete was => ?_, fun before => ?_, some⟩
    · rw [here]
      exact visitDecides_before decides shadow.symm rfl rfl
    · exact (v.hasEnded (by rw [complete]; rfl)).resolve_left fun same => was (same.symm.trans complete)
    · have kept := none before
      simp only [Prod.mk.injEq] at kept
      obtain ⟨sec, ms, -, -, late⟩ := kept
      exact ⟨sec, ms, late⟩

end Sys2Proof.Machine
end

section
/-! A changed Revision (sections 2.7 and 10.2): the gate and its hand-over, the Enable adopted, and the statement about
them. -/

namespace Sys2Proof.Machine

/-! ## The works beside the decisions -/

/-- What the thermal work of a socket whose THERMAL conditions do not end its phase, and the account's other works, leave
of it. -/
structure Socket.Alongside (c : Ctx) (x y : Socket) : Prop where
  gate : y.gate = x.gate
  blocks : (y.sensor, y.rail, y.ex) = (x.sensor, x.rail, x.ex)
  acct : (y.acct.phase, y.acct.resume, y.acct.bin, y.acct.strikes, y.acct.retireKind) =
    (x.acct.phase, x.acct.resume, x.acct.bin, x.acct.strikes, x.acct.retireKind)
  records : ¬controlled c x → x.acct.SameRecords y.acct
  rests : ¬controlled c x → x.thermal.u = 0 ∧ x.thermal.grant = 0 → y.thermal.u = 0 ∧ y.thermal.grant = 0

section
variable {c : Ctx} {x y z : Socket}

theorem Socket.Alongside.refl (c : Ctx) (x : Socket) : x.Alongside c x := ⟨rfl, rfl, rfl, fun _ => .refl _, fun _ => id⟩

theorem Socket.Alongside.phase (f : x.Alongside c y) : y.acct.phase = x.acct.phase := (congrArg Prod.fst f.acct :)

theorem Account.SameRecords.trans {a b d : Account} (f : a.SameRecords b) (g : b.SameRecords d) : a.SameRecords d :=
  ⟨g.kindCount.trans f.kindCount, g.failTotal.trans f.failTotal, g.firstFailDwell.trans f.firstFailDwell,
    g.staging.trans f.staging, g.detailLost.trans f.detailLost⟩

theorem Socket.Alongside.trans (f : x.Alongside c y) (g : y.Alongside c z) : x.Alongside c z := by
  have same : controlled c y ↔ controlled c x := controlled_of_same c (by rw [f.gate]) f.phase
  exact ⟨g.gate.trans f.gate, g.blocks.trans f.blocks, g.acct.trans f.acct,
    fun out => (f.records out).trans (g.records fun is => out (same.mp is)),
    fun out rests => g.rests (fun is => out (same.mp is)) (f.rests out rests)⟩

theorem Socket.Ledger.alongside (l : x.Ledger y) : x.Alongside c y := by
  rw [l.acct]
  exact ⟨rfl, rfl, rfl, fun _ => ⟨rfl, rfl, rfl, rfl, rfl⟩, fun _ => id⟩

theorem Socket.thermalVisit_alongside (share : Int) (passive : x.gate.shadow.kindActions[Kind.thermal.ix] = .ignore ∨
    x.gate.shadow.kindActions[Kind.thermal.ix] = .log) : x.Alongside c (x.thermalVisit c share) := by
  have outside (out : ¬controlled c x) := x.thermalVisit_out c share out
  obtain ⟨z, a, is, strikes⟩ := x.thermalVisit_passive c share passive
  refine ⟨x.thermalVisit_gate c share, ?_, ?_, fun out => ?_, fun out _ => ?_⟩
  · rw [is]
    rfl
  · rw [is]
    dsimp only [Socket.accounted]
    rw [strikes]
  · obtain ⟨z, form, -⟩ := outside out
    rw [form]
    exact .refl _
  · obtain ⟨z, form, u, grant⟩ := outside out
    rw [form]
    exact ⟨u, grant⟩

variable (share : Int) (adopted : Option Bool)

/-- The decisions of a visit stand between works of their side. -/
theorem Socket.visitWorks_around (place : ThermalPlace) (passive : x.gate.shadow.kindActions[Kind.thermal.ix] = .ignore ∨
    x.gate.shadow.kindActions[Kind.thermal.ix] = .log) : ∃ w : Socket, x.Alongside c w ∧
      (w.decide c adopted).Alongside c (x.visitWorks c share adopted (worksOf place)) ∧
      (x.visitWorks c share adopted (worksOf place)).acct.dwellSec = (w.decide c adopted).acct.dwellSec := by
  have credits (y : Socket) : y.Alongside c (y.credit c) := (y.credit_ledger c).alongside
  have starts (y : Socket) : y.Alongside c y.startInterval := y.startInterval_ledger.alongside
  have same {y : Socket} (gate : y.gate = x.gate) : y.gate.shadow.kindActions[Kind.thermal.ix] = .ignore ∨
    y.gate.shadow.kindActions[Kind.thermal.ix] = .log := by rw [gate]; exact passive
  have dwell (y : Socket) : (y.thermalVisit c share).acct.dwellSec = y.acct.dwellSec :=
    (congrArg Account.dwellSec (y.thermalVisit_follows c share).tally :)
  have decided : ((x.credit c).decide c adopted).gate = x.gate := ((x.credit c).decide_keeps c adopted).gate
  cases place with
  | first => exact ⟨_, (thermalVisit_alongside share passive).trans (credits _), starts _, rfl⟩
  | afterCredit => exact ⟨_, (credits x).trans (thermalVisit_alongside share (same (credits x).gate)), starts _, rfl⟩
  | afterDecide => exact ⟨_, credits x, (thermalVisit_alongside share (same decided)).trans (starts _), dwell _⟩
  | last => exact ⟨_, credits x, (starts _).trans (thermalVisit_alongside share (same decided)), dwell _⟩

end

/-! ## The Enable adopted (R160, R166, R167) -/

section
variable (c : Ctx) (x : Socket)

/-- The loss of a LOST sensor, handed on. -/
theorem Socket.reportLoss_leaves : let y := x.reportLoss c
    (x.sensor.st = .lost → conditionTaken .sensorLost 0 [x.sensor.raw] y.acct.dwellSec x y) ∧
    (x.sensor.st ≠ .lost → y.acct.kindCount = x.acct.kindCount) ∧
    (¬(x.sensor.st = .lost ∧ conditionEnds .sensorLost x) → y.acct.phase = x.acct.phase ∧ y.rail = x.rail) ∧
    (x.sensor.st = .lost ∧ conditionEnds .sensorLost x → y.rail = x.rail.takedown) := by
  unfold Socket.reportLoss
  split
  · next lost =>
    have taken := Socket.takeCondition_conditionTaken c .sensorLost 0 [x.sensor.raw] x (.inl nofun)
    have dwell : (x.takeCondition c .sensorLost 0 [x.sensor.raw]).acct.dwellSec = x.acct.dwellSec :=
      (congrArg Account.dwellSec (x.takeCondition_follows c .sensorLost 0 [x.sensor.raw]).tally :)
    refine ⟨fun _ => by rw [dwell]; exact taken, fun not => absurd lost not, fun goesOn => ?_, fun ⟨_, reports, ends⟩ => ?_⟩
    · have stays := Socket.takeCondition_phase_stays c .sensorLost 0 [x.sensor.raw] x (.inl nofun)
        fun is => goesOn ⟨lost, is⟩
      obtain ⟨a, is⟩ := Socket.takeCondition_accounted c .sensorLost 0 [x.sensor.raw] x stays
      exact ⟨stays, by rw [is]; rfl⟩
    · have action := Settings.actionFor_kindAction x.gate.shadow .sensorLost 0 (.inl nofun)
      obtain ⟨z, is, -, rail, -⟩ := x.takeCondition_ends c .sensorLost 0 [x.sensor.raw] reports (by rw [action]; exact ends)
      rw [is, Socket.retire_rail, rail]
  · next has => exact ⟨fun lost => absurd lost has, fun _ => rfl, fun _ => ⟨rfl, rfl⟩, fun ⟨lost, _⟩ => absurd lost has⟩

theorem Rail.takedown_joined (b : Bank) (r : Rail) : (r.joinChain b).takedown.st = .off := by
  refine Rail.takedown_waiting _ ?_
  unfold Rail.joinChain
  split
  · exact .inr rfl
  · exact .inl rfl

/-- The entry of an EMPTY socket on a board that is not live. -/
theorem Socket.enable_idle (empty : x.acct.phase = .empty) (idle : ¬(c.board = .running ∨ c.board = .holding)) :
    x.enable c = (x.changePhase .waiting .none).reportLoss c := by
  unfold Socket.enable
  rw [if_pos empty]
  exact congrArg (Socket.reportLoss c) (if_neg idle)

theorem Socket.enable_live (empty : x.acct.phase = .empty) (live : c.board = .running ∨ c.board = .holding) :
    x.enable c = ((x.changePhase .waiting .none).chainEntry c).reportLoss c := by
  unfold Socket.enable
  rw [if_pos empty]
  exact congrArg (Socket.reportLoss c) (if_pos live)

/-- The withdrawal from a reporting phase (R167). -/
theorem Socket.withdraw_leaves (reports : x.acct.phase.reporting = true) : let y := x.withdraw
    y.acct.phase = .empty ∧ y.acct.resume = .none ∧
    y.acct.bin = (if x.acct.phase = .waiting then x.acct.bin else .incomplete) ∧ y.thermal.u = 0 ∧ y.thermal.grant = 0 ∧
    y.rail = x.rail.takedown := by
  unfold Socket.withdraw
  rw [if_pos reports, x.changePhase_eq .empty .none nofun]
  exact ⟨rfl, rfl, rfl, rfl, rfl, rfl⟩

theorem Socket.setRail_self : x.setRail x.rail = x := by
  simp [Socket.setRail]

/-- The entry to WAITING of an EMPTY socket, with the rail that the chain entry order leaves. -/
def Socket.entered (r : Rail) : Socket := (x.changePhase .waiting .none).setRail r

theorem Socket.entered_eq (r : Rail) : ∃ ex spoil left, x.entered r = { x with
    rail := r, ex := ex
    acct := { x.acct with phase := .waiting, resume := .none, spoil := spoil, leftStress := left } } := by
  unfold Socket.entered
  rw [x.changePhase_eq .waiting .none nofun]
  exact ⟨_, _, _, rfl⟩

/-- The loss handed on at the entry, with the settings in force. -/
theorem Socket.entered_loss (r : Rail) : let y := (x.entered r).reportLoss c
    let waits : Socket := { x with gate := { x.gate with shadow := x.gate.shadow }, acct := { x.acct with phase := .waiting } }
    let lossEnds : Prop := x.sensor.st = .lost ∧ conditionEnds .sensorLost waits
    ((x.sensor.st = .lost → conditionTaken .sensorLost 0 [x.sensor.raw] y.acct.dwellSec waits y) ∧
      (x.sensor.st ≠ .lost → y.acct.kindCount = x.acct.kindCount)) ∧
    (¬lossEnds → y.acct.phase = .waiting ∧ y.rail = r) ∧ (lossEnds → y.rail = r.takedown) := by
  obtain ⟨ex, spoil, left, is⟩ := x.entered_eq r
  rw [is]
  obtain ⟨taken, kept, goesOn, ends⟩ := Socket.reportLoss_leaves c { x with
    rail := r, ex := ex
    acct := { x.acct with phase := .waiting, resume := .none, spoil := spoil, leftStress := left } }
  exact ⟨⟨fun lost => conditionTaken_of_before (taken lost) rfl rfl rfl rfl ⟨rfl, rfl, rfl, rfl, rfl⟩, kept⟩, goesOn, ends⟩

/-- What the Enable adopted does, with the settings in force. -/
theorem Socket.decide_enableTaken : enableTaken c.board c.bank x.gate.shadow x
    (x.decide c (some x.gate.shadow.enable)) := by
  unfold enableTaken
  dsimp only
  refine ⟨fun off reports => ?_, fun on empty idle => ?_, fun on empty live locked => ?_,
    fun on empty live unlocked down => ?_, fun complete off => ?_, fun retired => ?_⟩
  · rw [off, x.decide_withdraw c reports]
    obtain ⟨phase, resume, bin, u, grant, rail⟩ := x.withdraw_leaves reports
    rw [rail]
    exact ⟨phase, resume, bin, u, grant, x.rail.takedown_checked, x.rail.takedown_waiting⟩
  · have entry : x.changePhase .waiting .none = x.entered x.rail := by
      have same := (x.changePhase .waiting .none).setRail_self
      rw [Socket.changePhase_rail] at same
      exact same.symm
    rw [on, x.decide_enable c empty, x.enable_idle c empty idle, entry]
    obtain ⟨accounted, goesOn, -⟩ := x.entered_loss c x.rail
    exact ⟨accounted, fun not => (goesOn not).1⟩
  · have silent (y : Socket) (gone : y.acct.phase = .retired) : y.reportLoss c = y := by
      unfold Socket.reportLoss
      split
      · exact Socket.takeCondition_dropped c .sensorLost 0 _ y (by rw [gone]; rfl)
      · rfl
    rw [on, x.decide_enable c empty, x.enable_live c empty live, Socket.chainEntry_locked c _ locked rfl, silent _ rfl]
    exact ⟨rfl, rfl, rfl⟩
  · have joins : (x.changePhase .waiting .none).rail.chainEntry c.bank = x.rail.joinChain c.bank := by
      rw [Socket.changePhase_rail]
      unfold Rail.chainEntry
      rw [down]
    rw [on, x.decide_enable c empty, x.enable_live c empty live, Socket.chainEntry_unlocked c _ unlocked, joins]
    obtain ⟨accounted, goesOn, ends⟩ := x.entered_loss c (x.rail.joinChain c.bank)
    refine ⟨accounted, fun is => ?_, fun not => ?_⟩
    · exact (congrArg Rail.st (ends is)).trans (x.rail.takedown_joined c.bank)
    · obtain ⟨phase, rail⟩ := goesOn not
      have entered := (x.changePhase .waiting .none).chainEntry_enters c unlocked ((congrArg Rail.st (x.changePhase_rail _ _)).trans down)
      rw [Socket.chainEntry_unlocked c _ unlocked, joins] at entered
      unfold Socket.entered at phase rail
      rw [rail]
      exact ⟨phase, entered⟩
  · rw [x.decide_complete c _ complete rfl]
    have done : x.completeAdopted = x.powerOff := if_pos ⟨complete, off⟩
    rw [done]
    exact ⟨complete, rfl, x.rail.takedown_checked⟩
  · rw [x.decide_retired c _ retired]
    exact ⟨retired, rfl⟩

end

/-- Whether a condition ends the run asks for the settings, the phase and the strikes. -/
theorem conditionEnds_of_same {k : Kind} {x y : Socket} (ends : conditionEnds k x)
    (gate : y.gate.shadow = x.gate.shadow) (phase : y.acct.phase = x.acct.phase) (strikes : y.acct.strikes = x.acct.strikes) :
    conditionEnds k y := by
  simpa only [conditionEnds, gate, phase, strikes] using ends

/-- The Enable adopted asks of the socket before for its phase, its bin, its sensor, where its rail stands and, of an
EMPTY one, for its accounts. -/
theorem enableTaken_before {board : BoardState} {b : Bank} {st : Settings} {x x' y : Socket} (d : enableTaken board b st x y)
    (sensor : x'.sensor = x.sensor) (acct : (x'.acct.phase, x'.acct.bin, x'.acct.strikes) =
      (x.acct.phase, x.acct.bin, x.acct.strikes)) (records : x.acct.phase = .empty → x'.acct.SameRecords x.acct)
    (rail : x.rail.st = x'.rail.st ∨ (x'.rail.st.checked = true ∧ x.rail.st.checked = true)) : enableTaken board b st x' y := by
  simp only [Prod.mk.injEq] at acct
  obtain ⟨phase, bin, strikes⟩ := acct
  have checked (is : x'.rail.st.checked = true) : x.rail.st.checked = true := by
    rcases rail with same | ⟨-, both⟩
    · rw [same]
      exact is
    · exact both
  have stands {q : RailState} (low : q.checked = false) (is : x'.rail.st = q) : x.rail.st = q := by
    rcases rail with same | ⟨up, -⟩
    · exact same.trans is
    · rw [is, low] at up
      cases up
  obtain ⟨withdrawn, idle, locked, joins, complete, retired⟩ := d
  unfold enableTaken
  dsimp only
  have raw : x'.sensor.raw = x.sensor.raw := by rw [sensor]
  have has : x'.sensor.st = x.sensor.st := by rw [sensor]
  rw [has, raw]
  have before (is : x'.acct.phase = .empty) : x.acct.phase = .empty := phase.symm.trans is
  refine ⟨fun off reports => ?_, fun on empty not => ?_, fun on empty => locked on (before empty),
    fun on empty live unlocked down => ?_, fun done off => ?_, fun gone => ?_⟩
  · obtain ⟨empty, resume, binned, u, grant, up, waits⟩ := withdrawn off (by rw [← phase]; exact reports)
    exact ⟨empty, resume, by rw [phase, bin]; exact binned, u, grant, fun is => up (checked is),
      fun is => waits (is.imp (stands rfl) (stands rfl))⟩
  · obtain ⟨⟨lost, kept⟩, goesOn⟩ := idle on (before empty) not
    obtain ⟨kindCount, failTotal, firstFailDwell, staging, detailLost⟩ := records (before empty)
    exact ⟨⟨fun is => conditionTaken_of_before (lost is) rfl rfl bin strikes
      ⟨kindCount, failTotal, firstFailDwell, staging, detailLost⟩, fun is => (kept is).trans kindCount⟩,
      fun stays => goesOn fun is => stays ⟨is.1, conditionEnds_of_same is.2 rfl rfl strikes⟩⟩
  · obtain ⟨⟨lost, kept⟩, off, goesOn⟩ := joins on (before empty) live unlocked (stands rfl down)
    obtain ⟨kindCount, failTotal, firstFailDwell, staging, detailLost⟩ := records (before empty)
    exact ⟨⟨fun is => conditionTaken_of_before (lost is) rfl rfl bin strikes
      ⟨kindCount, failTotal, firstFailDwell, staging, detailLost⟩, fun is => (kept is).trans kindCount⟩,
      fun is => off ⟨is.1, conditionEnds_of_same is.2 rfl rfl strikes.symm⟩,
      fun stays => goesOn fun is => stays ⟨is.1, conditionEnds_of_same is.2 rfl rfl strikes⟩⟩
  · obtain ⟨still, kept, up⟩ := complete (phase.symm.trans done) off
    exact ⟨still, kept.trans bin.symm, fun is => up (checked is)⟩
  · obtain ⟨still, kept⟩ := retired (phase.symm.trans gone)
    exact ⟨still, kept.trans bin.symm⟩

/-- And of the one after for its standing, its rail and, of a socket withdrawn or entered, its accounts, u and grant. -/
theorem enableTaken_after {board : BoardState} {b : Bank} {st : Settings} {x y y' : Socket} (d : enableTaken board b st x y)
    (rail : y'.rail = y.rail) (acct : (y'.acct.phase, y'.acct.resume, y'.acct.bin, y'.acct.strikes, y'.acct.retireKind) =
      (y.acct.phase, y.acct.resume, y.acct.bin, y.acct.strikes, y.acct.retireKind))
    (dwell : y'.acct.dwellSec = y.acct.dwellSec)
    (records : x.acct.phase = .empty → st.enable = true → y.acct.SameRecords y'.acct)
    (rests : st.enable = false → x.acct.phase.reporting = true → y.thermal.u = 0 ∧ y.thermal.grant = 0 →
      y'.thermal.u = 0 ∧ y'.thermal.grant = 0) : enableTaken board b st x y' := by
  simp only [Prod.mk.injEq] at acct
  obtain ⟨phase, resume, bin, strikes, retireKind⟩ := acct
  obtain ⟨withdrawn, idle, locked, joins, complete, retired⟩ := d
  have same (empty : x.acct.phase = .empty) (on : st.enable = true) : y.SameAccounts y' :=
    ⟨phase, resume, retireKind, bin, strikes, records empty on, by rw [rail], by rw [rail]⟩
  unfold enableTaken
  dsimp only
  rw [phase, resume, bin, retireKind, dwell, rail]
  refine ⟨fun off reports => ?_, fun on empty not => ?_, locked, fun on empty live unlocked down => ?_, complete, retired⟩
  · obtain ⟨phase, resume, binned, u, grant, up⟩ := withdrawn off reports
    obtain ⟨u, grant⟩ := rests off reports ⟨u, grant⟩
    exact ⟨phase, resume, binned, u, grant, up⟩
  · obtain ⟨⟨lost, has⟩, goesOn⟩ := idle on empty not
    exact ⟨⟨fun is => conditionTaken_of_same (lost is) (same empty on),
      fun is => (records empty on).kindCount.trans (has is)⟩, goesOn⟩
  · obtain ⟨⟨lost, has⟩, goesOn⟩ := joins on empty live unlocked down
    exact ⟨⟨fun is => conditionTaken_of_same (lost is) (same empty on),
      fun is => (records empty on).kindCount.trans (has is)⟩, goesOn⟩

end Sys2Proof.Machine
end

section
/-! A visit with a changed Revision: where the rail and the exercise stand as the adoption left them, and the statement. -/

namespace Sys2Proof.Machine

/-! ## The gate and its hand-over (R37, R40, R86, R135, R136) -/

section
variable (cfg : BoardConfig) (m : LaneMap) (i : SocketIx) (r : List Word) (x : Socket)

theorem Rail.adopt_railAdopted (old new : Numbers) (q : Rail) : railAdopted old new q (q.adopt old new) := by
  have sent : (if old.fastLimit = new.fastLimit then q else { q with threshold := new.fastLimit }) =
      { q with threshold := if old.fastLimit = new.fastLimit then q.threshold else new.fastLimit } := by
    split <;> rfl
  unfold railAdopted Rail.adopt
  dsimp only
  rw [sent]
  refine ⟨fun same => if_pos same, fun differs => ?_⟩
  rw [if_neg differs]
  refine ⟨fun is => ?_, fun is => ?_, fun notSettle notOn => ?_⟩
  · simp [is]
  · simp [is]
  · cases st : q.st <;> simp_all

theorem Rail.adopt_threshold (old new : Numbers) (q : Rail) : (q.adopt old new).threshold =
    if old.fastLimit = new.fastLimit then q.threshold else new.fastLimit := by
  unfold Rail.adopt
  by_cases fast : old.fastLimit = new.fastLimit <;> by_cases volts : old.railSetpoint = new.railSetpoint <;>
    cases st : q.st <;> simp [fast, volts, st]

theorem Exercise.adopt_exerciseAdopted (mode : ExMode) (p : Phase) (e : Exercise) :
    exerciseAdopted mode p e (e.adopt mode p) := by
  unfold exerciseAdopted Exercise.adopt Exercise.arm
  by_cases suspended : e.st = .suspended
  · cases p <;> simp [suspended]
  · simp [suspended]

theorem Socket.revisionGate_rejected {why : RejectReason} (changed : field8 r 0 ≠ x.gate.appliedRev)
    (judged : judgeRecord cfg m i r = .rejected why) :
    x.revisionGate cfg m i r = ({ x with gate := x.gate.reject (field8 r 0) why }, none) := by
  unfold Socket.revisionGate
  rw [if_neg changed, judged]

theorem Socket.revisionGate_accepted {st : Settings} {n : Nat} (changed : field8 r 0 ≠ x.gate.appliedRev)
    (judged : judgeRecord cfg m i r = .accepted st n) :
    x.revisionGate cfg m i r = (x.adopt (field8 r 0) st n, some st.enable) := by
  unfold Socket.revisionGate
  rw [if_neg changed, judged]

/-- The first part of the statement: the gate alone. -/
theorem Socket.revisionGate_decides : (field8 r 0 = x.gate.appliedRev → x.revisionGate cfg m i r = (x, none)) ∧
    (field8 r 0 ≠ x.gate.appliedRev →
      (x.revisionGate cfg m i r).1.gate.appliedRev = field8 r 0 ∧
      (∀ why, judgeRecord cfg m i r = .rejected why →
        (x.revisionGate cfg m i r).1 = { x with gate := x.gate.reject (field8 r 0) why }) ∧
      (∀ st n, judgeRecord cfg m i r = .accepted st n →
        (x.revisionGate cfg m i r).1.gate = x.gate.adopt (field8 r 0) st n ∧
        railAdopted x.gate.shadow.num st.num x.rail (x.revisionGate cfg m i r).1.rail ∧
        exerciseAdopted st.mode x.acct.phase x.ex (x.revisionGate cfg m i r).1.ex)) := by
  refine ⟨fun same => if_pos same, fun changed => ⟨?_, fun why judged => ?_, fun st n judged => ?_⟩⟩
  · cases judged : judgeRecord cfg m i r with
    | rejected why => rw [x.revisionGate_rejected cfg m i r changed judged]; rfl
    | accepted st n => rw [x.revisionGate_accepted cfg m i r changed judged]; rfl
  · rw [x.revisionGate_rejected cfg m i r changed judged]
  · rw [x.revisionGate_accepted cfg m i r changed judged]
    exact ⟨rfl, Rail.adopt_railAdopted _ _ _, Exercise.adopt_exerciseAdopted _ _ _⟩

end

/-! ## Where rail and exercise stand -/

/-- An order on the phases in which every work of a visit with this Enable moves its socket forward, or leaves it. -/
def Phase.rank (adopted : Option Bool) : Phase → Nat
  | .empty => if adopted = some false then 7 else 0
  | .soaking => 2
  | .stressing => 3
  | .complete => 4
  | .retired => 5
  | _ => 1

/-- A work of a visit moves its socket to a later phase, or leaves gate, phase and exercise and, but for the power-off
of a COMPLETE socket, the rail. -/
def Socket.Advances (adopted : Option Bool) (x y : Socket) : Prop :=
  x.acct.phase.rank adopted < y.acct.phase.rank adopted ∨
    (y.gate = x.gate ∧ y.acct.phase = x.acct.phase ∧ y.ex = x.ex ∧
      (y.rail = x.rail ∨ (x.acct.phase = .complete ∧
        (x.gate.shadow.endAction = .powerOff ∨ x.gate.shadow.enable = false))))

section
variable {adopted : Option Bool} {x y z : Socket}

theorem Socket.Advances.trans (f : x.Advances adopted y) (g : y.Advances adopted z) : x.Advances adopted z := by
  rcases f with on | ⟨gate, phase, ex, rail⟩ <;> rcases g with on' | ⟨gate', phase', ex', rail'⟩
  · exact .inl (Nat.lt_trans on on')
  · exact .inl (phase' ▸ on)
  · exact .inl (phase ▸ on')
  · refine .inr ⟨gate'.trans gate, phase'.trans phase, ex'.trans ex, ?_⟩
    rw [phase, gate] at rail'
    rcases rail' with same' | off
    · exact rail.imp_left same'.trans
    · exact .inr off

theorem Socket.Ledger.advances (l : x.Ledger y) : x.Advances adopted y :=
  .inr ⟨l.gate, l.phase, l.ex, .inl l.rail⟩

theorem Phase.rank_retired {p : Phase} (reports : p.reporting = true) : p.rank adopted < Phase.retired.rank adopted := by
  cases p <;> simp_all [Phase.rank, Phase.reporting]

theorem Socket.thermalVisit_advances (c : Ctx) (share : Int) : x.Advances adopted (x.thermalVisit c share) := by
  rcases x.thermalVisit_cases c share with ⟨z, a, is⟩ | ⟨reports, retired⟩
  · rw [is]
    exact .inr ⟨rfl, rfl, rfl, .inl rfl⟩
  · refine .inl ?_
    rw [retired]
    exact Phase.rank_retired reports

theorem Socket.tests_advances : x.Advances adopted x.tests := by
  have soaks : x.Advances adopted x.soakTest := by
    by_cases soaked : x.acct.phase = .soaking ∧ x.gate.shadow.num.soakTime * 1000 ≤ x.sensor.inWindowMs
    · refine .inl ?_
      rw [x.soakTest_soaked soaked.1 soaked.2, soaked.1]
      exact Nat.lt_succ_self _
    · rw [x.soakTest_other soaked]
      exact (Socket.Ledger.refl x).advances
  have completes (v : Socket) : v.Advances adopted v.completionTest := by
    unfold Socket.completionTest
    split
    · next done =>
      refine .inl ?_
      rw [(v.complete_leaves done.1).1, done.1]
      exact Nat.lt_succ_self _
    · exact (Socket.Ledger.refl v).advances
  exact soaks.trans (completes _)

theorem Socket.decide_advances (c : Ctx) : x.Advances adopted (x.decide c adopted) := by
  rcases x.decide_cases c adopted with ⟨-, -, is⟩ | ⟨reports, off, is⟩ | ⟨empty, on, is⟩ | ⟨complete, -, is⟩ | ⟨-, is⟩ <;> rw [is]
  · exact tests_advances
  · refine .inl ?_
    rw [x.withdraw_phase reports]
    cases phase : x.acct.phase <;> simp_all [Phase.rank, Phase.reporting]
  · refine .inl ?_
    rcases x.enable_phase c empty with phase | phase <;> simp [phase, empty, on, Phase.rank]
  · unfold Socket.completeAdopted
    split
    · next off => exact .inr ⟨rfl, rfl, rfl, .inr off⟩
    · exact (Socket.Ledger.refl x).advances
  · exact (Socket.Ledger.refl x).advances

theorem Socket.visitWorks_advances (c : Ctx) (share : Int) (ws : List VisitWork) (x : Socket) :
    x.Advances adopted (x.visitWorks c share adopted ws) := by
  induction ws generalizing x with
  | nil => exact (Socket.Ledger.refl x).advances
  | cons w ws ih =>
    refine .trans ?_ (ih _)
    match w with
    | .thermal => exact thermalVisit_advances c share
    | .account .credit => exact (x.credit_ledger c).advances
    | .account .decide => exact decide_advances c
    | .account .startInterval => exact x.startInterval_ledger.advances

/-- A visit that ends in the phase in which it began. -/
theorem Socket.visitWorks_stays (c : Ctx) (share : Int) (ws : List VisitWork) (x : Socket)
    (stays : (x.visitWorks c share adopted ws).acct.phase = x.acct.phase) :
    (x.visitWorks c share adopted ws).ex = x.ex ∧
      (x.acct.phase ≠ .complete ∨ (x.gate.shadow.endAction = .holdPowered ∧ x.gate.shadow.enable = true) →
        (x.visitWorks c share adopted ws).rail = x.rail) := by
  rcases Socket.visitWorks_advances (adopted := adopted) c share ws x with on | ⟨-, -, ex, rail⟩
  · rw [stays] at on
    exact absurd on (Nat.lt_irrefl _)
  · refine ⟨ex, fun held => rail.resolve_right fun ⟨complete, off⟩ => ?_⟩
    rcases held with not | ⟨action, enable⟩
    · exact not complete
    · rw [action, enable] at off
      rcases off with is | is <;> cases is

/-- The threshold, the pending mode and the suspension flag are not for the visit to change. -/
theorem Socket.visitWorks_handed (c : Ctx) (share : Int) (ws : List VisitWork) (x : Socket) :
    let y := x.visitWorks c share adopted ws
    (y.rail.threshold, y.ex.pendingMode, y.ex.suspendFlag) = (x.rail.threshold, x.ex.pendingMode, x.ex.suspendFlag) := by
  have kept {v w : Socket} (k : v.Keeps w) : (w.rail.threshold, w.ex.pendingMode, w.ex.suspendFlag) =
      (v.rail.threshold, v.ex.pendingMode, v.ex.suspendFlag) := by rw [k.threshold, k.pending, k.flag]
  induction ws generalizing x with
  | nil => rfl
  | cons w ws ih =>
    refine (ih _).trans ?_
    match w with
    | .thermal =>
      refine Socket.thermalVisit_steps c share x (R := fun v w => (w.rail.threshold, w.ex.pendingMode,
        w.ex.suspendFlag) = (v.rail.threshold, v.ex.pendingMode, v.ex.suspendFlag)) (fun f g => g.trans f)
        (fun _ _ => rfl) (fun v sub d _ => ?_)
      exact kept (v.takeCondition_keeps c .thermal sub d)
    | .account .credit => rfl
    | .account .decide => exact kept (x.decide_keeps c adopted)
    | .account .startInterval => rfl

end

/-! ## The visit -/

theorem Rail.adopt_st (old new : Numbers) (q : Rail) :
    (q.adopt old new).st = q.st ∨ (q.st.checked = true ∧ (q.adopt old new).st.checked = true) := by
  unfold Rail.adopt
  by_cases fast : old.fastLimit = new.fastLimit <;> by_cases volts : old.railSetpoint = new.railSetpoint <;>
    cases st : q.st <;> simp_all [RailState.checked]

/-- The Enable adopted at a visit without events, where THERMAL ends no phase. -/
theorem Socket.visitWorks_enableTaken (c : Ctx) (share : Int) (place : ThermalPlace) (x : Socket)
    (passive : x.gate.shadow.kindActions[Kind.thermal.ix] = .ignore ∨
      x.gate.shadow.kindActions[Kind.thermal.ix] = .log) :
    enableTaken c.board c.bank x.gate.shadow x (x.visitWorks c share (some x.gate.shadow.enable) (worksOf place)) := by
  obtain ⟨w, before, after, dwell⟩ := Socket.visitWorks_around (c := c) share (some x.gate.shadow.enable) place passive
  have taken := w.decide_enableTaken c
  rw [before.gate] at taken
  have blocks := before.blocks
  have acct := before.acct
  have rail : (x.visitWorks c share (some x.gate.shadow.enable) (worksOf place)).rail =
    (w.decide c (some x.gate.shadow.enable)).rail := (congrArg (fun p => p.2.1) after.blocks :)
  simp only [Prod.mk.injEq] at blocks acct
  obtain ⟨sensor, railBefore, -⟩ := blocks
  obtain ⟨phase, -, bin, strikes, -⟩ := acct
  have outEmpty (empty : x.acct.phase = .empty) : ¬controlled c x := by simp [controlled, empty]
  refine enableTaken_after (enableTaken_before (x' := x) taken sensor.symm (by rw [phase, bin, strikes])
    (fun empty => ?_) (.inl (congrArg Rail.st railBefore))) rail after.acct dwell (fun empty on => ?_)
    fun off reports => ?_
  · exact before.records (outEmpty (phase.symm.trans empty))
  · have there := phase.trans empty
    refine after.records ?_
    rw [on, w.decide_enable c there]
    rcases w.enable_phase c there with is | is <;> simp [controlled, is]
  · refine after.rests ?_
    have there : w.acct.phase.reporting = true := by rw [phase]; exact reports
    rw [off, w.decide_withdraw c there]
    simp [controlled, w.withdraw_phase there]

theorem Gate.takeAck_fresh (g : Gate) (a : Byte8) : g.fresh.takeAck a = { g with
    acked := if (g.failWritten - a).toNat ≤ 8 then a else g.acked
    staleCount := 0, staleVisit := false, staleReported := false } := by
  unfold Gate.takeAck
  have same : g.fresh.failWritten = g.failWritten := rfl
  rw [same]
  split <;> rfl

/-- The visit's part of the statement, of an accepted record. -/
theorem State.VisitLeaves.accepted {s t : State} {i : SocketIx} {r : List Word} {place : ThermalPlace} {st : Settings}
    {n : Nat} (v : s.VisitLeaves i (some r) place t) (synced : (s.sock i).gate.synced = true)
    (changed : field8 r 0 ≠ (s.sock i).gate.appliedRev)
    (judged : judgeRecord s.scu.config s.pxr.active i r = .accepted st n) :
    let x : Socket := { s.sock i with gate := (s.sock i).gate.fresh.takeAck (field8 r 1) }
    t.sock i = (x.adopt (field8 r 0) st n).visitWorks (s.ctx i) (s.share i) (some st.enable) (worksOf place) := by
  have taken : (s.sock i).takeRecord s.scu.config s.pxr.active i (some r) = Socket.revisionGate s.scu.config s.pxr.active i r
      { s.sock i with gate := (s.sock i).gate.fresh.takeAck (field8 r 1) } := if_pos synced
  have here := v.here
  rw [taken, Socket.revisionGate_accepted _ _ _ _ _ (by rw [Gate.takeAck_fresh]; exact changed) judged] at here
  exact here

/-- Settles O32. -/
theorem revisionGateAdoptsWhole : Obligations.RevisionGateAdoptsWhole := by
  refine ⟨fun cfg m i r x => x.revisionGate_decides cfg m i r, ?_⟩
  intro s u o i r live reads quiet good synced changed g acked verdict
  obtain ⟨t, runs, v⟩ := exec_scrReadComplete_quiet s u o i live reads quiet
  have worked := v.worksThermal
  rw [good] at v
  refine ⟨t, runs, v.rest, v.scu, v.others, fun why rejected => ?_, fun st n accepted => ?_, worked, v.goesOn⟩
  · have taken : (s.sock i).takeRecord s.scu.config s.pxr.active i (some r) =
        Socket.revisionGate s.scu.config s.pxr.active i r { s.sock i with gate := g.fresh.takeAck (field8 r 1) } := if_pos synced
    rw [v.here, Socket.visitWorks_gate, taken,
      Socket.revisionGate_rejected _ _ _ _ _ (by rw [Gate.takeAck_fresh]; exact changed) rejected, Gate.takeAck_fresh]
    rfl
  · have here := v.accepted synced changed accepted
    let x : Socket := { s.sock i with gate := g.fresh.takeAck (field8 r 1) }
    let y : Socket := x.adopt (field8 r 0) st n
    have gate : y.gate = { g with
        acked := acked, staleCount := 0, staleVisit := false, staleReported := false
        appliedRev := field8 r 0, result := if n = 0 then .adopted else .clamped
        rejectReason := .none, clampedCount := n, shadow := st } := by
      change (g.fresh.takeAck (field8 r 1)).adopt (field8 r 0) st n = _
      rw [Gate.takeAck_fresh]
      rfl
    have shadow : x.gate.shadow = g.shadow := by
      change (g.fresh.takeAck (field8 r 1)).shadow = _
      rw [Gate.takeAck_fresh]
    have adopts := Rail.adopt_railAdopted g.shadow.num st.num (s.sock i).rail
    have exercise := Exercise.adopt_exerciseAdopted st.mode (s.sock i).acct.phase (s.sock i).ex
    have rail : y.rail = (s.sock i).rail.adopt g.shadow.num st.num := by
      change (s.sock i).rail.adopt x.gate.shadow.num st.num = _
      rw [shadow]
    have handed := Socket.visitWorks_handed (adopted := some st.enable) (s.ctx i) (s.share i) (worksOf o.thermal) y
    rw [← here] at handed
    simp only [Prod.mk.injEq] at handed
    obtain ⟨threshold, pending, flag⟩ := handed
    refine ⟨?_, pending.trans exercise.1, ?_, flag.trans exercise.2.1, fun stays => ?_, fun passive => ?_⟩
    · rw [here, Socket.visitWorks_gate]
      exact gate
    · rw [threshold, rail]
      exact Rail.adopt_threshold _ _ _
    · rw [here] at stays ⊢
      obtain ⟨ex, stands⟩ := Socket.visitWorks_stays (adopted := some st.enable) (s.ctx i) (s.share i) (worksOf o.thermal) y stays
      refine ⟨fun held => ?_, ?_⟩
      · rw [stands held, rail]
        exact adopts
      · rw [ex]
        exact exercise
    · have taken := Socket.visitWorks_enableTaken (s.ctx i) (s.share i) o.thermal y passive
      rw [here]
      refine enableTaken_before taken rfl rfl (fun _ => ⟨rfl, rfl, rfl, rfl, rfl⟩) ?_
      rw [rail]
      exact Rail.adopt_st _ _ _

end Sys2Proof.Machine
end

section
/-! The outcomes of the thermal work (R118, R120): when a visit raises RUNAWAY or SOAK_TIMEOUT, what it then clears and
accounts, and the statement about the two rows. -/

namespace Sys2Proof.Machine

/-! ## The works before and after the thermal work -/

def worksBefore : ThermalPlace → List VisitWork
  | .first => []
  | .afterCredit => [.account .credit]
  | .afterDecide => [.account .credit, .account .decide]
  | .last => [.account .credit, .account .decide, .account .startInterval]

def worksAfter : ThermalPlace → List VisitWork
  | .first => [.account .credit, .account .decide, .account .startInterval]
  | .afterCredit => [.account .decide, .account .startInterval]
  | .afterDecide => [.account .startInterval]
  | .last => []

theorem worksOf_split (place : ThermalPlace) : worksOf place = worksBefore place ++ .thermal :: worksAfter place := by
  cases place <;> rfl

theorem Socket.visitWorks_split (c : Ctx) (share : Int) (adopted : Option Bool) (x : Socket) (place : ThermalPlace) :
    x.visitWorks c share adopted (worksOf place) =
      ((x.visitWorks c share adopted (worksBefore place)).thermalVisit c share).visitWorks c share adopted
        (worksAfter place) := by
  unfold Socket.visitWorks
  rw [worksOf_split, List.foldl_append]
  rfl

/-- The Thermal Control Unit finds the socket as the works before have left it. -/
theorem State.atThermal_quiet (s : State) (i : SocketIx) (rec : Option (List Word)) {o : VisitOrder} (quiet : o.quiet = true) :
    let y := (s.sock i).takeRecord s.scu.config s.pxr.active i rec
    let t := s.atThermal i rec o
    t.sock i = y.1.visitWorks (s.ctx i) (s.share i) y.2 (worksBefore o.thermal) ∧ t.ctx i = s.ctx i ∧ t.share i = s.share i := by
  obtain ⟨gap0, gap1, gap2, gap3, -⟩ := VisitOrder.quiet_gaps quiet
  have works : s.atThermal i rec o = (s.takeRecord i rec).1.visitWorks i (s.takeRecord i rec).2 (worksBefore o.thermal) := by
    unfold State.atThermal State.beforeThermal
    dsimp only
    rw [gap0, gap1, gap2, gap3]
    cases o.thermal <;> rfl
  have taken := s.takeRecord_beside i rec
  obtain ⟨beside, here⟩ := State.visitWorks_beside i (s.takeRecord i rec).2 (worksBefore o.thermal) (s.takeRecord i rec).1
  rw [taken.ctx, taken.share, s.takeRecord_here] at here
  dsimp only
  rw [works]
  exact ⟨here, beside.ctx.trans taken.ctx, beside.share.trans taken.share⟩

/-! ## What the thermal work clears -/

section
variable (c : Ctx) (share : Int) (x : Socket)

theorem Socket.thermalVisit_updates {tf : Int} (updates : x.updates c = some tf) : x.thermalVisit c share =
    ((x.updated c share tf).runawayStep c tf).soakStep c x.soakExpired (x.updated c share tf).thermalDetails := by
  unfold Socket.thermalVisit
  rw [updates]
  rfl

theorem Socket.runsAway_iff : x.runsAway c share = true ↔
    ∃ tf, x.updates c = some tf ∧ (x.updated c share tf).runawayTest tf = true ∧ 9 ≤ x.thermal.runaway := by
  unfold Socket.runsAway
  cases x.updates c <;> simp

theorem Socket.soakTimesOut_iff : x.soakTimesOut c = true ↔
    (∃ tf, x.updates c = some tf) ∧ x.acct.phase = .soaking ∧ x.gate.shadow.num.soakLimit * 1000 ≤ x.thermal.soakMs := by
  unfold Socket.soakTimesOut Socket.soakExpired
  cases x.updates c <;> simp

/-- The runaway outcome leaves the count 0. -/
theorem Socket.thermalVisit_runaway (runs : x.runsAway c share = true) : (x.thermalVisit c share).thermal.runaway = 0 := by
  obtain ⟨tf, updates, test, nine⟩ := (x.runsAway_iff c share).mp runs
  have cleared : ((x.updated c share tf).runawayStep c tf).thermal.runaway = 0 := by
    unfold Socket.runawayStep
    rw [if_pos test, if_pos (show 9 ≤ (x.updated c share tf).thermal.runaway from nine)]
    exact (Socket.takeCondition_keeps _ c .thermal subRunaway _).runaway rfl
  rw [x.thermalVisit_updates c share updates]
  unfold Socket.soakStep
  split
  · exact (Socket.takeCondition_keeps _ c .thermal subSoakTimeout _).runaway cleared
  · exact cleared

/-- The soak timeout leaves the timer 0. -/
theorem Socket.thermalVisit_soakMs (times : x.soakTimesOut c = true) : (x.thermalVisit c share).thermal.soakMs = 0 := by
  obtain ⟨⟨tf, updates⟩, soaking, limit⟩ := (x.soakTimesOut_iff c).mp times
  have expired : x.soakExpired = true := by simp [Socket.soakExpired, soaking, limit]
  rw [x.thermalVisit_updates c share updates]
  unfold Socket.soakStep
  rw [if_pos expired]
  exact (Socket.takeCondition_keeps _ c .thermal subSoakTimeout _).soakMs

variable (adopted : Option Bool)

/-- The works after the thermal work keep a count of 0 and the timer. -/
theorem Socket.worksAfter_keep (place : ThermalPlace) : let y := x.visitWorks c share adopted (worksAfter place)
    y.thermal.soakMs = x.thermal.soakMs ∧ (x.thermal.runaway = 0 → y.thermal.runaway = 0) := by
  have decided (y : Socket) := y.decide_keeps c adopted
  cases place with
  | first => exact ⟨(decided (x.credit c)).soakMs, (decided (x.credit c)).runaway⟩
  | afterCredit => exact ⟨(decided x).soakMs, (decided x).runaway⟩
  | afterDecide => exact ⟨rfl, id⟩
  | last => exact ⟨rfl, id⟩

end

/-! ## What it accounts -/

/-- A condition taken stays taken under what keeps the accounts, and the standing of a socket that it has retired. -/
theorem conditionTaken_of_records {k : Kind} {sub : Nat} {d : List Word} {dwell : Nat} {x y z : Socket}
    (taken : conditionTaken k sub d dwell x y) (reports : x.acct.phase.reporting = true)
    (records : y.acct.SameRecords z.acct) (strikes : z.acct.strikes = y.acct.strikes)
    (samples : (z.rail.voltage, z.rail.current) = (y.rail.voltage, y.rail.current))
    (retired : y.acct.phase = .retired → (z.acct.phase, z.acct.resume, z.acct.retireKind, z.acct.bin) =
      (y.acct.phase, y.acct.resume, y.acct.retireKind, y.acct.bin)) : conditionTaken k sub d dwell x z := by
  obtain ⟨kindCount, failTotal, firstFailDwell, staging, detailLost⟩ := records
  simp only [Prod.mk.injEq] at samples retired
  obtain ⟨voltage, current⟩ := samples
  obtain ⟨-, counted, ends⟩ := taken
  refine ⟨fun silent => absurd (silent.symm.trans reports) nofun, fun _ => ?_, fun is => ?_⟩
  · rw [kindCount, failTotal, firstFailDwell, staging, detailLost, strikes, voltage, current]
    exact counted reports
  · obtain ⟨gone, resume, retireKind, bin⟩ := ends is
    obtain ⟨gone', resume', retireKind', bin'⟩ := retired gone
    exact ⟨gone'.trans gone, resume'.trans resume, retireKind'.trans retireKind, bin'.trans bin⟩

section
variable (c : Ctx) (share : Int) (adopted : Option Bool) (x : Socket)

theorem Socket.complete_records : x.acct.SameRecords x.complete.acct ∧ x.complete.acct.strikes = x.acct.strikes := by
  unfold Socket.complete
  rw [x.changePhase_eq .complete .none nofun]
  dsimp only
  split <;> exact ⟨⟨rfl, rfl, rfl, rfl, rfl⟩, rfl⟩

/-- The decisions about a socket in a reporting phase, or in RETIRED, count and record nothing. -/
theorem Socket.decide_records (known : x.acct.phase.reporting = true ∨ x.acct.phase = .retired) :
    x.acct.SameRecords (x.decide c adopted).acct ∧ (x.decide c adopted).acct.strikes = x.acct.strikes := by
  have soaks : x.acct.SameRecords x.soakTest.acct ∧ x.soakTest.acct.strikes = x.acct.strikes := by
    by_cases soaked : x.acct.phase = .soaking ∧ x.gate.shadow.num.soakTime * 1000 ≤ x.sensor.inWindowMs
    · rw [x.soakTest_soaked soaked.1 soaked.2]
      exact ⟨⟨rfl, rfl, rfl, rfl, rfl⟩, rfl⟩
    · rw [x.soakTest_other soaked]
      exact ⟨.refl _, rfl⟩
  rcases known with reports | retired
  · by_cases off : adopted = some false
    · rw [off, x.decide_withdraw c reports]
      unfold Socket.withdraw
      rw [if_pos reports, x.changePhase_eq .empty .none nofun]
      exact ⟨⟨rfl, rfl, rfl, rfl, rfl⟩, rfl⟩
    · rw [x.decide_reporting c adopted reports off]
      unfold Socket.tests Socket.completionTest
      split
      · obtain ⟨records, strikes⟩ := x.soakTest.complete_records
        exact ⟨soaks.1.trans records, strikes.trans soaks.2⟩
      · exact soaks
  · rw [x.decide_retired c adopted retired]
    exact ⟨.refl _, rfl⟩

end

/-! ## The condition of the update -/

section
variable (c : Ctx) (share : Int) (x : Socket) {tf : Int} (updates : x.updates c = some tf)
include updates

/-- RUNAWAY alone. -/
theorem Socket.thermalVisit_raisesRunaway (test : (x.updated c share tf).runawayTest tf = true)
    (nine : 9 ≤ x.thermal.runaway) (inTime : x.soakExpired = false) :
    conditionTaken .thermal subRunaway (x.updated c share tf).thermalDetails x.acct.dwellSec x (x.thermalVisit c share) := by
  let v := x.updated c share tf
  have taken := Socket.takeCondition_conditionTaken c .thermal subRunaway v.thermalDetails
    { v with thermal := { v.thermal with runaway := 0 } } (.inr (by decide))
  have visit : x.thermalVisit c share = Socket.takeCondition c .thermal subRunaway v.thermalDetails
      { v with thermal := { v.thermal with runaway := 0 } } := by
    rw [x.thermalVisit_updates c share updates, inTime]
    unfold Socket.soakStep Socket.runawayStep
    rw [if_neg nofun, if_pos test]
    exact if_pos nine
  rw [visit]
  exact conditionTaken_of_before taken rfl rfl rfl rfl ⟨rfl, rfl, rfl, rfl, rfl⟩

/-- SOAK_TIMEOUT alone. -/
theorem Socket.thermalVisit_raisesTimeout (cool : ¬((x.updated c share tf).runawayTest tf = true ∧ 9 ≤ x.thermal.runaway))
    (expired : x.soakExpired = true) :
    conditionTaken .thermal subSoakTimeout (x.updated c share tf).thermalDetails x.acct.dwellSec x (x.thermalVisit c share) := by
  let v := x.updated c share tf
  have quiet : ∃ z, v.runawayStep c tf = { v with thermal := z } := by
    unfold Socket.runawayStep
    split
    · next test =>
      rw [if_neg (fun nine : 9 ≤ v.thermal.runaway => cool ⟨test, nine⟩)]
      exact ⟨_, rfl⟩
    · exact ⟨_, rfl⟩
  obtain ⟨z, is⟩ := quiet
  have taken := Socket.takeCondition_conditionTaken c .thermal subSoakTimeout v.thermalDetails
    { v with thermal := { z with soakMs := 0 } } (.inr (by decide))
  have visit : x.thermalVisit c share = Socket.takeCondition c .thermal subSoakTimeout v.thermalDetails
      { v with thermal := { z with soakMs := 0 } } := by
    rw [x.thermalVisit_updates c share updates, expired]
    change (v.runawayStep c tf).soakStep c true v.thermalDetails = _
    rw [is]
    exact if_pos rfl
  rw [visit]
  exact conditionTaken_of_before taken rfl rfl rfl rfl ⟨rfl, rfl, rfl, rfl, rfl⟩

end

section
variable {c : Ctx} {x y : Socket} (l : x.Ledger y)
include l

theorem Socket.Ledger.records : x.acct.SameRecords y.acct ∧ y.acct.strikes = x.acct.strikes ∧ y.acct.bin = x.acct.bin ∧
    y.acct.resume = x.acct.resume ∧ y.acct.retireKind = x.acct.retireKind := by
  rw [l.acct]
  exact ⟨⟨rfl, rfl, rfl, rfl, rfl⟩, rfl, rfl, rfl, rfl⟩

theorem Socket.Ledger.updates : y.updates c = x.updates c := by
  rw [l.acct]
  rfl

theorem Socket.Ledger.runsAway (share : Int) : y.runsAway c share = x.runsAway c share := by
  rw [l.acct]
  rfl

theorem Socket.Ledger.soakTimesOut : y.soakTimesOut c = x.soakTimesOut c := by
  rw [l.acct]
  rfl

end

/-- The update of a socket reads nothing of what the ledger changes. -/
theorem Socket.Ledger.updated {c : Ctx} {x y : Socket} (l : x.Ledger y) (share tf : Int) :
    (y.updated c share tf).thermalDetails = (x.updated c share tf).thermalDetails ∧
      (y.updated c share tf).runawayTest tf = (x.updated c share tf).runawayTest tf ∧
      y.thermal.runaway = x.thermal.runaway ∧ y.soakExpired = x.soakExpired := by
  rw [l.acct]
  exact ⟨rfl, rfl, rfl, rfl⟩

/-- Works on both sides of the decisions keep what a condition taken before them says. -/
theorem conditionTaken_decided (c : Ctx) (adopted : Option Bool) {k : Kind} {sub : Nat} {d : List Word} {dwell : Nat}
    {x y v z : Socket} (taken : conditionTaken k sub d dwell x y) (reports : x.acct.phase.reporting = true)
    (known : y.acct.phase.reporting = true ∨ y.acct.phase = .retired) (before : y.Ledger v)
    (after : (v.decide c adopted).Ledger z) : conditionTaken k sub d dwell x z := by
  obtain ⟨records, strikes, bin, resume, retireKind⟩ := before.records
  obtain ⟨records', strikes', bin', resume', retireKind'⟩ := after.records
  have decided := v.decide_records c adopted (by rw [before.phase]; exact known)
  have keeps := v.decide_keeps c adopted
  refine conditionTaken_of_records taken reports (records.trans (decided.1.trans records'))
    (strikes'.trans (decided.2.trans strikes)) ?_ fun retired => ?_
  · rw [after.rail, keeps.voltage, keeps.current, before.rail]
  · have stands := v.decide_retired c adopted (before.phase.trans retired)
    rw [after.phase, resume', retireKind', bin', stands, before.phase, resume, retireKind, bin]

/-- The condition of the thermal work before the phase decisions, as the visit leaves it. -/
theorem Socket.visitWorks_taken (c : Ctx) (share : Int) (adopted : Option Bool) (x : Socket) {place : ThermalPlace}
    (early : place = .first ∨ place = .afterCredit) (reports : x.acct.phase.reporting = true) {sub : Nat} {d : List Word}
    (taken : ∀ w : Socket, x.Ledger w → w.acct.phase.reporting = true →
      conditionTaken .thermal sub d w.acct.dwellSec w (w.thermalVisit c share)) :
    let y := x.visitWorks c share adopted (worksOf place)
    conditionTaken .thermal sub d (if place = .first then x.acct.dwellSec else y.acct.dwellSec) x y := by
  have known (w : Socket) (reports : w.acct.phase.reporting = true) : (w.thermalVisit c share).acct.phase.reporting = true ∨
      (w.thermalVisit c share).acct.phase = .retired := by
    rcases w.thermalVisit_cases c share with ⟨z, a, is⟩ | ⟨-, retired⟩
    · rw [is]
      exact .inl reports
    · exact .inr retired
  dsimp only
  rcases early with rfl | rfl
  · rw [if_pos rfl]
    exact conditionTaken_decided c adopted (taken x (.refl x) reports) reports (known x reports)
      (Socket.credit_ledger c _) (Socket.startInterval_ledger _)
  · have credited := x.credit_ledger c
    have stands : (x.credit c).acct.phase.reporting = true := by rw [credited.phase]; exact reports
    obtain ⟨records, strikes, bin, -⟩ := credited.records
    have dwell : (x.visitWorks c share adopted (worksOf .afterCredit)).acct.dwellSec = (x.credit c).acct.dwellSec :=
      (congrArg Account.dwellSec (x.visitWorks_tally c share adopted .afterCredit) :)
    rw [if_neg nofun, dwell]
    refine conditionTaken_decided c adopted (conditionTaken_of_before (taken _ credited stands) (by rw [credited.gate])
      credited.phase.symm bin.symm strikes.symm records) reports (known _ stands) (.refl _) (Socket.startInterval_ledger _)

/-! ## The two rows -/

section
variable (s : State) (u : BitVec 3) (o : VisitOrder) (live : s.pins.por = false)
include live

/-- The rows are the row SCR_READ_COMPLETE where they have their outcome (log entry 7). -/
theorem exec_runaway_reached (reaches : s.reachesRunaway u o = true) :
    exec (.runaway u o) s = exec (.scrReadComplete u o) s := by
  refine congrArg Host.Outcome.next ((s.live_of_released _ live).trans (.trans ?_ (s.live_of_released _ live).symm))
  exact if_pos reaches

theorem exec_soakTimeout_reached (reaches : s.reachesSoakTimeout u o = true) :
    exec (.soakTimeout u o) s = exec (.scrReadComplete u o) s := by
  refine congrArg Host.Outcome.next ((s.live_of_released _ live).trans (.trans ?_ (s.live_of_released _ live).symm))
  exact if_pos reaches

end

section
variable (s : State) (u : BitVec 3) {o : VisitOrder} (i : SocketIx) (reads : s.transferring = some (.scrRead i))
  (quiet : o.quiet = true)
include reads quiet

/-- The outcomes at a visit without events. -/
theorem State.reaches_quiet :
    let y := (s.sock i).takeRecord s.scu.config s.pxr.active i (s.readRecord (scrBase i) 64 u)
    let w := y.1.visitWorks (s.ctx i) (s.share i) y.2 (worksBefore o.thermal)
    s.reachesRunaway u o = w.runsAway (s.ctx i) (s.share i) ∧ s.reachesSoakTimeout u o = w.soakTimesOut (s.ctx i) := by
  obtain ⟨here, ctx, share⟩ := (s.withPort s.smc.release).atThermal_quiet i (s.readRecord (scrBase i) 64 u) quiet
  unfold State.reachesRunaway State.reachesSoakTimeout
  rw [reads, s.releasePort_eq]
  dsimp only
  rw [here, ctx, share]
  exact ⟨rfl, rfl⟩

/-- Before the phase decisions they are those of the socket as the record has left it. -/
theorem State.reaches_early (early : o.thermal = .first ∨ o.thermal = .afterCredit) :
    let y := ((s.sock i).takeRecord s.scu.config s.pxr.active i (s.readRecord (scrBase i) 64 u)).1
    s.reachesRunaway u o = y.runsAway (s.ctx i) (s.share i) ∧ s.reachesSoakTimeout u o = y.soakTimesOut (s.ctx i) := by
  obtain ⟨runaway, soak⟩ := s.reaches_quiet u i reads quiet
  rw [runaway, soak]
  rcases early with is | is <;> rw [is]
  · exact ⟨rfl, rfl⟩
  · have credited := Socket.credit_ledger (s.ctx i)
      ((s.sock i).takeRecord s.scu.config s.pxr.active i (s.readRecord (scrBase i) 64 u)).1
    exact ⟨credited.runsAway _, credited.soakTimesOut⟩

end

/-- What the visit without events leaves of the counts. -/
theorem State.VisitLeaves.cleared {s t : State} {i : SocketIx} {u : BitVec 3} {o : VisitOrder}
    (v : s.VisitLeaves i (s.readRecord (scrBase i) 64 u) o.thermal t) (reads : s.transferring = some (.scrRead i))
    (quiet : o.quiet = true) : (s.reachesRunaway u o = true → (t.sock i).thermal.runaway = 0) ∧
      (s.reachesSoakTimeout u o = true → (t.sock i).thermal.soakMs = 0) := by
  obtain ⟨runaway, soak⟩ := s.reaches_quiet u i reads quiet
  rw [v.here, Socket.visitWorks_split, runaway, soak]
  obtain ⟨timer, count⟩ := Socket.worksAfter_keep (s.ctx i) (s.share i) (Socket.thermalVisit (s.ctx i) (s.share i) _) _ o.thermal
  exact ⟨fun is => count (Socket.thermalVisit_runaway _ _ _ is), fun is => timer.trans (Socket.thermalVisit_soakMs _ _ _ is)⟩

/-- Settles O34. -/
theorem runawayAndSoakTimeoutClearTheirCounts : Obligations.RunawayAndSoakTimeoutClearTheirCounts := by
  intro s u o i live reads y n h early updates runs soaks raises
  have runRow := exec_runaway_reached s u o live
  have soakRow := exec_soakTimeout_reached s u o live
  obtain ⟨-, -, -, drawn⟩ := (s.sock i).takeRecord_blocks s.scu.config s.pxr.active i
    (s.readRecord (scrBase i) 64 u)
  have room : y.headroom (s.share i) = headroomOf s i := by
    rw [← s.share_headroom i]
    unfold Socket.headroom
    rw [drawn]
  have updating (tf : Int) : updates tf ↔ y.updates (s.ctx i) = some tf := by
    rw [Socket.updates_iff]
    exact ⟨fun ⟨control, value, valid⟩ => ⟨control, valid, value⟩, fun ⟨control, valid, value⟩ => ⟨control, value, valid⟩⟩
  have running (tf : Int) : ((y.updated (s.ctx i) (s.share i) tf).runawayTest tf = true ∧ 9 ≤ y.thermal.runaway) ↔ runs tf := by
    rw [Socket.updated_hot, room]
    exact and_comm
  have runaway : y.runsAway (s.ctx i) (s.share i) = true ↔ ∃ tf, updates tf ∧ runs tf := by
    rw [Socket.runsAway_iff]
    exact exists_congr fun tf => and_congr (updating tf).symm (running tf)
  have timeout : y.soakTimesOut (s.ctx i) = true ↔ (∃ tf, updates tf) ∧ soaks := by
    rw [Socket.soakTimesOut_iff]
    exact and_congr (exists_congr fun tf => (updating tf).symm) Iff.rfl
  have expired : y.soakExpired = true ↔ soaks := Bool.and_eq_true_iff.trans (and_congr beq_iff_eq decide_eq_true_iff)
  obtain ⟨t, done, -⟩ := exec_scrReadComplete s u o i live reads
  have leaves (quiet : o.quiet = true) : s.VisitLeaves i (s.readRecord (scrBase i) 64 u) o.thermal t := by
    obtain ⟨t', done', v⟩ := exec_scrReadComplete_quiet s u o i live reads quiet
    rw [done] at done'
    cases done'
    exact v
  refine ⟨fun reaches => ⟨t, (runRow reaches).trans done, done, fun quiet => ?_⟩,
    fun reaches => ⟨t, (soakRow reaches).trans done, done, fun quiet => ?_⟩, fun quiet place => ?_,
    fun tf quiet place updates => ?_⟩
  · exact ⟨((leaves quiet).cleared reads quiet).1 reaches, (leaves quiet).others⟩
  · exact ⟨((leaves quiet).cleared reads quiet).2 reaches, (leaves quiet).others⟩
  · obtain ⟨isRun, isSoak⟩ := s.reaches_early u i reads quiet place
    rw [isRun, isSoak]
    exact ⟨runaway, timeout⟩
  · obtain ⟨isRun, isSoak⟩ := s.reaches_early u i reads quiet place
    have v := leaves quiet
    have found := (updating tf).mp updates
    have prev : (t.sock i).acct.prevVisit = some s.time.runMs := by
      rw [v.here]
      exact Socket.visitWorks_prevVisit _ _ _ _ _
    have details : [BitVec.ofInt 16 n.tempSetpoint, BitVec.ofInt 16 (outputFor n h tf y.thermal)] =
        (y.updated (s.ctx i) (s.share i) tf).thermalDetails := by
      have u : (y.updated (s.ctx i) (s.share i) tf).thermal.u =
          outputFor n (y.thermal.allocate (s.ctx i).bank (y.headroom (s.share i)) n).hMax tf y.thermal := rfl
      unfold Socket.thermalDetails
      rw [u, allocate_hMax, room]
      rfl
    refine ⟨fun hotTenth => ?_, fun soaked => ?_⟩
    · have reaches : s.reachesRunaway u o = true := isRun.trans (runaway.mpr ⟨tf, updates, hotTenth⟩)
      refine ⟨t, (runRow reaches).trans done, done, (v.cleared reads quiet).1 reaches, prev, fun alone reports => ?_⟩
      rw [details, v.here]
      refine y.visitWorks_taken _ _ _ place reports fun w l _ => ?_
      obtain ⟨sameDetails, test, count, timer⟩ := l.updated (c := s.ctx i) (s.share i) tf
      obtain ⟨isHot, nine⟩ := (running tf).mpr hotTenth
      have inTime : y.soakExpired = false := eq_false_of_ne_true fun is => alone (expired.mp is)
      rw [← sameDetails]
      exact w.thermalVisit_raisesRunaway _ _ (l.updates.trans found) (test.trans isHot) (by rw [count]; exact nine)
        (timer.trans inTime)
    · have reaches : s.reachesSoakTimeout u o = true := isSoak.trans (timeout.mpr ⟨⟨tf, updates⟩, soaked⟩)
      refine ⟨t, (soakRow reaches).trans done, done, (v.cleared reads quiet).2 reaches, prev, fun alone reports => ?_⟩
      rw [details, v.here]
      refine y.visitWorks_taken _ _ _ place reports fun w l _ => ?_
      obtain ⟨sameDetails, test, count, timer⟩ := l.updated (c := s.ctx i) (s.share i) tf
      rw [← sameDetails]
      refine w.thermalVisit_raisesTimeout _ _ (l.updates.trans found) ?_ (timer.trans (expired.mpr soaked))
      rw [test, count]
      exact fun is => alone ((running tf).mp is)

end Sys2Proof.Machine
end

section
/-! The gap after a transfer (R13): the events that fall in it by their own rows, and what the Scan Unit then asks for. -/

namespace Sys2Proof.Machine

/-! ## Events by their rows -/

/-- No event reaches POR_N. -/
theorem State.Event.por {s t : State} (e : s.Event t) : t.pins.por = s.pins.por := by
  cases e with
  | fastTrip i level =>
    unfold State.fastTrip
    dsimp only
    split <;> simp
  | interlockAssert =>
    unfold State.interlockAssert
    (repeat' split) <;> simp
  | interlockRelease => rfl
  | _ => simp

/-- An event of a gap does what its row does. -/
theorem exec_eventRow (s : State) (e : VisitEvent) (live : s.pins.por = false) :
    exec (eventRow e) s = .next (s.visitEvent e) := by
  cases e with
  | fastTrip i level => rfl
  | interlockAssert => rfl
  | interlockRelease => rfl
  | _ => exact congrArg Host.Outcome.next (s.live_of_released _ live)

theorem fallsIn_visitEvents (gap : List VisitEvent) (p : State) (live : p.pins.por = false) :
    fallsIn gap p (p.visitEvents gap) := by
  induction gap generalizing p with
  | nil => rfl
  | cons e es ih =>
    refine ⟨p.visitEvent e, exec_eventRow p e live, ih _ ?_⟩
    rcases p.visitEvent_event e with same | event
    · rw [same]
      exact live
    · exact event.por.trans live

/-! ## How each transfer ends -/

/-- The events after the last work of a visit are those of its gap. -/
theorem State.visitSocket_gap (v : State) (i : SocketIx) (rec : Option (List Word)) (o : VisitOrder) (gap : List VisitEvent) :
    v.visitSocket i rec { o with gap4 := gap } = (v.visitSocket i rec { o with gap4 := [] }).visitEvents gap := by
  unfold State.visitSocket State.atThermal State.beforeThermal State.afterThermal
  cases o.thermal <;> rfl

section
variable (s : State) (u : BitVec 3) (o : VisitOrder) (gap : List VisitEvent) (live : s.pins.por = false)
include live

theorem exec_bsrWriteComplete {ws : List Word} (writes : s.transferring = some (.bsrWrite ws)) :
    exec (.bsrWriteComplete gap) s = .next (((s.writeRecord bsrBase ws).releasePort.visitEvents gap).beginVisit 0) := by
  have done : s.bsrDone gap = ((s.writeRecord bsrBase ws).releasePort.visitEvents gap).beginVisit 0 := by
    unfold State.bsrDone
    rw [writes]
  exact congrArg Host.Outcome.next ((s.live_of_released _ live).trans done)

theorem exec_failRecordWriteComplete {i : SocketIx} {slot : Fin 8} {ws : List Word}
    (writes : s.transferring = some (.failWrite i slot ws)) : exec (.failRecordWriteComplete gap) s =
      .next ((((s.writeRecord (failBase i slot) ws).releasePort.updSock i Socket.recordMoved).visitEvents gap).nextMove
        i (s.scu.visit.movesLeft - 1) true) := by
  have done : s.failDone gap = (((s.writeRecord (failBase i slot) ws).releasePort.updSock i Socket.recordMoved).visitEvents
      gap).nextMove i (s.scu.visit.movesLeft - 1) true := by
    unfold State.failDone
    rw [writes]
  exact congrArg Host.Outcome.next ((s.live_of_released _ live).trans done)

theorem exec_ssrWriteComplete {i : SocketIx} {ws : List Word} (writes : s.transferring = some (.ssrWrite i ws)) :
    exec (.ssrWriteComplete gap) s = .next (((s.writeRecord (ssrBase i) ws).releasePort.raiseIf s.scu.visit.moved
      .failPosted).nextVisit i gap) := by
  have done : s.ssrDone gap = ((s.writeRecord (ssrBase i) ws).releasePort.raiseIf s.scu.visit.moved
      .failPosted).nextVisit i gap := by
    unfold State.ssrDone
    rw [writes]
  exact congrArg Host.Outcome.next ((s.live_of_released _ live).trans done)

theorem exec_bcrReadComplete_gap (reads : s.transferring = some .bcrRead) : exec (.bcrReadComplete u gap) s =
    .next (((s.releasePort.headerRead (s.readRecord bcrBase 128 u)).headerWork.visitEvents gap).writeHeader) := by
  have done : s.bcrDone u gap =
      ((s.releasePort.headerRead (s.readRecord bcrBase 128 u)).headerWork.visitEvents gap).writeHeader := by
    unfold State.bcrDone
    rw [reads]
  exact congrArg Host.Outcome.next ((s.live_of_released _ live).trans done)

theorem exec_scrReadComplete_gap {i : SocketIx} (reads : s.transferring = some (.scrRead i)) :
    let q := (s.releasePort.visitSocket i (s.readRecord (scrBase i) 64 u) { o with gap4 := [] }).visitEvents gap
    exec (.scrReadComplete u { o with gap4 := gap }) s = .next (q.nextMove i (movesOf (q.sock i)) false) := by
  have done : s.scrDone u { o with gap4 := gap } =
      (s.releasePort.visitSocket i (s.readRecord (scrBase i) 64 u) { o with gap4 := gap }).nextMove i
        ((s.releasePort.visitSocket i (s.readRecord (scrBase i) 64 u) { o with gap4 := gap }).sock i).moveCount false := by
    unfold State.scrDone
    rw [reads]
  rw [State.visitSocket_gap] at done
  exact congrArg Host.Outcome.next ((s.live_of_released _ live).trans done)

end

/-! ## The end of a sweep in a gap -/

/-- What the end of a sweep leaves before the events of the gap. -/
def State.afterSweep (v : State) : State := if v.scu.deferred then v.closeSweep.enterSweep else v.closeSweep

/-- And what is asked for after them. -/
def State.asksSweep (deferred : Bool) (q : State) : State :=
  if deferred then { q with smc := requested q.smc .bcrRead } else q

theorem State.endSweep_gap (v : State) (gap : List VisitEvent) :
    v.endSweep gap = State.asksSweep v.scu.deferred (v.afterSweep.visitEvents gap) := by
  unfold State.endSweep State.afterSweep State.asksSweep
  split <;> rfl

theorem State.closeSweep_smc (v : State) : v.closeSweep.smc = v.smc := by
  unfold State.closeSweep
  rw [State.fillAtEnd_blocks]

theorem State.afterSweep_beside (v : State) : v.afterSweep.smc = v.smc ∧ v.afterSweep.pins = v.pins := by
  unfold State.afterSweep
  split
  · exact ⟨v.closeSweep_smc, by simp⟩
  · exact ⟨v.closeSweep_smc, v.closeSweep_pins⟩

/-! ## The gap after each transfer -/

/-- What the Scan Unit asks for at the end of the gap after a transfer. -/
def State.asks (s : State) (q : State) : Transfer → State
  | .bcrRead => q.writeHeader
  | .bsrWrite _ => q.beginVisit 0
  | .scrRead i => q.nextMove i (movesOf (q.sock i)) false
  | .failWrite i _ _ => q.nextMove i (s.scu.visit.movesLeft - 1) true
  | .ssrWrite i _ =>
    if h : i.val + 1 < 32 then q.beginVisit ⟨i.val + 1, h⟩
    else if s.brc.atStep .loadLaneMap .reading then q.beginChunk
    else State.asksSweep s.scu.deferred q
  | .chunkRead _ => State.asksSweep s.scu.deferred q

theorem Brc.atStep_iff (b : Brc) (ch : Channel) (busy : b.channel = some ch) (code : CmdCode) (step : CmdStep) :
    b.atStep code step = true ↔ ch.code = code ∧ ch.step = step := by
  unfold Brc.atStep
  rw [busy]
  simp

/-- It is what the sweep or the visit goes on with. -/
theorem State.asks_goesOn (s q : State) (tr : Transfer) : scanGoesOn s q (s.asks q tr) tr := by
  cases tr with
  | bcrRead => exact ⟨q.bsrWords, rfl, q.bsrWords_fields⟩
  | bsrWrite ws => rfl
  | scrRead i => exact q.nextMove_asks i _ false
  | failWrite i slot ws => exact q.nextMove_asks i _ true
  | chunkRead c => rfl
  | ssrWrite i ws =>
    unfold State.asks
    dsimp only
    refine ⟨fun h => ?_, fun last ch busy => ⟨fun code step => ?_, fun other => ?_⟩, fun last idle => ?_⟩
    · rw [dif_pos h]
      rfl
    · rw [dif_neg (by rw [last]; decide), if_pos ((s.brc.atStep_iff ch busy _ _).mpr ⟨code, step⟩)]
      rfl
    · rw [dif_neg (by rw [last]; decide), if_neg fun is => ?_]
      · rfl
      · obtain ⟨code, step⟩ := (s.brc.atStep_iff ch busy _ _).mp is
        exact other.elim (· code) (· step)
    · rw [dif_neg (by rw [last]; decide), if_neg (by unfold Brc.atStep; rw [idle]; nofun)]
      rfl

theorem State.nextVisit_gap (s v : State) (i : SocketIx) (ws : List Word) (brc : v.brc = s.brc) (scu : v.scu = s.scu) :
    ∃ p : State, p.smc = v.smc ∧ p.pins = v.pins ∧
      ∀ gap, v.nextVisit i gap = s.asks (p.visitEvents gap) (.ssrWrite i ws) := by
  unfold State.nextVisit State.asks
  dsimp only
  rw [brc]
  split
  · exact ⟨v, rfl, rfl, fun _ => rfl⟩
  · split
    · exact ⟨v, rfl, rfl, fun _ => rfl⟩
    · obtain ⟨smc, pins⟩ := v.afterSweep_beside
      exact ⟨v.afterSweep, smc, pins, fun gap => (v.endSweep_gap gap).trans (by rw [scu])⟩

theorem State.takeChunk_deferred (s : State) (c : Nat) (rec : Option (List Word)) :
    (s.takeChunk c rec).scu.deferred = s.scu.deferred := by
  unfold State.takeChunk State.failLoad State.deliverChunk
  (repeat' split) <;> simp

/-- The part of the sweep that a transfer ends, before the events of the gap. -/
theorem transferEnds_gap (s : State) (tr : Transfer) (u : BitVec 3) (o : VisitOrder) (live : s.pins.por = false)
    (holds : s.transferring = some tr) : ∃ p : State, p.pins.por = false ∧
      ({ o with gap4 := [] }.quiet = true → released s.smc p.smc) ∧
      ∀ gap, exec (transferEnds u o gap tr) s = .next (s.asks (p.visitEvents gap) tr) := by
  have release (a : BitVec 11) : released s.smc { s.smc.release with attention := a } := s.smc.released_release
  cases tr with
  | bcrRead =>
    refine ⟨(s.releasePort.headerRead (s.readRecord bcrBase 128 u)).headerWork, by simpa using live, fun _ => ?_,
      fun gap => exec_bcrReadComplete_gap s u gap live holds⟩
    rw [s.releasePort_eq, State.headerRead_withPort, State.headerWork_withPort]
    exact release _
  | bsrWrite ws =>
    refine ⟨(s.writeRecord bsrBase ws).releasePort, by simpa using live, fun _ => ?_,
      fun gap => exec_bsrWriteComplete s gap live holds⟩
    rw [State.releasePort_eq, State.writeRecord_smc]
    exact release _
  | scrRead i =>
    refine ⟨s.releasePort.visitSocket i (s.readRecord (scrBase i) 64 u) { o with gap4 := [] }, ?_, fun quiet => ?_,
      fun gap => exec_scrReadComplete_gap s u o gap live holds⟩
    · refine State.visitSocket_keeps (P := fun t => t.pins.por = false) i (fun e h => e.por.trans h) (fun t rec h => ?_)
        (fun t h => ?_) (fun t a w h => ?_) _ _ _ (by simpa using live) <;> simpa using h
    · rw [State.visitSocket_quiet _ i _ quiet, s.releasePort_eq]
      have taken := (s.withPort s.smc.release).takeRecord_beside i (s.readRecord (scrBase i) 64 u)
      obtain ⟨beside, -⟩ := State.visitWorks_beside i ((s.withPort s.smc.release).takeRecord i (s.readRecord (scrBase i) 64 u)).2
        (worksOf o.thermal) ((s.withPort s.smc.release).takeRecord i (s.readRecord (scrBase i) 64 u)).1
      rw [(taken.trans beside).rest]
      exact release _
  | failWrite i slot ws =>
    refine ⟨(s.writeRecord (failBase i slot) ws).releasePort.updSock i Socket.recordMoved, by simpa using live,
      fun _ => ?_, fun gap => exec_failRecordWriteComplete s gap live holds⟩
    rw [State.releasePort_eq, State.updSock_withPort, State.writeRecord_smc]
    exact release _
  | ssrWrite i ws =>
    obtain ⟨p, smc, pins, ends⟩ := s.nextVisit_gap ((s.writeRecord (ssrBase i) ws).releasePort.raiseIf s.scu.visit.moved
      .failPosted) i ws (by simp) (by simp)
    refine ⟨p, by rw [pins]; simpa using live, fun _ => ?_,
      fun gap => (exec_ssrWriteComplete s gap live holds).trans (congrArg Host.Outcome.next (ends gap))⟩
    rw [smc, State.releasePort_eq, State.raiseIf_withPort, State.writeRecord_smc]
    exact release _
  | chunkRead c =>
    let v := s.takeChunk c (s.readRecord (chunkBase c) 64 u)
    obtain ⟨smc, pins⟩ := (v.withPort s.smc.release).afterSweep_beside
    refine ⟨(v.withPort s.smc.release).afterSweep, ?_, fun _ => ?_, fun gap => ?_⟩
    · rw [pins]
      change v.pins.por = false
      simpa [v] using live
    · rw [smc]
      exact release _
    · have deferred : (v.withPort s.smc.release).scu.deferred = s.scu.deferred := s.takeChunk_deferred c _
      rw [show exec (transferEnds u o gap (.chunkRead c)) s = _ from
        exec_laneMapChunkReadComplete s u c live holds gap, State.endSweep_gap, deferred]
      rfl

end Sys2Proof.Machine
end

section
/-! The ends of the write transfers (sections 1.4, 2.8 and 2.10), and the statement about the transfers. -/

namespace Sys2Proof.Machine

/-! ## The record in memory (R11, R14) -/

/-- A record that lies inside the memory reads back word by word, with generated parity. -/
theorem State.readWord_writeRecordIf_inside (s : State) (base : Nat) (ws : List Word) (n k : Nat)
    (inside : base + n + ws.length ≤ 65536) (short : k < ws.length) :
    (State.writeRecordIf (fun _ => true) s base ws n).readWord (base + n + k) = withParity (ws.getD k 0) := by
  induction ws generalizing s n k with
  | nil => cases short
  | cons d rest ih =>
    simp only [List.length_cons] at inside short
    rw [State.writeRecordIf, if_pos rfl]
    cases k with
    | zero =>
      rw [State.readWord_writeRecordIf_outside _ _ _ _ _ _ (by omega) (.inl (by omega))]
      exact s.readWord_writeWord_same _ d (by omega)
    | succ k =>
      have reads := ih (s.writeWord (base + n) d) (n + 1) k (by omega) (by omega)
      rw [show base + (n + 1) + k = base + n + (k + 1) by omega] at reads
      exact reads

section
variable (s : State) (base : Nat) (ws : List Word)

theorem State.writeRecord_only : s.writeRecord base ws = { s with mem := (s.writeRecord base ws).mem } := by
  have only (ws : List Word) (n : Nat) (s : State) : State.writeRecordIf (fun _ => true) s base ws n =
      { s with mem := (State.writeRecordIf (fun _ => true) s base ws n).mem } := by
    induction ws generalizing s n with
    | nil => rfl
    | cons d rest ih =>
      rw [State.writeRecordIf, if_pos rfl, ih]
      rfl
  exact only ws 0 s

/-- What a state that has the record in its memory reads. -/
theorem State.readWord_recorded {t : State} (mem : t.mem = (s.writeRecord base ws).mem) (epoch : t.epoch = s.epoch)
    (inside : base + ws.length ≤ 65536) :
    (∀ k : Nat, k < ws.length → t.readWord (base + k) = withParity (ws.getD k 0)) ∧
    (∀ a : Nat, a < base ∨ base + ws.length ≤ a → t.readWord a = s.readWord a) := by
  have same (a : Nat) : t.readWord a = (s.writeRecord base ws).readWord a :=
    State.readWord_of_mem mem (epoch.trans (s.writeRecord_epoch base ws).symm) a
  refine ⟨fun k short => ?_, fun a out => ?_⟩
  · rw [same]
    exact s.readWord_writeRecordIf_inside base ws 0 k inside short
  · rw [same]
    exact State.readWord_writeRecordIf_outside _ s base ws 0 a inside out

end

/-! ## What the visit after a Socket Status Record leaves -/

theorem State.closeSweep_blocks (v : State) : v.closeSweep = { v with
    scu := v.closeSweep.scu, brc := v.closeSweep.brc, pxr := v.closeSweep.pxr } := by
  unfold State.closeSweep
  rw [State.fillAtEnd_blocks]

theorem State.nextVisit_blocks (v : State) (i : SocketIx) : let t := v.nextVisit i []
    t = { v with scu := t.scu, brc := t.brc, pxr := t.pxr, smc := t.smc } ∧ t.smc.attention = v.smc.attention := by
  have closed := v.closeSweep_blocks
  unfold State.nextVisit
  dsimp only
  split
  · exact ⟨rfl, requested_attention _ _⟩
  · split
    · exact ⟨rfl, requested_attention _ _⟩
    · unfold State.endSweep
      split
      · refine ⟨?_, (requested_attention _ _).trans (congrArg (fun w : State => w.smc.attention) closed :)⟩
        rw [closed]
        rfl
      · refine ⟨?_, (congrArg (fun w : State => w.smc.attention) closed :)⟩
        rw [closed]
        rfl

theorem State.raiseIf_bit (s : State) (b : Bool) (c : Cause) :
    (s.raiseIf b c).smc.attention.getLsbD c.bit = (s.smc.attention.getLsbD c.bit || b) := by
  cases b with
  | false => exact (Bool.or_false _).symm
  | true => exact (Cause.raised s.smc.attention c).trans (Bool.or_true _).symm

/-- What the end of a Socket Status Record leaves, in memory and of the sweep. -/
theorem State.ssrDone_leaves (s : State) (i : SocketIx) (ws : List Word) (long : ws.length = 128) :
    let t := ((s.writeRecord (ssrBase i) ws).releasePort.raiseIf s.scu.visit.moved .failPosted).nextVisit i []
    (∀ k : Nat, k < 128 → t.readWord (ssrBase i + k) = withParity (ws.getD k 0)) ∧
    (∀ a : Nat, a < ssrBase i ∨ ssrBase i + 128 ≤ a → t.readWord a = s.readWord a) ∧
    t.sockets = s.sockets ∧ t.banks = s.banks ∧
    t.smc.attention.getLsbD 0 = (s.smc.attention.getLsbD 0 || s.scu.visit.moved) := by
  obtain ⟨blocks, attention⟩ := State.nextVisit_blocks
    ((s.writeRecord (ssrBase i) ws).releasePort.raiseIf s.scu.visit.moved .failPosted) i
  generalize State.nextVisit _ i [] = t at blocks attention ⊢
  have inside : ssrBase i + ws.length ≤ 65536 := by
    unfold ssrBase
    omega
  have mem : t.mem = (s.writeRecord (ssrBase i) ws).mem := by
    rw [blocks]
    simp
  have epoch : t.epoch = s.epoch := by
    rw [blocks]
    simp
  have reads := s.readWord_recorded (ssrBase i) ws mem epoch inside
  rw [long] at reads
  refine ⟨reads.1, reads.2, ?_, ?_, ?_⟩
  · rw [blocks]
    simp
  · rw [blocks]
    simp
  · rw [attention, State.releasePort_eq, State.raiseIf_withPort]
    exact ((s.writeRecord (ssrBase i) ws).raiseIf_bit _ .failPosted).trans (by rw [State.writeRecord_smc]; rfl)

/-- A transfer asked for by a state that `s` has released the port for. -/
theorem asksFor_withPort (s v : State) (tr : Transfer) (waits : s.smc.scanWaiting = none) :
    asksFor (requested (v.withPort s.smc.release).smc tr) s.smc.hostWaiting tr :=
  asksFor_released s.smc _ tr waits

/-- The visit that a Socket Status Record ends. -/
theorem State.ssrDone_goesOn (s : State) (i : SocketIx) (ws : List Word) :
    let t := ((s.writeRecord (ssrBase i) ws).releasePort.raiseIf s.scu.visit.moved .failPosted).nextVisit i []
    (∀ h : i.val + 1 < 32, t.scu = { s.scu with visit := .socket ⟨i.val + 1, h⟩ 0 false } ∧
      t.brc = s.brc ∧ t.pxr = s.pxr ∧
      (s.smc.scanWaiting = none → asksFor t.smc s.smc.hostWaiting (.scrRead ⟨i.val + 1, h⟩))) ∧
    (i = 31 → ∀ ch, s.brc.channel = some ch → ch.code = .loadLaneMap → ch.step = .reading →
      t.scu = { s.scu with visit := .chunk } ∧ t.brc = s.brc ∧ t.pxr = s.pxr ∧
      (s.smc.scanWaiting = none → asksFor t.smc s.smc.hostWaiting (.chunkRead s.scu.chunkIndex))) ∧
    (i = 31 → (∀ ch, s.brc.channel = some ch → ch.code ≠ .loadLaneMap ∨ ch.step ≠ .reading) →
      sweepEnds s t ∧ ((∀ ch, s.brc.channel = some ch → ch.code ≠ .fillLaneMap) → t.brc = s.brc ∧ t.pxr = s.pxr)) := by
  let v := (s.writeRecord (ssrBase i) ws).raiseIf s.scu.visit.moved .failPosted
  have port : (s.writeRecord (ssrBase i) ws).releasePort.raiseIf s.scu.visit.moved .failPosted =
      v.withPort s.smc.release := by
    rw [State.releasePort_eq, State.raiseIf_withPort, State.writeRecord_smc]
  have scu : v.scu = s.scu := by simp [v]
  have brc : v.brc = s.brc := by simp [v]
  have pxr : v.pxr = s.pxr := by simp [v]
  have sockets : v.sockets = s.sockets := by simp [v]
  rw [port]
  generalize v = v at scu brc pxr sockets
  refine ⟨fun h => ?_, fun last ch busy code step => ?_, fun last other => ?_⟩
  · have next : (v.withPort s.smc.release).nextVisit i [] = (v.withPort s.smc.release).beginVisit ⟨i.val + 1, h⟩ := dif_pos h
    rw [next]
    exact ⟨congrArg (fun w : Scu => { w with visit := .socket ⟨i.val + 1, h⟩ 0 false }) scu, brc, pxr,
      asksFor_withPort s v _⟩
  · have next : (v.withPort s.smc.release).nextVisit i [] = (v.withPort s.smc.release).beginChunk := by
      have reading : (v.withPort s.smc.release).brc.atStep .loadLaneMap .reading = true :=
        (congrArg (fun b : Brc => b.atStep .loadLaneMap .reading) brc).trans
          ((s.brc.atStep_iff ch busy _ _).mpr ⟨code, step⟩)
      exact (dif_neg (by rw [last]; decide)).trans (if_pos reading)
    rw [next, ← scu]
    exact ⟨rfl, brc, pxr, asksFor_withPort s v _⟩
  · have next : (v.withPort s.smc.release).nextVisit i [] = (v.withPort s.smc.release).endSweep [] := by
      refine (dif_neg (by rw [last]; decide)).trans (if_neg fun reading => ?_)
      have here : s.brc.atStep .loadLaneMap .reading = true :=
        (congrArg (fun b : Brc => b.atStep .loadLaneMap .reading) brc).symm.trans reading
      cases busy : s.brc.channel with
      | none =>
        unfold Brc.atStep at here
        rw [busy] at here
        cases here
      | some ch =>
        obtain ⟨code, step⟩ := (s.brc.atStep_iff ch busy _ _).mp here
        exact (other ch busy).elim (· code) (· step)
    rw [next]
    refine ⟨s.endSweep_sweepEnds v (by rw [scu]) sockets fun _ _ _ => ⟨brc, pxr⟩, fun noFill => ?_⟩
    obtain ⟨stands, -⟩ := v.endSweep_stands s.smc.release (by rw [brc]; exact noFill)
    rw [stands]
    exact ⟨brc, pxr⟩

/-- What the end of a fail record leaves. -/
theorem State.failDone_leaves (s : State) (i : SocketIx) (slot : Fin 8) (ws : List Word) (long : ws.length = 16) :
    let t := ((s.writeRecord (failBase i slot) ws).releasePort.updSock i Socket.recordMoved).nextMove i
      (s.scu.visit.movesLeft - 1) true
    (∀ k : Nat, k < 16 → t.readWord (failBase i slot + k) = withParity (ws.getD k 0)) ∧
    (∀ a : Nat, a < failBase i slot ∨ failBase i slot + 16 ≤ a → t.readWord a = s.readWord a) ∧
    t.sock i = (s.sock i).recordMoved ∧ (∀ j : SocketIx, j ≠ i → t.sock j = s.sock j) ∧ t.scu.visit.moved = true ∧
    t.brc = s.brc ∧ t.pxr = s.pxr ∧ t.banks = s.banks ∧
    (s.smc.scanWaiting = none → visitGoesOn s t i (s.scu.visit.movesLeft - 1) true) := by
  let w := s.writeRecord (failBase i slot) ws
  let q := w.releasePort.updSock i Socket.recordMoved
  have sockets (j : SocketIx) : w.sock j = s.sock j := by
    unfold State.sock
    rw [State.writeRecord_sockets]
  have here : q.sock i = (s.sock i).recordMoved := (State.sock_updSock_same _ i _).trans (congrArg Socket.recordMoved (sockets i))
  have others (j : SocketIx) (other : j ≠ i) : q.sock j = s.sock j := (State.sock_updSock_other _ i j _ other).trans (sockets j)
  have port : q.smc = { s.smc.release with attention := q.smc.attention } := by
    have eq : q = (w.updSock i Socket.recordMoved).withPort s.smc.release := by
      change w.releasePort.updSock i Socket.recordMoved = _
      rw [State.releasePort_eq, State.updSock_withPort, State.writeRecord_smc]
    rw [eq]
    rfl
  have scu : q.scu = s.scu := by simp [q, w]
  obtain ⟨blocks, -⟩ := q.nextMove_blocks i (s.scu.visit.movesLeft - 1) true
  have moved : (q.nextMove i (s.scu.visit.movesLeft - 1) true).scu.visit.moved = true := by
    unfold State.nextMove
    split <;> rfl
  have goesOn (waits : s.smc.scanWaiting = none) :=
    q.nextMove_goesOn i s (s.scu.visit.movesLeft - 1) true waits port (congrArg Scu.sweepNumber scu)
  change let t := q.nextMove i (s.scu.visit.movesLeft - 1) true; _
  generalize q.nextMove i (s.scu.visit.movesLeft - 1) true = t at blocks moved goesOn
  have mem : t.mem = w.mem := by
    rw [blocks]
    simp [q]
  have epoch : t.epoch = s.epoch := by
    rw [blocks]
    simp [q, w]
  have inside : failBase i slot + ws.length ≤ 65536 := by
    unfold failBase
    omega
  have reads := s.readWord_recorded (failBase i slot) ws mem epoch inside
  rw [long] at reads
  refine ⟨reads.1, reads.2, (congrArg (fun u : State => u.sock i) blocks :).trans here,
    fun j other => (congrArg (fun u : State => u.sock j) blocks :).trans (others j other), moved, ?_, ?_, ?_, goesOn⟩
  · rw [blocks]
    simp [q, w]
  · rw [blocks]
    simp [q, w]
  · rw [blocks]
    simp [q, w]

/-- What the end of the Board Status Record leaves. -/
theorem State.bsrDone_leaves (s : State) (ws : List Word) (long : ws.length = 128) :
    let t := (s.writeRecord bsrBase ws).releasePort.beginVisit 0
    (∀ k : Nat, k < 128 → t.readWord (bcrBase + 128 + k) = withParity (ws.getD k 0)) ∧
    (∀ a : Nat, a < 0x80 ∨ 0x100 ≤ a → t.readWord a = s.readWord a) ∧
    t.scu = { s.scu with visit := .socket 0 0 false } ∧ t.sockets = s.sockets ∧
    t.brc = s.brc ∧ t.pxr = s.pxr ∧ t.banks = s.banks ∧
    (s.smc.scanWaiting = none → asksFor t.smc s.smc.hostWaiting (.scrRead 0)) := by
  let w := s.writeRecord bsrBase ws
  have only : w = { s with mem := w.mem } := s.writeRecord_only bsrBase ws
  have begun : w.releasePort.beginVisit 0 = { s with
      mem := w.mem, scu := { s.scu with visit := .socket 0 0 false }
      smc := requested (w.withPort s.smc.release).smc (.scrRead 0) } := by
    rw [State.releasePort_eq, only]
    rfl
  change let t := w.releasePort.beginVisit 0; _
  rw [begun]
  have reads (t : State) (mem : t.mem = w.mem) (epoch : t.epoch = s.epoch) :=
    s.readWord_recorded bsrBase ws mem epoch (by rw [long]; decide)
  rw [long] at reads
  obtain ⟨inside, outside⟩ := reads { s with
    mem := w.mem, scu := { s.scu with visit := .socket 0 0 false }
    smc := requested (w.withPort s.smc.release).smc (.scrRead 0) } rfl rfl
  exact ⟨inside, outside, rfl, rfl, rfl, rfl, rfl, asksFor_withPort s w _⟩

/-- Settles O35. -/
theorem writeTransfersStoreTheirRecord : Obligations.WriteTransfersStoreTheirRecord := by
  intro s ws live owner
  have holds {tr : Transfer} (is : s.smc.transfer = some tr) : s.transferring = some tr := (if_pos owner).trans is
  refine ⟨fun is long => ⟨_, exec_bsrWriteComplete s [] live (holds is), ?_⟩,
    fun i is long => ⟨_, exec_ssrWriteComplete s [] live (holds is), ?_⟩,
    fun i slot is long => ⟨_, exec_failRecordWriteComplete s [] live (holds is), s.failDone_leaves i slot ws long⟩,
    fun tr u o gap is => ?_⟩
  · exact s.bsrDone_leaves ws long
  · obtain ⟨inside, outside, sockets, banks, posted⟩ := s.ssrDone_leaves i ws long
    exact ⟨inside, outside, sockets, banks, posted, s.ssrDone_goesOn i ws⟩
  · obtain ⟨p, por, release, ends⟩ := transferEnds_gap s tr u o live (holds is)
    exact ⟨p, p.visitEvents gap, _, ends gap, fallsIn_visitEvents gap p por, s.asks_goesOn _ tr, release,
      _, ends [], s.asks_goesOn p tr⟩

end Sys2Proof.Machine
end
